-- ==== Sys2Proof/Word.lean ====
section
/-!
DEFINITION. Sys2Proof/Word.lean: the index and word types of the module, and their plainest arithmetic.

Doorway d (1-16) is `Door` value d − 1; a channel is a door (0-15) or a step (16-31); every other numbered
resource of Table 0-2 is its number less one.
-/
namespace Sys2Proof

abbrev Byte := BitVec 8
/-- Doorway 1-16 (00_scope Table 0-2), numbered from 0. -/
abbrev Door := Fin 16
/-- Encoder channel or Millstone slot: doors 0-15, step channels S1-S16 16-31 (R85). -/
abbrev Ch := Fin 32
/-- Loop group G1, G2. -/
abbrev Group := Fin 2
/-- Bus A, Bus B. -/
abbrev BusId := Fin 2
/-- Field input FI001-FI192. -/
abbrev Fi := Fin 192
/-- Train line TL01-TL16. -/
abbrev Tl := Fin 16
/-- Digital output DO01-DO32. -/
abbrev Dout := Fin 32
/-- Load switch LS01-LS48. -/
abbrev Ls := Fin 48
/-- Test-pulse source T1-T4. -/
abbrev Src := Fin 4

/-- The step channel of a doorway (Table 0-2: a step channel takes its doorway's number). -/
def Door.step (d : Door) : Ch := ⟨16 + d.1, by omega⟩
/-- The door channel of a doorway. -/
def Door.ch (d : Door) : Ch := ⟨d.1, by omega⟩
/-- The doorway a channel belongs to. -/
def Ch.door (c : Ch) : Door := ⟨c.1 % 16, by omega⟩
/-- A channel of 16-31 is a step channel. -/
def Ch.isStep (c : Ch) : Bool := 16 ≤ c.1

/-- Field input k (1-12) of a doorway: FI(12(d − 1) + k) (00_scope, Names and numbering). -/
def Door.fi (d : Door) (k : Fin 12) : Fi := ⟨12 * d.1 + k.1, by omega⟩
/-- The doorway that owns a field input. -/
def Fi.door (n : Fi) : Door := ⟨n.1 / 12, by omega⟩
/-- The position (0-11) of a field input in its doorway's block. -/
def Fi.pos (n : Fi) : Fin 12 := ⟨n.1 % 12, by omega⟩
/-- Digital output DO(2d − 1) or DO(2d) of a doorway. -/
def Door.out (d : Door) (k : Fin 2) : Dout := ⟨2 * d.1 + k.1, by omega⟩
/-- The doorway that owns a digital output. -/
def Dout.door (n : Dout) : Door := ⟨n.1 / 2, by omega⟩
/-- Load switch LS(3d − 2) to LS(3d) of a doorway. -/
def Door.ls (d : Door) (k : Fin 3) : Ls := ⟨3 * d.1 + k.1, by omega⟩
/-- The doorway that owns a load switch. -/
def Ls.door (n : Ls) : Door := ⟨n.1 / 3, by omega⟩

end Sys2Proof
end

