-- ==== Sys2Proof/Syntax.lean ====
section
/-!
DEFINITION. Sys2Proof/Syntax.lean: the commands of the module, one constructor per row of spec/opcode_table.json, and the
plain data their operands carry.

The table gives its rows no operand fields; what a command carries is read from the rule the row names (log 1).
`t` is the mill clock, in nanoseconds, at which the command happens (log 2). A Tally request carries its session and
counter (Table 12-11).
-/
namespace Sys2Proof

/-- The two channels of the safety functions (Table 7-1). -/
inductive SafetyCh where | runner | bedstone
deriving DecidableEq, Repr

/-- Source of a door command (Table 6-8, nibbles of byte 0x1E). -/
inductive CmdSrc where | telegram | trainLine | telegramTl | inner | outer | auto | tally
deriving DecidableEq, Repr

/-- Session and message counter of a Tally request whose tag has been found right (Table 12-11). -/
structure Msg where
  session : BitVec 32
  counter : BitVec 32
deriving DecidableEq, Repr

/-- Where a door reset comes from (R182). -/
inductive ResetSrc where | telegram | tally (m : Msg)
deriving DecidableEq, Repr

/-- A fixed area of the calibration partition (Table 11-5). -/
inductive AreaId where | checkpoint | cal (d : Door) | bias (d : Door) | counters
deriving DecidableEq, Repr

/-- What the module finds at power-on reset: the step 2 checks (R352, R354), the POS strap (R303), the plug's key loop,
the partner's token line and the Millpond's presence loop. Of Millbook's store: the bytes that a record write left which was cut off as
power went (R348), and the copies of fixed areas whose CRC-32C fails (R339). -/
structure BootIn where
  millerRomOk : Bool
  millerRamOk : Bool
  runnerRomOk : Bool
  runnerRamOk : Bool
  posB : Bool
  plugPresent : Bool
  tokIn : Bool
  storePresent : Bool
  cut : Option (List Byte) := none
  badCopies : List (AreaId × Bool) := []
deriving DecidableEq, Repr

/-- What one period brings from outside Millstone's inputs: register parity errors (R90), slots aborted at 600 cycles
(R88), parity errors found by the bucket engines (R90), wait cycles of each slot (R86), the cycles housekeeping took
(R91), the measured DV demand averaged over 8 ms (R80), the bridge temperatures (Table 6-9 temp), the single-bit errors of Miller RAM
and of Runner RAM that were corrected (Table 13-5), and whether LV is below 60 V (R346). -/
structure TickIn where
  parity : List Ch
  aborted : List Ch
  outParity : List Ch
  wait : List (Ch × Nat)
  housekeeping : Nat
  demandW : Nat
  temp : List (Door × Int)
  ramFixed : Nat := 0
  runnerFixed : Nat := 0
  lvLow : Bool := false
deriving DecidableEq, Repr

/-- A leg that waits out a dead time: a door leg or the doorway's step bridge (R54, R63). -/
inductive LegId where | door (l : Fin 3) | step
deriving DecidableEq, Repr

/-- What a conversion sequence delivers: the five values of R55 (currents in mA, link voltage in 0.1 V), or the values of
a CAP conversion in the order of its codes (R113). -/
inductive AdcResult where
  | periodic (ia ib ic istep : Int) (dv : Nat)
  | capture (values : List Int)
deriving DecidableEq, Repr

/-- Cause of a Weir trip, in the order of DCAUSE (Table 3-5). -/
inductive TripCause where | overCurrent | desaturation | gateSupply
deriving DecidableEq, Repr

/-- What Weir's own comparators read when a clear edge arrives (R72): the largest phase current in mA, whether every
switch of the bridge is off, and whether the gate supply has recovered. -/
structure WeirSense where
  ma : Nat
  switchesOff : Bool
  gateOk : Bool
deriving DecidableEq, Repr

/-- Why Runner stops (R201, codes of event 0x323). -/
inductive RunnerStopCause where | lockstep | overrun | romRam
deriving DecidableEq, Repr

/-- One sample of every safety input on one channel's path, each bit 1 where the level reads on: the ten inputs of each
doorway in the order of R200, DL1-FB and DL2-FB, RST-L and the reset train line. -/
structure SafetySample where
  fi : Vector (BitVec 10) 16
  fb : BitVec 2
  rst : Bool
  tl : Bool
deriving DecidableEq, Repr

/-- A switch pair of a doorway (R218). -/
inductive SwitchPair where | lock | closed | step
deriving DecidableEq, Repr

/-- The check of R220 that found the reversal not evidenced. -/
inductive EvidenceCheck where | readback | mode | overrun
deriving DecidableEq, Repr

/-- Safety reset source (R222). -/
inductive ResetInput where | local | trainLine
deriving DecidableEq, Repr

/-- One 100 µs sample of the field inputs and train lines by IN-1, IN-2 and the train-line sampler (R240, R248): each bit
1 where the voltage reads on, and the sink currents in µA of the inputs classified by current (R243). -/
structure FieldSample where
  fi : BitVec 192
  tl : BitVec 16
  ua : List (Fi × Nat)
deriving DecidableEq, Repr

/-- A stamped input (R245). -/
inductive StampInput where | fi (n : Fi) | tl (n : Tl)
deriving DecidableEq, Repr

/-- A CAN frame as it arrives (R269, R278): 29-bit identifiers are marked by `ext`. -/
structure Frame where
  ext : Bool
  id : BitVec 11
  fd : Bool
  brs : Bool
  data : List Byte
deriving DecidableEq, Repr

/-- The identity frame of a partner (R305): its variant, position and HEADER CRC-32C. -/
structure IdFrame where
  variant2216 : Bool
  posB : Bool
  headerCrc : BitVec 32
deriving DecidableEq, Repr

/-- Door entry of the active frame (Table 10-4). -/
structure DoorEntry where
  forceOut : Int
  fHat : Int
  integ : Int
  stroke : Int
  iqM : Int
  bClose : Int
  bOpen : Int
  mode : BitVec 4
  gset : Bool
  rphase : Bool
  scale : BitVec 2
  state : BitVec 4
  confirm : Nat
  stretch : BitVec 8
  obswin : Bool
  decel : Bool
  lzone : Bool
  proven : Bool
  closecmd : Bool
  ref : Bool
  edgereq : Bool
  timer : Nat
  startTick : BitVec 32
  reopens : Nat
  attempts : Nat
deriving DecidableEq, Repr

/-- Step entry of the active frame (Table 10-5). -/
structure StepEntry where
  wOut : Int
  integV : Int
  integI : Int
  iRef : Int
  mode : BitVec 4
  state : BitVec 3
  stroke : BitVec 16
deriving DecidableEq, Repr

/-- A try of the copy of a Hopper object that failed (R279): a transfer parity error, or NEW set again during the copy. -/
inductive HopTry where | parity | collision
deriving DecidableEq, Repr

/-- What the SECDED check of a Hopper object finds when it is read (R278): sound, a single-bit or a double-bit error. -/
inductive HopEcc where | sound | corrected | uncorrectable
deriving DecidableEq, Repr

/-- A read of a Hopper object: its check, and the tries that failed before a whole copy, four where none succeeds (R279). -/
structure HopRead where
  ecc : HopEcc := .sound
  failed : List HopTry := []
deriving DecidableEq, Repr

/-- A receive object that is read, by its place in its group of `n`, with what the read meets. -/
structure HopAt (n : Nat) where
  obj : Fin n
  read : HopRead := {}
deriving DecidableEq, Repr

/-- A transmit object that is sent, with what its SECDED check finds (R278). -/
structure HopSent where
  obj : Fin 128
  ecc : HopEcc := .sound
deriving DecidableEq, Repr

/-- A switch that has been in current limit for `us` µs, or has reached thermal shutdown (R254). -/
structure LimitSpell where
  n : Ls
  us : Nat
  thermal : Bool
deriving DecidableEq, Repr

/-- The least open-load sample of a switch over a window, 0.1 mA (R259). -/
structure LeastSample where
  n : Ls
  least : Nat
deriving DecidableEq, Repr

/-- The highest average of a load switch supply over a window, mA (R260). -/
structure SupplyPeak where
  supply : Fin 2
  ma : Nat
deriving DecidableEq, Repr

/-- How a Cesil frame has ended: whether another control symbol stood in it, and its last two bytes (R308, R309). -/
structure FrameEnd where
  broken : Bool
  crc : BitVec 16
deriving DecidableEq, Repr

/-- A message of the message area (Table 10-6). -/
inductive CesilMsg where
  | busFrame (busMask : BitVec 2) (fd brs : Bool) (id : BitVec 11) (object : Nat) (data : List Byte)
  | liveCheck (ch : Ch) (offset : Nat) (value : BitVec 32)
  | liveApply (ch : Ch) (offset : Nat) (value : BitVec 32) (applyTick : BitVec 32)
  | calChunk (d : Door) (chunk : Fin 16) (bytes : List Byte)
  | calTakeUp (d : Door) (tick : BitVec 32)
deriving DecidableEq, Repr

/-- The active frame (Table 10-3). -/
structure ActiveFrame where
  fseq : BitVec 16
  pclock : BitVec 32
  handover : Bool
  calS : BitVec 32
  calUs : Nat
  tq : BitVec 4
  src : BitVec 2
  doPins : BitVec 32
  lsPins : BitVec 48
  relL : Bool
  relR : Bool
  single : Bool
  cmdNo : BitVec 8
  cmdSeq : BitVec 16
  doors : Vector DoorEntry 16
  steps : Vector StepEntry 16
  msgs : List CesilMsg
deriving DecidableEq, Repr

/-- The back frame (Table 10-11). -/
structure BackFrame where
  bseq : BitVec 16
  ack : BitVec 16
  pstate : BitVec 3
  notready : Nat
  pairiso : Bool
  posmis : BitVec 16
  lwResult : BitVec 2
  lwChannel : Ch
  calResult : BitVec 2
  calDoor : Door
deriving DecidableEq, Repr

/-- Why a store is ABSENT (R345, codes of event 0x3D6). -/
inductive AbsentCause where | loopOpen | fastRise
deriving DecidableEq, Repr

/-- Why the hold after a declared power failure ends (R347). -/
inductive HoldEnd where | storeEmpty | lvBack
deriving DecidableEq, Repr

/-- A power-fail condition of R346 arrives: LV has been below 60 V for so many µs. -/
structure LvLow where
  at_ : Nat
  us : Nat
deriving DecidableEq, Repr

/-- The public key of a key area commit, and what a write of the copy that then fails leaves in it (R373). -/
structure CommitKey where
  bytes : List Byte
  failed : Option (List Byte) := none
deriving DecidableEq, Repr

/-- A maintenance token (R369): the module's, or a doorway's. -/
inductive Token where | module | door (d : Door)
deriving DecidableEq, Repr

/-- Millbook partition (Table 11-1) that READ_RECORDS names. -/
inductive Partition where | cycle | event | trace
deriving DecidableEq, Repr

/-- A read of a partition of Millbook, with the records whose store ECC reports an uncorrectable error at it (R342). -/
structure StoreRead where
  part : Partition
  ecc : List (BitVec 48) := []
deriving DecidableEq, Repr

/-- A status word named by CLEAR_STATUS (Table 13-3). -/
inductive StatusWord where
  | doorCycle (d : Door) | obstacle (d : Door) | drive (d : Door) | position (c : Ch) | millstone (c : Ch)
  | doorIo (d : Door) | safety (g : Group) | bus (b : BusId) | moduleIo | time | pair | millbook
deriving DecidableEq, Repr

/-- Injection request (Table 4-7). -/
structure InjectReq where
  door : Door
  signal : Nat
  amplitude : Nat
  paramA : Nat
  paramB : Nat
  duration : Nat
  lead : Nat
  codes : Vector (BitVec 8) 4
  capPhase : Nat
deriving DecidableEq, Repr

/-- The commands of the module: one constructor per row of the table of operations and events. -/
inductive Instr where
  | powerOnReset (b : BootIn)
  | configurationAccepted (t : Nat)
  | heartbeatWrite (t : Nat)
  | sluiceHeartbeatLoss (t : Nat)
  | safeStateRequest (t : Nat) (ch : SafetyCh)
  | millTick (x : TickIn)
  | stagingAcknowledge (t : Nat) (c : Ch)
  | encoderEdge (t : Nat) (c : Ch) (a b : Bool)
  | indexPulse (t : Nat) (c : Ch) (z : Bool)
  | encoderLineFault (t : Nat) (c : Ch) (present : Bool)
  | encoderSupplyFault (t : Nat) (c : Ch) (present : Bool)
  | encoderFaultClear (t : Nat) (c : Ch)
  | curDwellEnd (t : Nat) (d : Door) (leg : Fin 3)
  | deadTimeEnd (t : Nat) (d : Door) (leg : LegId)
  | pwmPeriodStart (t : Nat) (d : Door)
  | adcTrigger (t : Nat) (d : Door)
  | capConversionTrigger (t : Nat)
  | adcSequenceComplete (t : Nat) (d : Door) (v : AdcResult)
  | isolationPairTimeout (t : Nat) (d : Door) (phases : BitVec 3)
  | isolationPairConducting (t : Nat) (d : Door) (phases : BitVec 3)
  | isolationPairsSensedOpen (t : Nat)
  | brakePathHoldExpiry (t : Nat) (d : Door)
  | weirTrip (t : Nat) (c : Ch) (cause : TripCause) (ma : Nat)
  | weirClearEdge (t : Nat) (c : Ch) (sense : WeirSense)
  | tripClearRequest (t : Nat) (c : Ch)
  | dvUndervoltage (t : Nat) (supply : Fin 2) (dv : Nat)
  | dvRecovered (t : Nat) (supply : Fin 2)
  | dvClampActive (t : Nat) (supply : Fin 2) (dv : Nat)
  | governorStartTick (t : Nat) (c : Ch)
  | governorReservationStage (t : Nat)
  | governorBudgetOverrun (t : Nat) (w : Nat)
  | governorHoldEnd (t : Nat)
  | alignComplete (t : Nat) (d : Door)
  | edgeFault (t : Nat) (d : Door) (ch : SafetyCh)
  | edgeFaultClear (t : Nat) (d : Door) (ch : SafetyCh)
  | stepStall (t : Nat) (d : Door)
  | stepStallRetry (t : Nat) (d : Door)
  | unlockTimeout (t : Nat) (d : Door)
  | openTimeout (t : Nat) (d : Door)
  | closeTimeout (t : Nat) (d : Door)
  | reopenHoldExpiry (t : Nat) (d : Door)
  | lockSwitchTimeout (t : Nat) (d : Door)
  | lockSettleComplete (t : Nat) (d : Door)
  | backdriveCheckEnd (t : Nat) (d : Door)
  | lockPullComplete (t : Nat) (d : Door)
  | stepExtendTimeout (t : Nat) (d : Door)
  | stepRetractTimeout (t : Nat) (d : Door)
  | cycleRecordTimeout (t : Nat) (d : Door)
  | closeCommand (t : Nat) (d : Door) (src : CmdSrc)
  | openCommand (t : Nat) (d : Door) (src : CmdSrc)
  | doorReset (t : Nat) (d : Door) (src : ResetSrc)
  | runnerCycle (t : Nat)
  | runnerStop (t : Nat) (cause : RunnerStopCause)
  | runnerAliveLost (t : Nat)
  | safetyInputSample (t : Nat) (runner bedstone : SafetySample)
  | testPulse (t : Nat) (src : Src)
  | pulseGridLock (t : Nat)
  | sourceFault (t : Nat) (src : Src) (ch : SafetyCh)
  | sourceRetry (t : Nat) (src : Src)
  | feedbackFault (t : Nat) (g : Group) (ch : SafetyCh)
  | outputTest (t : Nat) (g : Group) (lowSide : Bool) (reachedOff : Bool)
  | outputTestMissing (t : Nat) (g : Group)
  | pairDiscrepancy (t : Nat) (d : Door) (pair : SwitchPair) (ch : SafetyCh)
  | channelDiscrepancy (t : Nat) (d : Door)
  | reversalNotEvidenced (t : Nat) (d : Door) (check : EvidenceCheck) (ch : SafetyCh)
  | safetyReset (t : Nat) (src : ResetInput)
  | resetSourceJammed (t : Nat) (src : ResetInput)
  | resetSourceUnjammed (t : Nat) (src : ResetInput)
  | inputSample (t : Nat) (x : FieldSample)
  | wireBreak (t : Nat) (n : Fi)
  | degradedResistor (t : Nat) (n : Fi)
  | wireBreakClear (t : Nat) (n : Fi)
  | inputEdgeStamp (t : Nat) (inp : StampInput) (level : Bool)
  | stampHoldoffEnd (t : Nat) (inp : StampInput)
  | vdoFault (t : Nat) (conn : Fin 4)
  | vdoFaultEnd (t : Nat) (conn : Fin 4)
  | doReadbackCheck (t : Nat) (readback : BitVec 32)
  | doFault (t : Nat) (n : Dout)
  | lsOvercurrent (t : Nat) (x : LimitSpell)
  | lsRetry (t : Nat) (n : Ls)
  | lsTryCountReset (t : Nat) (n : Ls)
  | lsPwmPeriodStart (t : Nat) (n : Ls)
  | openLoad (t : Nat) (n : Ls) (mean : Nat)
  | openLoadClear (t : Nat) (x : LeastSample)
  | lsSupplyOverLimit (t : Nat) (supply : Fin 2) (ma : Nat)
  | lsShedStep (t : Nat) (supply : Fin 2) (ma : Nat)
  | lsShedRestore (t : Nat) (x : SupplyPeak)
  | frameReceived (t : Nat) (b : BusId) (f : Frame)
  | frameTransmitted (t : Nat) (b : BusId) (x : HopSent) (lost errors : Nat)
  | objectWithdrawn (t : Nat) (b : BusId) (obj : Fin 128)
  | busCandidateTimeout (t : Nat) (b : BusId)
  | busRateAdopted (t : Nat) (b : BusId)
  | busFallbackTiming (t : Nat) (b : BusId)
  | busOff (t : Nat) (b : BusId)
  | busOffRecovery (t : Nat) (b : BusId)
  | safeTelegramCopy (t : Nat) (b : BusId) (x : HopAt 4)
  | telegramCopyTimeout (t : Nat) (b : BusId)
  | commandTelegramsLost (t : Nat)
  | singleBusModeEnter (t : Nat)
  | singleBusModeLeave (t : Nat)
  | outputCommand (t : Nat) (b : BusId) (x : HopAt 4)
  | groupStatusTelegram (t : Nat)
  | statusPageSend (t : Nat)
  | timeReference (t : Nat) (b : BusId) (x : HopAt 4) (sof : Nat)
  | timeSourceInvalid (t : Nat)
  | identityFrameSend (t : Nat)
  | identityFrame (t : Nat) (f : IdFrame)
  | pairFormation (t : Nat)
  | tokenInReleased (t : Nat)
  | tokenInAsserted (t : Nat)
  | tokenAssertDelayEnd (t : Nat)
  | plannedHandover (t : Nat)
  | readySymbol (t : Nat)
  | activeFrameReceived (t : Nat) (x : FrameEnd) (f : ActiveFrame)
  | backFrameReceived (t : Nat) (x : FrameEnd) (f : BackFrame)
  | calibrationTakeUp (t : Nat) (d : Door)
  | liveWriteCheckTimeout (t : Nat)
  | streamLost (t : Nat)
  | streamRegained (t : Nat)
  | arbiterDesignation (t : Nat) (arb1 arb2 : Bool)
  | arbiterDesignationInvalid (t : Nat)
  | flushPeriodic (t : Nat)
  | flushComplete (t : Nat)
  | checkpointWrite (t : Nat)
  | tokenBucketRefill (t : Nat) (code : Nat)
  | millpondPresenceOpen (t : Nat) (cause : AbsentCause)
  | millpondCharged (t : Nat)
  | millpondPeriodicTest (t : Nat)
  | millpondTestComplete (t : Nat) (uf mohm : Nat)
  | millpondVoltageChange (t : Nat) (mv : Nat)
  | millpondReplacementDue (t : Nat)
  | powerFailDeclared (x : LvLow)
  | lvDipRiddenThrough (t : Nat) (us : Nat)
  | powerFailHoldEnd (t : Nat) (cause : HoldEnd)
  | millbookRefreshScan (t : Nat)
  | refreshSector (t : Nat)
  | plugRemoved (t : Nat)
  | plugRefitted (t : Nat) (content : List (Nat × Byte))
  | openSession (t : Nat) (nonce : List Byte)
  | closeSession (t : Nat) (m : Msg)
  | sessionTimeout (t : Nat) (session : BitVec 32)
  | tagFailure (t : Nat) (session : BitVec 32)
  | tokenTake (t : Nat) (m : Msg) (k : Token)
  | tokenRelease (t : Nat) (m : Msg) (k : Token)
  | readWords (t : Nat) (m : Msg) (addr : BitVec 32) (count : Nat)
  | clearStatus (t : Nat) (m : Msg) (w : StatusWord) (mask : BitVec 32)
  | readRecords (t : Nat) (m : Msg) (x : StoreRead) (first : BitVec 48) (limit : Nat)
  | readStamps (t : Nat) (m : Msg) (n : Nat)
  | readHopper (t : Nat) (m : Msg) (b : BusId) (x : HopAt 128)
  | readCapture (t : Nat) (m : Msg) (first count : Nat)
  | maintStatus (t : Nat) (m : Msg)
  | serviceEnter (t : Nat) (m : Msg) (d : Door)
  | serviceLeave (t : Nat) (m : Msg) (d : Door)
  | serviceTokenLost (t : Nat) (d : Door)
  | jog (t : Nat) (m : Msg) (c : Ch) (speed : Int)
  | backdriveTest (t : Nat) (m : Msg) (d : Door)
  | tenterStart (t : Nat) (m : Msg) (d : Door)
  | tenterStop (t : Nat) (m : Msg) (d : Door)
  | tenterRunEnd (t : Nat)
  | liveWrite (t : Nat) (m : Msg) (c : Ch) (offset : Nat) (value : BitVec 32)
  | inject (t : Nat) (m : Msg) (payload : List (BitVec 8))
  | captureEnd (t : Nat)
  | slotWrite (t : Nat) (m : Msg) (slotB : Bool) (offset : Nat) (data : List Byte)
  | slotRead (t : Nat) (m : Msg) (slotB : Bool) (offset len : Nat)
  | slotVerify (t : Nat) (m : Msg) (slotB : Bool)
  | slotWriteIdleTimeout (t : Nat) (slotB : Bool)
  | doorwayRestart (t : Nat) (m : Msg) (d : Door) (bucket : Bool)
  | doorwayRestartComplete (t : Nat) (d : Door)
  | imageSwitch (t : Nat) (m : Msg)
  | switchoverTest (t : Nat) (m : Msg)
  | millpondTest (t : Nat) (m : Msg)
  | calendarSet (t : Nat) (m : Msg) (sec : BitVec 32) (us : Nat)
  | identityRead (t : Nat) (m : Msg) (copy : Fin 2) (offset len : Nat)
  | keyAreaStage (t : Nat) (m : Msg) (offset : Nat) (data : List Byte)
  | keyAreaCommit (t : Nat) (m : Msg) (key : CommitKey) (sig : List Byte)
  | keyStageTimeout (t : Nat) (session : BitVec 32)
  | bucketProgramParity (t : Nat) (d : Door) (role : Fin 12)
  | millerRamDoubleError (t : Nat)
  | millpondFitted (t : Nat)
  | busError (t : Nat) (b : BusId) (tec rec : Nat)
  | windowComparatorCrossing (t : Nat) (d : Door) (leg : Fin 3) (ma : Int)
  | brakeLimitExceeded (t : Nat) (d : Door) (ma : Nat)
  | isolationPairsSensedClosed (t : Nat) (d : Door)
  | arpAndIcmpEcho (t : Nat)
  | fragmentedDatagram (t : Nat)
deriving DecidableEq, Repr

end Sys2Proof
end

