-- ==== Sys2Proof/Decode.lean ====
section
/-!
DEFINITION. Sys2Proof/Decode.lean: the command a word of the table spells. The spec's table gives none of its rows any bits
(every "fields" is empty and no row has a pattern), so no word spells a command.
-/
namespace Sys2Proof

/-- No row of the table has bits: every word is rejected. -/
def decodeTableWord (_nbits _w : Nat) : Option Instr := none

end Sys2Proof
end

