-- ==== Sys2Proof/Config.lean ====
section
/-!
DEFINITION. Sys2Proof/Config.lean: what an implementation fixes and the spec leaves open: free values and
uninterpreted functions. None has a body that a proof could evaluate, so a claim holds whatever they are.
-/
namespace Sys2Proof.Config

/-- The sine, in full turns, that Millstone's commutation uses (R100, R119). The spec names the function and states no
table, word length or rounding, so its values stay free (log 7). -/
opaque sinTurn : Rat → Rat

/-- HMAC-SHA-256 (R370, R371): key and text to 32 bytes. The algorithm is named, its definition is not in the spec. -/
opaque hmacSha256 : List Byte → List Byte → List Byte

/-- SHA-256 (R358, Table 12-3). -/
opaque sha256 : List Byte → List Byte

/-- Ed25519 signature check (R357, R371): public key, signature, text. -/
opaque ed25519 : List Byte → List Byte → List Byte → Bool

/-- The module's own 16-byte nonce of a Tally session (R371): the spec does not say how it is drawn. The argument is
the model's free-value counter. -/
opaque nonce : Nat → List Byte

/-- The session ID that the module answers (R371): not stated how it is chosen. -/
opaque sessionId : Nat → BitVec 32

/-- Bit n of a maximal-length sequence of an order (R112): the spec names no polynomial and no start. -/
opaque prbsBit : Nat → Nat → Bool

/-- A value the spec leaves unstated. The argument is the model's free-value counter (log 5). -/
opaque freeValue : Nat → BitVec 32

end Sys2Proof.Config
end

