-- ==== Sys2Proof/Machine/Params.lean ====
section
/-!
DEFINITION. Sys2Proof/Machine/Params.lean: the configuration parameters, one structure per block of the field maps, each
field under the last part of its dotted name and at the default its map gives. These are the RAM copies of R7.
Q16.16 gains are held raw. Profiles, programs and masks have no default (R399) and stand at 0.
-/
namespace Sys2Proof.Machine

/-- Encoder and stroke block without the compare entries (Table 2-2). -/
structure EncCfg where
  countsPerRev : Nat := 4096
  indexTolerance : Nat := 2
  invert : Bool := false
  indexGate : Bool := false
  indexCheck : Bool := true
  minEdgeNs : Nat := 100
  hysteresis : Nat := 8
  rearm : Nat := 16
  scaleNm : Nat := 25000
  openSc : Nat := 26000
  closedWindow : Nat := 40
  spacingLimit : Nat := 16
deriving DecidableEq, Repr

/-- Compare entry (Table 2-3). -/
structure CmpEntry where
  pos : Int := 0
  action : Nat := 0
  arg : Nat := 0
deriving DecidableEq, Repr

/-- Door drive block (Table 3-2). -/
structure DriveCfg where
  bandMa : Nat := 150
  deadNs : Nat := 300
  dwellNs : Nat := 12500
  limitMa : Nat := 8000
  weirOcMa : Nat := 10000
  brakeLimitMa : Nat := 6000
  startW : Nat := 300
  startMs : Nat := 400
  runW : Nat := 120
  autoClearMax : Nat := 3
deriving DecidableEq, Repr

/-- Step drive block (Table 3-3). -/
structure StepDriveCfg where
  deadNs : Nat := 400
  minPulseNs : Nat := 600
  phaseOffsetNs : Nat := 0
  weirOcMa : Nat := 5000
  startW : Nat := 60
  startMs : Nat := 300
  runW : Nat := 30
  autoClearMax : Nat := 3
deriving DecidableEq, Repr

/-- The live coefficients of a channel: the fields marked L of Tables 4-4 and 4-6 (R108). Door gains are kp[0], ki[0],
kp[1], ki[1]; step gains kp_v, ki_v, kp_i, ki_i; aw is the step's aw_gain. -/
structure LiveCoef where
  aw : Nat := 16384
  g0 : Nat := 0
  g1 : Nat := 0
  g2 : Nat := 0
  g3 : Nat := 0
  alpha : Nat := 16384
  ffEnable : Bool := true
  cogEnable : Bool := true
deriving DecidableEq, Repr

/-- Door control block (Table 4-4). -/
structure CtlCfg where
  kp0 : Nat := 0x6666
  ki0 : Nat := 0x051F
  kp1 : Nat := 0x4000
  ki1 : Nat := 0x028F
  forceClose : Nat := 150
  forceOpen : Nat := 200
  slew : Nat := 40
  reverseOpen : Nat := 150
  reverseClose : Nat := 0
  handoverSpeed : Nat := 200
  alpha : Nat := 16384
  kf : Nat := 40000
  polePairs : Nat := 4
  ffEnable : Bool := true
  cogEnable : Bool := true
  jogForce : Nat := 80
  jogSpeed : Nat := 500
  alignMa : Nat := 1000
deriving DecidableEq, Repr

/-- Step control block (Table 4-6). -/
structure StepCtlCfg where
  kpV : Nat := 20 * 65536
  kiV : Nat := 32768
  kpI : Nat := 8 * 65536
  kiI : Nat := 39322
  awGain : Nat := 16384
  currentLimit : Nat := 1500
  alpha : Nat := 16384
  jogSpeed : Nat := 300
deriving DecidableEq, Repr

/-- Obstacle block (Table 5-5). -/
structure ObsCfg where
  closeThreshold : Nat := 80
  openThreshold : Nat := 120
  alpha : Nat := 8192
  confirm : Nat := 2
  enable : Bool := true
  plausN : Nat := 25
  plausPeriods : Nat := 800
  biasStep : Nat := 20
  minPeriods : Nat := 200
  edgeFilter : Nat := 10
  edgeDiscMs : Nat := 100
  tenterLow : Nat := 200
  tenterHigh : Nat := 500
  passes : Nat := 2
  maxRms : Nat := 100
  minSpeed : Nat := 50
deriving DecidableEq, Repr

/-- Door cycle block (Table 6-10a). -/
structure CycleCfg where
  closeSource : Nat := 2
  openMode : Nat := 0
  innerButton : Bool := true
  outerButton : Bool := true
  maxReopens : Nat := 3
  maxAttempts : Nat := 2
  reopenSc : Nat := 4000
  reopenHoldMs : Nat := 2000
  openTimeoutMs : Nat := 8000
  closeTimeoutMs : Nat := 10000
  openHoldN : Nat := 20
  preloadN : Nat := 20
  pullMs : Nat := 200
  holdPct : Nat := 40
  unlockTimeoutMs : Nat := 300
  switchTimeoutMs : Nat := 300
  settleMs : Nat := 10
  backdriveN : Nat := 60
  backdriveMs : Nat := 80
  backdriveMax : Nat := 20
deriving DecidableEq, Repr

/-- Step cycle block (Table 6-10b) and step stall block (Table 5-6). -/
structure StepCycleCfg where
  extendFirst : Bool := false
  retractFirst : Bool := false
  stallExtended : Bool := false
  extendTimeoutMs : Nat := 3000
  retractTimeoutMs : Nat := 3000
  holdMa : Nat := 200
  stallSpeed : Nat := 100
  stallMs : Nat := 200
  endZone : Nat := 200
deriving DecidableEq, Repr

/-- A DOORWAY section (Table 12-6), with the CRC-32C of its directory entry. -/
structure DoorCfg where
  enc : EncCfg := {}
  cmp : Vector CmpEntry 32 := Vector.replicate 32 {}
  drive : DriveCfg := {}
  ctl : CtlCfg := {}
  profOpen : Vector Nat 64 := Vector.replicate 64 0
  profClose : Vector Nat 64 := Vector.replicate 64 0
  obs : ObsCfg := {}
  cyc : CycleCfg := {}
  crc : BitVec 32 := 0
deriving DecidableEq, Repr

/-- A STEP section (Table 12-6). -/
structure StepCfg where
  enc : EncCfg := {}
  drive : StepDriveCfg := {}
  ctl : StepCtlCfg := {}
  profExtend : Vector Nat 64 := Vector.replicate 64 0
  profRetract : Vector Nat 64 := Vector.replicate 64 0
  cyc : StepCycleCfg := {}
  crc : BitVec 32 := 0
deriving DecidableEq, Repr

/-- One engine entry of a BUCKET section (Table 12-8). -/
structure BucketEntry where
  role : Nat := 0
  words : Nat := 0
  program : List (BitVec 32) := []
deriving DecidableEq, Repr

/-- Personality block (Table 12-7) and drive power block (Table 3-4). -/
structure PersCfg where
  variant : BitVec 8 := 0x10
  doors : BitVec 16 := 0
  steps : BitVec 16 := 0
  sides : BitVec 16 := 0xFF00
  groups : BitVec 16 := 0xFF00
  heartbeatMs : Nat := 5
  budgetW : Nat := 2400
  staggerMs : Nat := 60
  minStretch : Nat := 128
  supplyMa : Nat := 16000
  maxDelayMs : Nat := 1500
  brakeHoldMs : Nat := 3000
  supplyContMa : Nat := 8000
deriving DecidableEq, Repr

/-- Field input entry (Table 8-5). -/
structure FiCfg where
  limit : Nat := 20
  general : Bool := false
  invert : Bool := false
  stamp : Bool := false
  wireBreak : Bool := false
deriving DecidableEq, Repr

/-- Train-line entry (Table 8-6). -/
structure TlCfg where
  limit : Nat := 50
  function : Nat := 7
  stamp : Bool := false
deriving DecidableEq, Repr

/-- Digital output entry (Table 8-7); safe state 0 off, 1 on, 2 hold. -/
structure DoutCfg where
  source : Nat := 0
  safe : Nat := 0
  function : Nat := 0
  mismatchMs : Nat := 5
deriving DecidableEq, Repr

/-- Default function of a train line (Table 8-3): TL01-TL06 functions 1-6, the rest general-purpose. -/
def tlDefault (n : Nat) : TlCfg := { function := if n < 6 then n + 1 else 7 }

/-- IO section (R265). -/
structure IoCfg where
  holdoffUs : Nat := 1000
  fi : Vector FiCfg 192 := Vector.replicate 192 {}
  tl : Vector TlCfg 16 := Vector.ofFn fun n => tlDefault n.1
  dout : Vector DoutCfg 32 := Vector.replicate 32 {}
deriving DecidableEq, Repr

/-- Load switch entry (Table 8-9). -/
structure LsEntryCfg where
  role : Nat := 0
  safe : Nat := 0
  shed : Bool := false
  olRange : Nat := 1
  olThreshold : Nat := 50
  duty : Nat := 1000
deriving DecidableEq, Repr

/-- LOADSW section (Tables 8-8 and 8-9); the default role goes by the position in the doorway's block. -/
structure LsCfg where
  maxTries : Nat := 6
  openLoadMs : Nat := 200
  supplyLimitMa : Nat := 16000
  sw : Vector LsEntryCfg 48 := Vector.ofFn fun n => { role := n.1 % 3 + 1 }
deriving DecidableEq, Repr

/-- Bit-timing entry (Table 9-1). -/
structure TimingCfg where
  nominal : Nat := 0
  data : Nat := 0
  nominalSp : Nat := 80
  dataSp : Nat := 75
deriving DecidableEq, Repr

/-- The default candidate list of Table 9-1. -/
def candidatesDefault : Vector TimingCfg 8 :=
  #v[{ nominal := 3, data := 2 }, { nominal := 2, data := 1 }, { nominal := 4, data := 4 },
     { nominal := 3 }, { nominal := 2 }, { nominal := 1 }, {}, {}]

/-- Bus block (Table 9-14b). -/
structure BusBlkCfg where
  listenOnly : Bool := false
  autodetect : Bool := true
  candidates : Vector TimingCfg 8 := candidatesDefault
  timing : TimingCfg := { nominal := 3, data := 2 }
deriving DecidableEq, Repr

/-- BUS section (Tables 9-14 and 9-14b). -/
structure BusCfg where
  node : Nat := 1
  vcuNode : Nat := 14
  timeMaster : Nat := 15
  releaseMode : Nat := 2
  safeCycleMs : Nat := 50
  statusMs : Nat := 100
  refPeriodMs : Nat := 1000
  useA : Bool := true
  useB : Bool := true
  usePartner : Bool := true
  bus : Vector BusBlkCfg 2 := Vector.replicate 2 {}
deriving DecidableEq, Repr

/-- The default source tag word (R215, Tables 7-7 and 7-8): a = T1, b = T2 on doorways 1-8, a = T3, b = T4 on 9-16. -/
def tagDefault (d : Nat) : BitVec 32 := if d < 8 then 0x00050444 else 0x000FAEEE

/-- Bedstone block (Table 7-7). -/
structure BedstoneCfg where
  format : BitVec 16 := 1
  variant : BitVec 8 := 0x10
  doors : BitVec 16 := 0
  steps : BitVec 16 := 0
  groupMap : BitVec 16 := 0xFF00
  filterLimit : Nat := 20
  resetLocal : Bool := true
  resetTlOn : Bool := true
  pairDiscMs : Nat := 150
  channelDiscMs : Nat := 50
  resetTl : Nat := 5
  fbSource : Vector Nat 2 := #v[1, 3]
  tags : Vector (BitVec 32) 16 := Vector.ofFn fun d => tagDefault d.1
  edgeFilter : Vector Nat 16 := Vector.replicate 16 10
  edgeDisc : Vector Nat 16 := Vector.replicate 16 100
  crcOk : Bool := true
deriving DecidableEq, Repr

/-- Runner block (Table 7-9). -/
structure RunnerCfg where
  overrunSc : Nat := 400
  evidenceMs : Nat := 200
  minOffMs : Nat := 500
deriving DecidableEq, Repr

/-- Recorder block (Table 11-8). -/
structure RecCfg where
  burst : Nat := 8
  traceInterval : Nat := 16
  refillS : Nat := 60
  triggers : BitVec 7 := 0x7F
  minSeverity : Nat := 1
  flushMin : Nat := 10
  fitted : Bool := true
  testHours : Nat := 24
  minUf : Nat := 22000
deriving DecidableEq, Repr

/-- Pair block (Table 10-8). -/
structure PairCfg where
  enable : Bool := false
  followArbiter : Bool := true
  lossPeriods : Nat := 3
  arbConfirmMs : Nat := 20
  posTolSc : Nat := 8
  formTimeoutMs : Nat := 500
deriving DecidableEq, Repr

/-- Keys block (Table 12-9). -/
structure KeysCfg where
  rotate : Bool := false
  hash : Vector (List Byte) 4 := Vector.replicate 4 []
deriving DecidableEq, Repr

/-- The decoded image that the module runs on: RAM copies of every section (R7, R357). -/
structure Image where
  headerVariant : BitVec 8 := 0x10
  generation : BitVec 32 := 0
  headerCrc : BitVec 32 := 0
  vehicleId : List Byte := []
  pers : PersCfg := {}
  door : Vector DoorCfg 16 := Vector.replicate 16 {}
  step : Vector StepCfg 16 := Vector.ofFn fun n => { drive := { phaseOffsetNs := n.1 * 3125 } }
  bucket : Vector (Vector BucketEntry 12) 16 := Vector.replicate 16 (Vector.ofFn fun k => { role := k.1 })
  io : IoCfg := {}
  ls : LsCfg := {}
  bus : BusCfg := {}
  bedstone : BedstoneCfg := {}
  runner : RunnerCfg := {}
  recorder : RecCfg := {}
  pair : PairCfg := {}
  keys : KeysCfg := {}
deriving DecidableEq, Repr

end Sys2Proof.Machine
end

