-- ==== Sys2Proof/Machine/State.lean ====
section
/-!
DEFINITION. Sys2Proof/Machine/State.lean: everything the spec gives the module, as plain data, and its value at reset.

Times are mill clock nanoseconds (R16: the clock counts microseconds; edges, dwells and PWM need finer steps). A deadline
or an "until" is `Option Nat`, none while it is not running. Every field's default is its value at reset; where the spec
gives none the choice is log 3 (zero, empty, false). Physical quantities of Millstone are exact rationals (log 6).
-/
namespace Sys2Proof.Machine

/-- The machine stops with a fault: no rule of the spec stops this block, every command has a next state, so the type is empty. -/
inductive Fault
deriving DecidableEq, Repr

/-- Why a command has no meaning. `notModelled`: the arm of a command the model gives none to (raised by no meaning; safe). -/
inductive Refusal where
  | notModelled (mnemonic : String)
deriving DecidableEq, Repr

/-! ## Counters and records -/

/-- A 48-bit lifetime counter with its OVF bit (R379). -/
structure Ctr where
  value : BitVec 48 := 0
  ovf : Bool := false
deriving DecidableEq, Repr

/-- The cycle record's fields that accumulate during a cycle (Table 6-9 from 0x1A). -/
structure CycleRec where
  seq : BitVec 32 := 0
  openSrc : Nat := 0
  closeSrc : Nat := 0
  outcome : Nat := 0
  openMs : Nat := 0
  closeMs : Nat := 0
  peakClose : Option Rat := none
  sumClose : Rat := 0
  nClose : Nat := 0
  peakOpen : Option Rat := none
  sumOpen : Rat := 0
  nOpen : Nat := 0
  revObs : Nat := 0
  revEdge : Nat := 0
  prfR : Nat := 0
  prfB : Nat := 0
  prfS : Nat := 0
  excursion : Nat := 0
  attempts : Nat := 0
  stepExtMs : Nat := 0
  stepRetMs : Nat := 0
  stretchOpen : Nat := 0
  stretchClose : Nat := 0
  delayOpen : Nat := 0
  delayClose : Nat := 0
  biasClose : Int := 0
  biasOpen : Int := 0
  temp : Int := 0
  slowc : Bool := false
  refcls : Bool := false
  takeover : Bool := false
  loopok : Bool := false
  stepflt : Bool := false
  superseded : Bool := false
  dwellMs : Nat := 0
  /-- Working times of the cycle: entry to UNLOCKING, last CLOSING start, entry to OPEN or REOPEN_HOLD, step start. -/
  unlockAt : Nat := 0
  closeAt : Nat := 0
  stepAt : Nat := 0
  /-- The trace of this cycle has been triggered (R340). -/
  traced : Bool := false
deriving DecidableEq, Repr

/-- One trace entry (Table 11-4): stroke (24 bits), mode, door state, f_hat in 0.1 N and iq_m in mA. -/
structure TraceEntry where
  stroke : BitVec 24
  mode : BitVec 4
  state : BitVec 4
  fHat : Int
  iqM : Int
deriving DecidableEq, Repr

/-- A force-profile trace (Table 11-4). -/
structure Trace where
  cycleSeq : BitVec 32
  trigger : Nat
  interval : Nat
  trigEntry : Nat
  tick0 : BitVec 32
  scaleNm : Nat
  thrClose : Nat
  thrOpen : Nat
  bClose : Int
  bOpen : Int
  stretch : Nat
  entries : List TraceEntry
deriving DecidableEq, Repr

/-- What follows a record's header (R330): a cycle record, an event record (Table 11-2) or a trace. -/
inductive RecBody where
  | cycle (c : CycleRec)
  | event (suppressed state : Nat) (cause : Nat) (a b c : BitVec 32) (detail : BitVec 32)
  | trace (tr : Trace)
deriving DecidableEq, Repr

/-- A Millbook record with the header of bytes 0x00-0x19 (R330, R332). Doorway 0 is a module record. -/
structure Record where
  seq : BitVec 48 := 0
  event : Nat
  mill : Nat
  calUs : Nat
  tq : Nat
  severity : Nat
  doorway : Nat
  body : RecBody
  /-- The stored record's CRC does not match: its write was cut off (R348), which left these bytes in its place. -/
  bad : Bool := false
  left : List Byte := []
  /-- Times it has been rewritten in place (R368). -/
  rewrites : Nat := 0
deriving DecidableEq, Repr

/-- Token bucket of one event code (R334). -/
structure Bucket where
  tokens : Nat
  timer : Option Nat := none
  /-- Occurrences since the last record of the code that was created. -/
  since : Nat := 0
deriving DecidableEq, Repr

/-! ## Encoder channel and compare engine -/

/-- One encoder channel (02_stroke). -/
structure Enc where
  /-- Levels of A, B and Z at the last sample (R25, R33). -/
  a : Bool := false
  b : Bool := false
  z : Bool := false
  /-- The 24-bit channel counter (R25, R26), and its value at the last phase 0 latch. -/
  count : BitVec 24 := 0
  latched : BitVec 24 := 0
  /-- Last counted edge, ns (R30, R94). -/
  edgeAt : Option Nat := none
  /-- Spacing faults of the last 100 ms (R30). -/
  spacingAt : List Nat := []
  /-- R27: last_count and the 48-bit signed extended position. -/
  last : BitVec 24 := 0
  ext : BitVec 48 := 0
  /-- R28: extended position at referencing; REF. -/
  reference : BitVec 48 := 0
  ref : Bool := false
  /-- Counts of the latches of the last 20 ms, newest first, for stand-still (R39). -/
  hist : List (BitVec 24) := []
  atRest : Bool := false
  /-- Direction of travel (R35): turning point, movement declared since rest, DIR and whether it was ever set. -/
  turn : BitVec 24 := 0
  moving : Bool := false
  dir : Bool := false
  dirSet : Bool := false
  /-- Commanded direction of travel (true opening), and whether a declared movement in it counts yet (R35 AGC). -/
  travel : Option Bool := none
  travelMade : Bool := false
  /-- Status bits of Table 2-4. -/
  rev : Bool := false
  agc : Bool := false
  idxOk : Bool := false
  idxMis : Bool := false
  spacing : Bool := false
  illegal : Bool := false
  line : Bool := false
  supply : Bool := false
  encFlt : Bool := false
  refClose : Bool := false
  lastCmp : BitVec 5 := 0
  cmpValid : Bool := false
  /-- Index check (R33): count at the last index, interval from it checkable, reversal in it, last checked interval missed,
  start of the run without an index, Z high and not yet taken, direction of the last counted edge, and that at the last index. -/
  idxAt : Option (BitVec 24) := none
  idxFresh : Bool := false
  idxReversed : Bool := false
  idxMissed : Bool := false
  idxRun : BitVec 24 := 0
  idxWait : Bool := false
  /-- The running interval has already been declared a missing index. -/
  idxLate : Bool := false
  edgeUp : Bool := false
  idxUp : Bool := false
  /-- Line or supply fault condition present now; last moment a condition of R30-R32 stood (R36); braking until rest. -/
  lineBad : Bool := false
  supplyBad : Bool := false
  faultAt : Nat := 0
  faultBrake : Bool := false
  /-- Largest correction since restart (R40). -/
  maxCorrection : Nat := 0
  /-- An encoder fault arose while the doorway was ISOLATED (R179). -/
  faultIsolated : Bool := false
deriving DecidableEq, Repr

/-- CMP engine of a doorway (R42-R47): armed set (true opening), entry arming, state flags, and what it delivers to
Miller at the next latch. -/
structure Cmp where
  set : Option Bool := none
  armed : BitVec 32 := 0
  window : Bool := false
  decel : Bool := false
  lzone : Bool := false
  /-- Lock-zone entry delivered as an item of the tick; step cues in the order of delivery (true extend); deceleration start
  delivered. -/
  lzoneItem : Bool := false
  cueItems : List Bool := []
  decelItem : Bool := false
  marker : Option Nat := none
deriving DecidableEq, Repr

/-! ## Drive stage -/

/-- A leg of the door bridge (R52-R54): commanded level, the switch for it conducting, dwell and dead time running. -/
structure LegSt where
  high : Bool := false
  on : Bool := false
  dwell : Option Nat := none
  dead : Option Nat := none
  /-- What the window comparator commands at its last reading: high, low, or nothing inside the band (R52). -/
  cmp : Option Bool := none
deriving DecidableEq, Repr

/-- Step bridge mode (R58). -/
inductive PwmMode where | coast | brake | drive
deriving DecidableEq, Repr

/-- The 16-bit command word of PWM-S (R62). The spec gives its three parts and no bit places. -/
structure PwmWord where
  duty : BitVec 12 := 0
  dir : Bool := false
  mode : PwmMode := .coast
deriving DecidableEq, Repr

/-- Shape of the running PWM period (R59-R61), clocks of 5 ns: high side on and off, low side on again. -/
inductive PwmShape where
  | off
  | pulse (highOn highOff lowOn : Nat)
  | fullOn
  | forcedOff (offClocks : Nat)
  | brake
  | coast
deriving DecidableEq, Repr

/-- A completed conversion (R55); a value at a full-scale code counts as not completed (R57). -/
structure Sample where
  ia : Option Int
  ib : Option Int
  ic : Option Int
  istep : Option Int
deriving DecidableEq, Repr

/-- Weir and Miller's handling of a trip, for one bridge (R70-R73). -/
structure Weir where
  trip : Option TripCause := none
  /-- Phase current of the trip, or of the last refused clear, mA. -/
  ma : Nat := 0
  /-- Trips of the last 10 s. -/
  times : List Nat := []
  /-- Next clear request due; first request after the trip; a request stands and waits for the edge. -/
  clearAt : Option Nat := none
  firstClear : Option Nat := none
  requested : Bool := false
  /-- No further clear is requested (R73 step 4). -/
  held : Bool := false
deriving DecidableEq, Repr

/-- Drive stage of one doorway (03_drive_stages). -/
structure Drv where
  /-- Phase references in force from `refsAt` (phase 110 µs), and the ones before them (R10, R51). -/
  refs : Vector Int 3 := Vector.replicate 3 0
  refsAt : Nat := 0
  refsPrev : Vector Int 3 := Vector.replicate 3 0
  /-- Bridge switching enabled (R65). -/
  bridgeOn : Bool := false
  legs : Vector LegSt 3 := Vector.replicate 3 {}
  /-- Last five conversions, newest first, none where dropped or not completed (R55). -/
  bank : List (Option Sample) := []
  /-- End of the running sequence, and whether it is a CAP conversion (R56). -/
  busy : Option Nat := none
  busyCap : Bool := false
  /-- DV link voltage of the last completed conversion, 0.1 V. -/
  dv : Nat := 0
  /-- PWM-S (R62): shadow and active command words, shape of the running period, periods without a low-side pulse. -/
  shadow : PwmWord := {}
  active : PwmWord := {}
  /-- Moment at which the shadow word was or will be written (phase 110 µs), and the word it held before. -/
  shadowAt : Nat := 0
  shadowPrev : PwmWord := {}
  shape : PwmShape := .coast
  fullRun : Nat := 0
  /-- Dead time before the new held leg turns on (R63). -/
  stepDead : Option Nat := none
  /-- Isolation pairs (R64-R66): commanded closed, sensed closed, moment of the command, blocked until restart. -/
  pairsCmd : Bool := false
  pairsSensed : Bool := false
  pairsAt : Nat := 0
  isoBlocked : Bool := false
  /-- The isolation fault of R66 stands (cause 2 of Table 6-6). -/
  isoFaulted : Bool := false
  /-- Braking path (R68): on until the end of its hold; asked for, waiting for the pairs to open; turned on by Sluice (R12, R347). -/
  brake : Option Nat := none
  brakeAsked : Bool := false
  brakeSluice : Bool := false
  /-- Low-side braking, and low sides off until (R67); the period's Brake output, in force from its phase 110 µs (R10). -/
  lowBrk : Bool := false
  lowOff : Option Nat := none
  lowNext : Option (Bool × Nat) := none
  /-- Weir of the door bridge and of the step bridge. -/
  weir : Weir := {}
  sweir : Weir := {}
  /-- The supply's bridges are stopped until the link is back (R74). -/
  dvStopped : Bool := false
  /-- A door or a step that the supply's fault brakes until rest, from the tick named (R74). -/
  dvBrake : Option Nat := none
  dvBrakeStep : Option Nat := none
  /-- Status bits of Table 3-5 that hold state of their own. -/
  isoFlt : Bool := false
  clamp : Bool := false
  drop : Bool := false
  fullOn : Bool := false
  adcOvr : Bool := false
  range : Bool := false
  clrRef : Bool := false
  stretch : Nat := 256
  govDly : Bool := false
deriving DecidableEq, Repr

/-- A DV supply (R74). -/
structure Supply where
  /-- Declared under-voltage; the link reads below 60 V now (DVUV). -/
  uv : Bool := false
  low : Bool := false
deriving DecidableEq, Repr

/-- A power reservation (R75): start stage from `start` to `stageEnd`, then run stage to `stop`, in mill ticks. -/
structure Reservation where
  ch : Ch
  supply : Fin 2
  startW : Nat
  runW : Nat
  s : Nat
  start : Nat
  stageEnd : Nat
  stop : Nat
  /-- A granted door start, which anchors the stagger of R76; a reversal's reservation (R79) is none. -/
  granted : Bool := true
  /-- The motion has ended; kept for the 10 s windows of R75. -/
  ended : Bool := false
deriving DecidableEq, Repr

/-- The Governor (R75-R80). -/
structure Governor where
  res : List Reservation := []
  /-- R80: measured demand (W), over budget since, latest tick over budget, hold in force. -/
  demandW : Nat := 0
  lastOver : Option Nat := none
  hold : Bool := false
deriving DecidableEq, Repr

/-! ## Millstone -/

/-- Millstone mode (Table 4-3). -/
inductive Mode where | stopped | hold | travelOpen | travelClose | reverse | backDrive | jog | brake | align | coast
deriving DecidableEq, Repr

/-- How the mode in force was entered, until its first retired slot (R105, R107). -/
inductive Incoming where | none | startStopped | startHold | handOver
deriving DecidableEq, Repr

/-- Class of a slot (R88). -/
inductive SlotClass where | wasted | starvedFront | starvedBack | retired
deriving DecidableEq, Repr

/-- What a slot leaves for its bucket engine (R87): phase references and braking for a door, the PWM word for a step. -/
inductive Staged where
  | refs (ia ib ic : Int)
  | lowBrake
  | pwm (w : PwmWord)
deriving DecidableEq, Repr

/-- A pending live write (R109, R110), and in a pair the moment of its apply tick on the own mill clock, ns. -/
structure LiveWrite where
  offset : Nat
  value : BitVec 32
  applyAt : Option Nat := none
deriving DecidableEq, Repr

/-- Speed factor q (Table 4-8 SCALE). -/
inductive Scale where | full | slowClose | referencing
deriving DecidableEq, Repr

/-- One Millstone channel (04_millstone). -/
structure Slot where
  /-- Miller's request with its argument (N, mA, or 0.1 mm/s), taken or discarded at the next latch, and whether it was
  superseded at the last one (R93). -/
  req : Option (Mode × Int) := none
  superseded : Bool := false
  mode : Mode := .stopped
  arg : Int := 0
  /-- Mode before the one in force (bump record, R106). -/
  prevMode : Mode := .stopped
  incoming : Incoming := .none
  /-- Trace entry of the last retired slot (R340). -/
  lastEntry : TraceEntry := { stroke := 0x800000, mode := 0, state := 0, fHat := 0, iqM := 0 }
  /-- Miller has stopped the channel (R85). -/
  stopped : Bool := false
  gset : Bool := false
  scale : Scale := .full
  stretch : Nat := 256
  /-- Speed measurement (R94), 0.1 mm/s: count and edge time at the last change, last v, filtered v, v_f before it. -/
  vCount : BitVec 24 := 0
  vTime : Nat := 0
  v : Rat := 0
  vf : Rat := 0
  vfPrev : Rat := 0
  vSet : Rat := 0
  /-- Loop integrators (door or step speed; step current), force state, last computed output and step voltage. -/
  integ : Rat := 0
  integI : Rat := 0
  force : Rat := 0
  out : Rat := 0
  wOut : Rat := 0
  rphase : Bool := false
  entryStroke : Int := 0
  excursion : Nat := 0
  staging : Option Staged := none
  owned : Bool := false
  lastClass : SlotClass := .wasted
  starvedRun : Nat := 0
  retiredRun : Nat := 0
  unackRun : Nat := 0
  starveBrake : Bool := false
  /-- The starvation brake has ended and Miller treats the motion as ended (R89). -/
  brakeEnded : Bool := false
  parityAt : Option Nat := none
  pending : List LiveWrite := []
  coef : LiveCoef := {}
  sat : Bool := false
  bump : Bool := false
  parity : Bool := false
  starve : Bool := false
  angFlt : Bool := false
  highWater : Nat := 0
  /-- Angle sources (R100): count at the last index seen since power-on, count of the Align, start of a running Align. -/
  idxCount : Option (BitVec 24) := none
  alignCount : Option (BitVec 24) := none
  alignAt : Option Nat := none
  angSrc : Nat := 0
  theta : Rat := 0
  iqRef : Rat := 0
  iqM : Rat := 0
  /-- Jog force limit held since (Tentering outcome 0x06). -/
  jogClampAt : Option Nat := none
  /-- A standby's slot (R311, R146): the frame's force_out in N and iq_m in mA, or its w_out in V. -/
  stream : Option (Rat × Rat) := none
deriving DecidableEq, Repr

/-- The module's injection and capture (R111-R114). -/
structure Capture where
  req : Option InjectReq := none
  session : BitVec 32 := 0
  /-- Samples are being recorded; the test signal is on in this period; either is still to come or in progress. -/
  running : Bool := false
  injecting : Bool := false
  active : Bool := false
  /-- Periods gone by since acceptance; test signal of the next period, mA. -/
  period : Nat := 0
  signal : Rat := 0
  /-- Mill tick of the newest sample; number of samples when the running CAP conversion was triggered (R113). -/
  sampleTick : Option Nat := none
  capAt : Nat := 0
  /-- Capture buffer, newest entry first. -/
  samples : List (Vector (BitVec 16) 4) := []
  incomplete : Bool := false
deriving DecidableEq, Repr

/-! ## Obstacle detection, calibration, Tentering -/

/-- Calibration record of a doorway (Table 5-4). -/
structure CalRec where
  format : BitVec 16 := 1
  doorway : BitVec 8 := 0
  valid : Bool := false
  learnedAt : BitVec 32 := 0
  count : BitVec 32 := 0
  fingerprint : BitVec 16 := 0
  indexAngle : BitVec 16 := 0
  strokeAngle : BitVec 16 := 0
  mass : Nat := 0
  viscous : Nat := 0
  rms : Nat := 0
  speedLow : Nat := 0
  speedHigh : Nat := 0
  fricOpen : Vector Int 256 := Vector.replicate 256 0
  fricClose : Vector Int 256 := Vector.replicate 256 0
  cog : Vector Int 128 := Vector.replicate 128 0
  crcOk : Bool := true
deriving DecidableEq, Repr

/-- Obstacle detection and edge path of a doorway (05). -/
structure Obs where
  fHat : Rat := 0
  confirm : Nat := 0
  armed : Bool := false
  /-- Detected in the last slot, in a closing or an opening mode (R123, R124). -/
  detClose : Bool := false
  detOpen : Bool := false
  /-- What latched Reverse at this tick (R169): observer, EDGE latch. -/
  revObs : Bool := false
  revEdge : Bool := false
  /-- EDGE latch and its two request lines (R129, R130). -/
  latch : Bool := false
  reqRunner : Bool := false
  reqBed : Bool := false
  edgeFltR : Bool := false
  edgeFltB : Bool := false
  /-- Biases in travel sense, N (R134). -/
  bClose : Rat := 0
  bOpen : Rat := 0
  sumX : Rat := 0
  nX : Nat := 0
  /-- The motion had a detection, an edge actuation or a reversal (R135); start of the motion. -/
  spoilt : Bool := false
  motionAt : Nat := 0
  moving : Bool := false
  drift : Bool := false
  plausRun : Nat := 0
  plausRaised : Bool := false
  plausClean : Nat := 0
  plaus : Bool := false
  plausSc : Bool := false
  oor : Bool := false
  /-- The last retired period was out of regulation (R121, R142). -/
  outReg : Bool := false
  stall : Bool := false
  obsDet : Bool := false
  openDet : Bool := false
  /-- Step stall condition since (R140). -/
  stallAt : Option Nat := none
  /-- Record in use, NOCAL, take-up at the next latch, or at the first one from a moment of the own mill clock (R145, R146). -/
  cal : CalRec := {}
  noCal : Bool := true
  takeUp : Option (CalRec × Option Nat) := none
  /-- An own commit that waits for its chunks to be sent, and one whose mirror copy and outcome follow the take-up (R145, R146). -/
  sending : Option CalRec := none
  commit : Bool := false
  /-- Chunks received of a streamed record (R146). -/
  chunks : List (Fin 16 × List Byte) := []
  temp : Int := 0
deriving DecidableEq, Repr

/-- Phase of a Tentering run (R142): an `abort` brings the leaf to closed stand-still (R144), `lock` is step 7. -/
inductive TenterStep where | unlock | align | out (high : Bool) | back (high : Bool) | compute | abort | lock | done
deriving DecidableEq, Repr

/-- One learning sample (R142, R143): working angle in turns since Align, quadrature current in mA, a in m/s², v_f in m/s. -/
structure TenterSample where
  high : Bool
  opening : Bool
  steady : Bool
  bin : Nat
  theta : Rat
  iq : Rat
  a : Rat
  v : Rat
deriving DecidableEq, Repr

/-- The module's one learning accumulator (R141-R145). -/
structure Tenter where
  door : Door
  session : BitVec 32
  step : TenterStep := .unlock
  pass : Nat := 0
  samples : List TenterSample := []
  outcome : Option Nat := none
  learned : Option CalRec := none
  /-- Residual rms (0.1 N) and mass (0.1 kg) of a computation that failed a quality check (R377). -/
  rms : Nat := 0
  mass : Nat := 0
deriving DecidableEq, Repr

/-! ## Door cycle and steps -/

/-- Door cycle state (Table 6-1). -/
inductive DoorState where
  | closedLocked | released | unlocking | opening | open | closing | reversing | reopenHold | locking | proving
  | closedUnlocked | unreferenced | isolated | service | faultHeld
deriving DecidableEq, Repr

/-- Step state (Table 6-7). -/
inductive StepState where | retracted | extending | extended | retracting | fault
deriving DecidableEq, Repr

/-- Lock solenoid (R156): off, pull at 100 % since, hold. -/
inductive Solenoid where | off | pull (since : Nat) | hold
deriving DecidableEq, Repr

/-- Part of LOCKING (R172, R174): closing on the profile, closing for a new attempt under a pull, closed stand-still with that pull
still running, solenoid off. -/
inductive LockPhase where | closing | retry | pulling | released
deriving DecidableEq, Repr

/-- What a SERVICE doorway is doing. -/
inductive SvcAct where | idle | unlock (speed : Int) | align (speed : Int) | jog (speed : Int) | leaving
deriving DecidableEq, Repr

/-- Door cycle and step sequence of one doorway (06). -/
structure Cyc where
  state : DoorState := .unreferenced
  /-- Entry to the state, ns. -/
  since : Nat := 0
  closeCmd : Bool := false
  closeSrc : Nat := 0
  closeTick : Option Nat := none
  reopens : Nat := 0
  attempts : Nat := 0
  openWanted : Bool := false
  partly : Bool := false
  proven : Bool := false
  prfR : Nat := 0
  prfB : Nat := 0
  prfS : Nat := 0
  excursion : Nat := 0
  lockFlt : Bool := false
  stepFlt : Bool := false
  fcause : Nat := 0
  sol : Solenoid := .off
  /-- Granted start tick of the door motion, not yet reached; its plan. -/
  startTick : Option Nat := none
  startS : Nat := 256
  /-- Moment of the granted start tick, ns: the timeouts of R166 and R168 run from it. -/
  startNs : Nat := 0
  /-- Deadlines. -/
  unlockDl : Option Nat := none
  openDl : Option Nat := none
  closeDl : Option Nat := none
  holdDl : Option Nat := none
  switchDl : Option Nat := none
  settleDl : Option Nat := none
  backDl : Option Nat := none
  recordDl : Option Nat := none
  /-- The lock pair has read unlocked, or Align is over, in UNLOCKING (R165, R187). -/
  unlocked : Bool := false
  aligning : Bool := false
  lockPhase : LockPhase := .closing
  reopenTarget : Int := 0
  /-- Referencing close (R38, R186): in progress; reversing from it until this extended position. -/
  refClosing : Bool := false
  refReopen : Option Int := none
  /-- PROVING has begun its back-drive; PROVING waits for the token (R355); it was entered from SERVICE with PROVEN. -/
  backing : Bool := false
  /-- The lock pair has not read locked throughout the back-drive (Table 6-5). -/
  backBad : Bool := false
  waitToken : Bool := false
  svc : SvcAct := .idle
  /-- Back-drive test of R176 in progress, by a Tally request. -/
  backTest : Option Msg := none
  /-- Brake until rest after the isolation key (R178), or at a cold takeover (R323); encoder fault waiting for rest (R36). -/
  isoBrake : Bool := false
  coldBrake : Bool := false
  encRest : Bool := false
  /-- Step sequence. -/
  step : StepState := .retracted
  stepDl : Option Nat := none
  stepStart : Option Nat := none
  stepHold : Option Nat := none
  stepRetried : Bool := false
  /-- Close waits for the step to retract first (R190). -/
  awaitStep : Bool := false
  /-- Cycle in progress. -/
  rec? : Option CycleRec := none
  /-- Record closed and waiting for loop confirmation (R194). -/
  ending : Option CycleRec := none
  /-- Restart of this doorway in progress (R363): stopped until referenced again. -/
  restarting : Bool := false
  /-- A step start, and a closing start, to be planned at the end of the tick (R76); a closing motion that waits for rest (R163). -/
  stepWant : Option Bool := none
  planWant : Bool := false
  restFirst : Bool := false
  /-- Emergency handle at the last tick: an operation is an edge (R180). -/
  handleWas : Bool := false
  /-- Release state of the side and zero speed as the last changes of release took them (R159, R162). -/
  relWas : Bool := false
  zeroWas : Bool := false
deriving DecidableEq, Repr

/-- A door command that waits for its decision (R157, R162); `leave`: the end of SERVICE, whose start is planned with the tick's others
(R76, R184). -/
inductive CmdKind where | reset | close | open_ | leave
deriving DecidableEq, Repr

/-- A door command in the running tick: its source, the request of a Tally reset, and whether the close train line was active when it
arrived (R158). -/
structure DoorCmd where
  door : Door
  kind : CmdKind
  src : CmdSrc
  msg : Option Msg := none
  lineOn : Bool := false
deriving DecidableEq, Repr

/-- Trace ring of a doorway (R340): entries oldest first, the triggers counted after a cycle's first, and the triggered traces with the
entries each still needs: the trace of a cycle may still run when the next cycle's is triggered. -/
structure Ring where
  entries : List TraceEntry := []
  count : Nat := 0
  pending : List (Record × Nat) := []
deriving DecidableEq, Repr

/-! ## Safety -/

/-- Filter and pulse check of one safety input in one channel (R200, R213, R214, R240). -/
structure SFilt where
  c : Nat := 0
  filtered : Bool := false
  given : Nat := 0
  /-- In the running round: a checked own sample read dark; both checked samples of each other source read dark so far. -/
  ownDark : Bool := false
  dark : Vector Nat 4 := Vector.replicate 4 0
  /-- Moment at which the filtered value became valid or last changed since. -/
  since : Nat := 0
  /-- Consecutive failed rounds. -/
  missRun : Nat := 0
  crossRun : Vector Nat 4 := Vector.replicate 4 0
  /-- Latched faults; last moment at which a failing round was seen. -/
  missing : Bool := false
  cross : Option Src := none
  badAt : Nat := 0
deriving DecidableEq, Repr

/-- Discrepancy watch of a switch pair (R218): discrepant since, latched, open state seen while latched. -/
structure PairWatch where
  since : Option Nat := none
  fault : Bool := false
  sawOpen : Bool := false
deriving DecidableEq, Repr

/-- Watch of an edge reversal request (R220): moment and extended position at the request, Runner cycles begun since, and a
closing mode found at the second of them. -/
structure EdgeWatch where
  since : Nat
  ext : BitVec 48
  cycles : Nat := 0
  modeBad : Bool := false
deriving DecidableEq, Repr

/-- What one Runner cycle finds, a bit per doorway (Table 7-2): switches and handle, key operated, stroke window, edge request. -/
structure RunnerEval where
  switches : BitVec 16 := 0
  key : BitVec 16 := 0
  window : BitVec 16 := 0
  edge : BitVec 16 := 0
deriving DecidableEq, Repr

/-- One safety channel (Table 7-1). -/
structure SafeChan where
  inp : Vector (Vector SFilt 10) 16 := Vector.replicate 16 (Vector.replicate 10 {})
  fb : Vector SFilt 2 := Vector.replicate 2 {}
  rst : SFilt := {}
  tl : SFilt := {}
  /-- Source latches (R216). -/
  srcFault : Vector Bool 4 := Vector.replicate 4 false
  /-- Counted doorways, and the count on switches alone (R203, R219). -/
  counted : BitVec 16 := 0
  onSwitches : BitVec 16 := 0
  /-- Runner's last evaluation, the moment its cycle began, and the one before (R201, R206). -/
  eval : RunnerEval := {}
  evalAt : Nat := 0
  evalPrev : RunnerEval := {}
  /-- Latches of R210 and R219, a bit per group. -/
  fbLock : BitVec 2 := 0
  discLock : BitVec 2 := 0
  enable : BitVec 2 := 0
  pairs : Vector (Vector PairWatch 3) 16 := Vector.replicate 16 (Vector.replicate 3 {})
  edgeDisc : Vector (Option Nat) 16 := Vector.replicate 16 none
  edgeOkAt : Vector (Option Nat) 16 := Vector.replicate 16 none
  watch : Vector (Option EdgeWatch) 16 := Vector.replicate 16 none
  /-- Feedback wrong since (R210), per group. -/
  fbWrong : Vector (Option Nat) 2 := Vector.replicate 2 none
deriving DecidableEq, Repr

/-- One loop group (07). -/
structure Grp where
  /-- Pins DLn-P and DLn-M, and the last change of the group's outputs. -/
  p : Bool := false
  m : Bool := false
  on : Bool := false
  changedAt : Nat := 0
  lockRestart : Bool := false
  /-- Start-up test passed, or running, with its DLn-P pulse passed (R227); last output test seen (R212). -/
  tested : Bool := false
  startTest : Option Nat := none
  startP : Bool := false
  lastTest : Nat := 0
  /-- Moment of the next output test, and that it is DLn-M's (R211); outputs found stuck on. -/
  testAt : Nat := 0
  testLow : Bool := false
  stuckP : Bool := false
  stuckM : Bool := false
  chanDisc : Vector (Option Nat) 16 := Vector.replicate 16 none
  fbFlt : Bool := false
  outFlt : Bool := false
  chDisc : Bool := false
  xshort : Bool := false
  srcFlt : Bool := false
  noEvid : Bool := false
  pairDisc : Bool := false
  runDead : Bool := false
deriving DecidableEq, Repr

/-- A safety reset source (R222, R223): an edge pending in each channel, jammed. -/
structure RstSrc where
  edgeR : Bool := false
  edgeB : Bool := false
  jammed : Bool := false
deriving DecidableEq, Repr

/-- A test-pulse source (R213, R216): on; dark since, for 300 µs; in limit since, running without limit since. -/
structure SrcSt where
  on : Bool := true
  dark : Option Nat := none
  offSince : Option Nat := none
  runSince : Nat := 0
deriving DecidableEq, Repr

/-- Safety functions of the module (07). -/
structure SafetySt where
  runner : SafeChan := {}
  bedstone : SafeChan := {}
  grp : Vector Grp 2 := Vector.replicate 2 {}
  rst : Vector RstSrc 2 := Vector.replicate 2 {}
  src : Vector SrcSt 4 := Vector.replicate 4 {}
  /-- Runner running, its alive line and last toggle (R201). -/
  running : Bool := false
  alive : Bool := false
  toggledAt : Nat := 0
  runnerDead : Bool := false
  /-- Bedstone's block latched, its check passed (R9). -/
  blockLatched : Bool := false
  blockOk : Bool := false
  /-- Pulse grid (R213): locked, origin of a round (ns), sample number in the round. -/
  gridLocked : Bool := false
  gridOrigin : Nat := 0
  /-- Safe-state request lines (R221). -/
  reqLine : BitVec 2 := 0
deriving DecidableEq, Repr

/-! ## Field I/O -/

/-- Wire-break band (Table 8-2). -/
inductive Band where | wireBreak | degraded | open | indeterminate | closed
deriving DecidableEq, Repr

/-- A filtered input with its time-stamping (R240, R244-R246). -/
structure InSt where
  c : Nat := 0
  filtered : Bool := false
  /-- Filtered value as Miller took it at the last phase 0 latch, whether it was valid there, and whether it rose there (R240, R242). -/
  value : Bool := false
  valid : Bool := false
  edge : Bool := false
  given : Nat := 0
  band : Option Band := none
  bandAt : Nat := 0
  wbrk : Bool := false
  wdeg : Bool := false
  goodAt : Option Nat := none
  stampLevel : Bool := false
  level : Bool := false
  holdoff : Option Nat := none
  suppressed : Nat := 0
deriving DecidableEq, Repr

/-- A stamp entry (Table 8-10). -/
structure Stamp where
  mill : Nat
  input : Nat
  level : Bool
  tl : Bool
  settle : Bool
  seq : BitVec 16
  lost : Nat
  suppressed : Nat
deriving DecidableEq, Repr

/-- State of a digital output at the pin (R250). -/
inductive DoPin where | on | off | z
deriving DecidableEq, Repr

/-- A digital output (R250-R252). -/
structure DoutSt where
  /-- Commanded level of its source: Miller's function, compare actions, or the bus. -/
  cmd : Bool := false
  busCmd : Bool := false
  cmpCmd : Bool := false
  pin : DoPin := .z
  blank : Nat := 0
  mismatch : Option Nat := none
  readHigh : Bool := false
  fault : Bool := false
  faultSticky : Bool := false
deriving DecidableEq, Repr

/-- A load switch (R253-R260). -/
structure LsSt where
  cmd : Bool := false
  on : Bool := false
  onAt : Nat := 0
  /-- Accumulated time in current limit, µs, and the end of its last spell (R254). -/
  limitUs : Nat := 0
  limitAt : Nat := 0
  /-- On-time without limit since then, ns, taken up to `cleanAt`. -/
  clean : Nat := 0
  cleanAt : Nat := 0
  tries : Nat := 0
  /-- End of the retry pause; an off command has ended the retry sequence (R257). -/
  pause : Option Nat := none
  ended : Bool := false
  latched : Bool := false
  /-- PWM duty in 0.1 % (R258): shadow register, moment of its last write and the duty before it, duty of the running period. -/
  shadow : Nat := 0
  shadowAt : Nat := 0
  shadowPrev : Nat := 0
  active : Nat := 0
  /-- An open-load condition stands, found at `openAt`. -/
  openCond : Bool := false
  openAt : Nat := 0
  openLd : Bool := false
  shed : Bool := false
deriving DecidableEq, Repr

/-- A load-switch supply LS1 or LS2 (R260). -/
structure LsSupply where
  shedding : Bool := false
  /-- Moment of the next shed step; once shedding has ended, the moment it ended. -/
  shedAt : Nat := 0
deriving DecidableEq, Repr

/-- Field inputs, outputs and load switches (08). -/
structure FieldIo where
  fi : Vector InSt 192 := Vector.replicate 192 {}
  tl : Vector InSt 16 := Vector.replicate 16 {}
  stamps : List Stamp := []
  stampSeq : BitVec 16 := 0
  stampLost : Nat := 0
  stLost : Bool := false
  dout : Vector DoutSt 32 := Vector.replicate 32 {}
  /-- VDO fault per connector X12-X15, and its sticky bits. -/
  vdo : BitVec 4 := 0
  vdoSticky : BitVec 4 := 0
  ls : Vector LsSt 48 := Vector.replicate 48 {}
  lsSup : Vector LsSupply 2 := Vector.replicate 2 {}
  lsOvl : BitVec 2 := 0
  /-- Sticky WBRK, WDEG, INDET per doorway. -/
  wbrk : BitVec 16 := 0
  wdeg : BitVec 16 := 0
  indet : BitVec 16 := 0
  /-- Paired input currents in force (R238). -/
  pairSink : Bool := false
deriving DecidableEq, Repr

/-! ## Buses and time -/

/-- A Hopper object (Table 9-3), with the deadline of a transmit object (R274). -/
structure HObj where
  id : BitVec 11 := 0
  fd : Bool := false
  brs : Bool := false
  data : List Byte := []
  new : Bool := false
  ovr : Bool := false
  txPend : Bool := false
  time : Nat := 0
  deadline : Option Nat := none
deriving DecidableEq, Repr

/-- BSTATE of Table 9-15. -/
inductive BState where | detecting | detected | fallback | configured | recovery
deriving DecidableEq, Repr

/-- ISO 11898-1 fault confinement state (R276). -/
inductive ErrSt where | active | passive | off
deriving DecidableEq, Repr

/-- A copy of a safe telegram that waits for its partner (R282). -/
structure TeleCopy where
  bytes : List Byte
  arrival : Nat
  /-- Decided at its arrival in single-bus mode, and accepted (R284). -/
  decided : Bool := false
  accepted : Bool := false
deriving DecidableEq, Repr

/-- One bus (09). -/
structure BusSt where
  /-- Step 7 has begun on the bus. -/
  started : Bool := false
  bstate : BState := .detecting
  /-- State before a bus-off recovery (R276). -/
  prior : BState := .detecting
  err : ErrSt := .active
  listen : Bool := true
  cand : Nat := 0
  candAt : Nat := 0
  detectAt : Nat := 0
  sawTraffic : Bool := false
  okRun : Nat := 0
  adopted : Nat := 15
  timing : TimingCfg := {}
  busOff : Bool := false
  noTraf : Bool := false
  ecc : Bool := false
  drop : Bool := false
  tecN : Nat := 0
  recN : Nat := 0
  hopper : Vector HObj 128 := Vector.replicate 128 {}
  copies : List TeleCopy := []
  /-- Last valid door command copy received (R284). -/
  copyAt : Option Nat := none
deriving DecidableEq, Repr

/-- Freshness and sequence reference of one safe ID (R281, R282). -/
structure SafeId where
  seq : BitVec 16 := 0
  time : BitVec 32 := 0
  arrival : Nat := 0
  valid : Bool := false
deriving DecidableEq, Repr

/-- A command answer under construction (Table 9-7). -/
structure Answer where
  kind : Nat
  cmdNo : BitVec 8
  /-- Doorways still to be decided. -/
  open_ : BitVec 16
  answered : BitVec 16
  reason : Vector Nat 16 := Vector.replicate 16 0
  delay : Vector Nat 16 := Vector.replicate 16 0
deriving DecidableEq, Repr

/-- Safe telegrams, door commands and release (R281-R289). -/
structure Tele where
  /-- References of the safe ID addressed to this node and of the one addressed to all. -/
  own : SafeId := {}
  all : SafeId := {}
  cmdNo : Option (BitVec 8) := none
  /-- The next telegram is taken as baseline (R285). -/
  baseline : Bool := true
  /-- No telegram has been accepted for three cycles, and this has been recorded (R285). -/
  lost : Bool := false
  lastAccept : Nat := 0
  bitL : Bool := false
  bitR : Bool := false
  relL : Bool := false
  relR : Bool := false
  single : Bool := false
  /-- Bus that the mode runs on, as its events name it. -/
  singleBus : Nat := 0
  /-- Both buses have delivered agreeing copies of every accepted telegram since. -/
  agreeAt : Option Nat := none
  /-- Commands of the last accepted telegram waiting for their decision. -/
  close : BitVec 16 := 0
  open_ : BitVec 16 := 0
  reset : BitVec 16 := 0
  ans : Option Answer := none
  ansSeq : BitVec 16 := 0
  gsSeq : BitVec 16 := 0
  gsAt : Option Nat := none
  gsSent : List Byte := []
  pageSeq : Vector (BitVec 16) 17 := Vector.replicate 17 0
  pageAt : Option Nat := none
deriving DecidableEq, Repr

/-- The last time reference of a bus (R295, R296). -/
structure BusRef where
  counter : BitVec 8 := 0
  sof : Nat := 0
  seen : Bool := false
  /-- Calendar time at that start of frame, µs (R295). -/
  calSof : Int := 0
  /-- Last valid pair with master quality 0 or 1. -/
  pairAt : Option Nat := none
deriving DecidableEq, Repr

/-- Time source (SRC of Table 9-16). -/
inductive TimeSrc where | holdover | busA | busB | partner
deriving DecidableEq, Repr

/-- Calendar time (R294-R298): microseconds since 2000-01-01 at `at`, and what remains to be slewed. -/
structure Calendar where
  us : Nat := 0
  /-- Nanoseconds beyond the microsecond, kept where a slew is rebased. -/
  sub : Nat := 0
  at_ : Nat := 0
  slew : Int := 0
  src : TimeSrc := .holdover
  left : TimeSrc := .holdover
  psrc : Option TimeSrc := none
  offset : Int := 0
  held : Option Int := none
  synced : Bool := false
  byTally : Bool := false
  boundary : Nat := 0
  step : Bool := false
  back : Bool := false
  aband : Bool := false
  refs : Vector BusRef 2 := Vector.replicate 2 {}
  /-- The partner's own selected source (R296). -/
  partner : TimeSrc := .holdover
deriving DecidableEq, Repr

/-! ## The pair -/

/-- Pair state (Table 10-2). -/
inductive PState where | alone | forming | active | standbyReady | standbyNotReady | split
deriving DecidableEq, Repr

/-- A message that waits for a frame of the Cesil link, with the deadline of its bus frame on the own mill clock (R21, R274, R316). -/
structure OutMsg where
  msg : CesilMsg
  deadline : Option Nat := none
deriving DecidableEq, Repr

/-- Fantail (10). -/
structure Pair where
  pstate : PState := .alone
  formed : Bool := false
  token : Bool := false
  tokIn : Bool := false
  /-- Sluice keeps the token released until restart (R304). -/
  tokenBarred : Bool := false
  /-- The module opens its pairs to release the token at a handover (R322); the token it gave up in a pair, by kind of
takeover (1 planned, 2 hot, 3 cold). -/
  releasing : Bool := false
  gaveUp : Option Nat := none
  posB : Bool := false
  /-- POS has been read at start-up (R303, R391). -/
  posRead : Bool := false
  arb1 : Bool := false
  arb2 : Bool := false
  arbAt : Nat := 0
  /-- Valid designation: position B, or none. -/
  desig : Option Bool := none
  desigAt : Nat := 0
  link : Bool := false
  backLink : Bool := false
  /-- Step 8 started, ns. -/
  formAt : Option Nat := none
  identity : Option IdFrame := none
  identSent : Nat := 0
  txIdent : Option IdFrame := none
  /-- Cause of the last pair-not-formed event, while the pair is not formed (R303, R305, R306). -/
  notFormed : Option Nat := none
  handover : Bool := false
  /-- HANDOVER seen in a frame (standby); partner READY seen. -/
  handoverSeen : Bool := false
  ready : Bool := false
  /-- Image switch waits for the handover (R366). -/
  restartAfter : Bool := false
  fseq : BitVec 16 := 0
  bseq : BitVec 16 := 0
  tx : Option ActiveFrame := none
  txBack : Option BackFrame := none
  /-- CRC-16 at the end of the frame sent last, active and back (R308, R309). -/
  txCrc : BitVec 16 := 0
  txBackCrc : BitVec 16 := 0
  rx : Option ActiveFrame := none
  rxAt : Option Nat := none
  rxBack : Option BackFrame := none
  rxBackAt : Option Nat := none
  failRun : Nat := 0
  okRun : Nat := 0
  /-- Moment from which the partner's frames are due: the role of this module began (R315). -/
  roleAt : Nat := 0
  /-- Pair clock = mill clock + offset, ns (R317). -/
  offset : Int := 0
  /-- Message area queue, and bus frames that load into the own Hopper once their Cesil frame has been sent (R316). -/
  msgs : List OutMsg := []
  sent : List (Nat × OutMsg) := []
  /-- The stream is lost until regained (R315); a handover is deferred for readiness (R321); no designation for 1 s is reported. -/
  lost : Bool := false
  deferred : Bool := false
  arbLost : Bool := false
  /-- Live-write check waiting for the standby (R110): request and moment. -/
  check : Option (Msg × Ch × LiveWrite × Nat) := none
  /-- fseq of the frame that carried the check. -/
  checkSeq : Option (BitVec 16) := none
  lwResult : BitVec 2 := 0
  lwChannel : Ch := 0
  calResult : BitVec 2 := 0
  calDoor : Door := 0
  /-- Consecutive bad comparisons of a doorway while it moves and at stand-still, and the last bad one (R313). -/
  mismatchRun : Vector Nat 16 := Vector.replicate 16 0
  mismatchStill : Vector Nat 16 := Vector.replicate 16 0
  mismatchOkAt : Vector Nat 16 := Vector.replicate 16 0
  posmis : BitVec 16 := 0
  /-- TOK-OUT asserted, isolation pairs to be commanded closed at (R324). -/
  closeAt : Option Nat := none
  /-- Last takeover made by this module (R324). -/
  tookAt : Option Nat := none
  crcErr : Bool := false
  cold : Bool := false
  tkovr : Bool := false
  mismatch : Bool := false
  arbFlt : Bool := false
  iso : Bool := false
deriving DecidableEq, Repr

/-! ## Millbook and Millpond -/

/-- Millpond state (PSTATE of Table 11-6). -/
inductive PondState where | absent | charging | testing | available | failed | notFitted
deriving DecidableEq, Repr

/-- Why a flush started (R337, counters of Table 13-4). -/
inductive FlushCause where | fill | severity | powerFail | periodic | other
deriving DecidableEq, Repr

/-- Millbook's volatile side (11). -/
structure Book where
  intakeOpen : Bool := false
  nextSeq : BitVec 48 := 0
  /-- Offered in the running tick, waiting in the staging queue, in intake (oldest first). -/
  offered : List Record := []
  staging : List Record := []
  intake : List Record := []
  flushing : Option (Nat × FlushCause) := none
  flushEnd : Nat := 0
  checkpointAt : Nat := 0
  buckets : List (Nat × Bucket) := []
  wthru : Bool := true
  reserve : Bool := false
  pfStart : Bool := false
  due : Bool := false
  idrop : Bool := false
  pdrop : Bool := false
  sdrop : Bool := false
  incomp : Bool := false
  mprem : Bool := false
  mpfail : Bool := false
  eccErr : Bool := false
  ptest : Bool := false
  pond : PondState := .absent
  /-- Store voltage, mV; the acceptance test of the fitted store is outstanding; it was fitted
  after an absence; ends of the test and the next periodic test. -/
  storeMv : Nat := 0
  accepting : Bool := false
  wasAbsent : Bool := false
  charger : Bool := false
  testAt : Nat := 0
  testEnd : Option Nat := none
  testBy : Option Msg := none
  dueAt : Option Nat := none
  /-- LV has been below 60 V since (R346); power-fail is declared, the module holding until restart. -/
  lvLowAt : Option Nat := none
  powerFailed : Bool := false
  /-- What the next checkpoint records beside the sequence number (Table 11-5): power-on spans, the store's acceptance date (s) and the
results of its last test. -/
  bootCount : Nat := 0
  acceptedS : Option Nat := none
  pondTest : Option (Nat × Nat) := none
  /-- The record being written through: partition, number, and the end of its 1 ms (R345, R348). -/
  writing : Option (Nat × BitVec 48 × Nat) := none
  rings : Vector Ring 16 := Vector.replicate 16 {}
deriving DecidableEq, Repr

/-! ## Start-up, plug and maintenance -/

/-- A Tally session (R371). -/
structure Session where
  id : BitVec 32
  key : List Byte
  counter : BitVec 32 := 0
  last : Nat
  tagFails : List Nat := []
  /-- Staged identity area segments by number 0-3, and the last stage or commit (R373). -/
  staged : List (Nat × List Byte) := []
  stagedAt : Nat := 0
  /-- Counter snapshots by word address (R18, R380). -/
  snaps : List (Nat × BitVec 64) := []
deriving DecidableEq, Repr

/-- Response of a Tally request (R370, R372): the header of Table 12-11, the payload, and the tag where it carries one. -/
structure Reply where
  version : Nat := 1
  resp : Bool := true
  command : Nat
  session : BitVec 32
  counter : BitVec 32
  length : Nat
  reason : Nat
  payload : List Byte := []
  tag : Option (List Byte) := none
deriving DecidableEq, Repr

/-- Kinds of long maintenance operation whose last outcome MAINT_STATUS holds (R372). -/
inductive MaintKind where
  | service | jog | backdrive | tenter | slotVerify | doorwayRestart | imageSwitch | switchover | millpondTest | keyArea
deriving DecidableEq, Repr

/-- Identity and key area in force (Table 12-3). -/
structure Identity where
  format : BitVec 16 := 0
  activeB : Bool := false
  generation : BitVec 32 := 0
  vehicleId : List Byte := []
  ipAddr : BitVec 32 := 0
  ipMask : BitVec 32 := 0
  udpPort : Nat := 47216
  tallyKey : List Byte := []
  keyHash : Vector (List Byte) 4 := Vector.replicate 4 []
  refreshS : Vector (BitVec 32) 4 := Vector.replicate 4 0
deriving DecidableEq, Repr

/-- Tally's address and port while the identity area is blank (R356). -/
def Identity.blank : Identity := { ipAddr := 0xA9FE1610, udpPort := 47216 }

/-- Progress of the retention refresh (R367): region, next sector, last sector's moment. -/
structure Refresh where
  region : Option (Fin 4) := none
  sector : Nat := 0
  last : Nat := 0
  redo : Bool := false
  /-- Place of the sector whose journal entry is open (R367). -/
  opened : Option Nat := none
deriving DecidableEq, Repr

/-- Start-up, configuration plug and maintenance (12). -/
structure Maint where
  /-- Last start-up step completed (Table 12-1); a step-2 failure leaves the module unconfigured. -/
  step : Nat := 1
  failed : Bool := false
  configured : Bool := false
  blank : Bool := true
  identity : Identity := Identity.blank
  /-- The identity area as it was read at start (R361). -/
  atStart : Identity := {}
  /-- Booted slot (true B), fall-back used. -/
  booted : Option Bool := none
  fallback : Bool := false
  /-- Slot being written: last write. -/
  writing : Vector (Option Nat) 2 := Vector.replicate 2 none
  plugPresent : Bool := false
  /-- Writes refused until restart because a refitted plug differs (R361). -/
  plugDiffers : Bool := false
  sessions : List Session := []
  moduleTok : Option (BitVec 32) := none
  doorTok : Vector (Option (BitVec 32)) 16 := Vector.replicate 16 none
  outcomes : List (MaintKind × Nat) := []
  reply : Option Reply := none
  /-- Command code of the request being answered (Table 12-12). -/
  command : Nat := 0
  /-- Reason code of the last door command or request, whatever its source (R19). -/
  reason : Nat := 0
  refresh : Refresh := {}
  tenter : Option Tenter := none
  /-- The doorway restart in progress (R363). -/
  restart : Option Door := none
  /-- Last ARP or ICMP echo request answered (R370). -/
  echoAt : Option Nat := none
  /-- Bucket engines stopped by a program parity error (R382), per doorway, bit by role. -/
  enginesStopped : Vector (BitVec 12) 16 := Vector.replicate 16 0
deriving DecidableEq, Repr

/-- Sluice (R12, R13, R221): start-up hold until acceptance, safe state latched until restart, last heartbeat. -/
structure Sluice where
  holding : Bool := true
  safe : Bool := false
  lastBeat : Nat := 0
  /-- Programmed safe states latched at acceptance (R261), and pin levels taken for `hold` (R262). -/
  latched : Bool := false
deriving DecidableEq, Repr

/-- One copy of a fixed area (R339): its generation, its contents, and whether its CRC-32C matches. -/
structure AreaCopy (α : Type) where
  gen : Nat
  val : α
  ok : Bool := true
deriving DecidableEq, Repr

/-- A fixed area in its two copies, none where a copy has never been written. -/
structure Area (α : Type) where
  c0 : Option (AreaCopy α) := none
  c1 : Option (AreaCopy α) := none
deriving DecidableEq, Repr

/-- The checkpoint (Table 11-5): next sequence number, the number of records in each partition as its head, power-on spans, last store test
and store acceptance date. -/
structure Checkpoint where
  nextSeq : BitVec 48
  heads : Vector Nat 3
  bootCount : Nat
  pondTest : Option (Nat × Nat)
  acceptedS : Option Nat
deriving DecidableEq, Repr

/-- What survives loss of power: the identity store's variant (R1), the plug's bytes (32 MiB of NOR, unlisted bytes read
0xFF; log 4), and Millbook's store. -/
structure NonVol where
  is2216 : Bool := true
  plug : List Host.Cell := []
  cycles : List Record := []
  events : List Record := []
  traces : List Record := []
  /-- The fixed areas (Table 11-5). -/
  checkpoint : Area Checkpoint := {}
  cal : Vector (Area CalRec) 16 := Vector.replicate 16 {}
  bias : Vector (Area (Rat × Rat)) 16 := Vector.replicate 16 {}
  counters : Area (List (Nat × Ctr)) := {}
  /-- Calendar second of the last scan of the store (R368). -/
  scanS : Nat := 0
  /-- The record whose write-through was under way as power went: partition and number (R348). -/
  torn : Option (Nat × BitVec 48) := none
  /-- The last power-on span ended in a power-fail declaration (PFSTART). -/
  powerFailed : Bool := false
deriving DecidableEq, Repr

/-- The module. -/
structure State where
  /-- Mill clock in nanoseconds (R16: microseconds times 1000, with the finer part that edges and dwells need). -/
  ns : Nat := 0
  /-- The model's free-value counter (not the spec's; log 5). -/
  free : Nat := 0
  pending : List Instr := []
  nv : NonVol := {}
  cfg : Image := {}
  counters : List (Nat × Ctr) := []
  sluice : Sluice := {}
  enc : Vector Enc 32 := Vector.replicate 32 {}
  cmp : Vector Cmp 16 := Vector.replicate 16 {}
  drv : Vector Drv 16 := Vector.replicate 16 {}
  sup : Vector Supply 2 := Vector.replicate 2 {}
  gov : Governor := {}
  slot : Vector Slot 32 := Vector.replicate 32 {}
  housekeepingHigh : Nat := 0
  capture : Capture := {}
  obs : Vector Obs 16 := Vector.replicate 16 {}
  cyc : Vector Cyc 16 := Vector.replicate 16 {}
  /-- Door commands of the running tick, in order of arrival. -/
  waiting : List DoorCmd := []
  safety : SafetySt := {}
  io : FieldIo := {}
  bus : Vector BusSt 2 := Vector.replicate 2 {}
  tele : Tele := {}
  cal : Calendar := {}
  pair : Pair := {}
  book : Book := {}
  maint : Maint := {}
deriving DecidableEq, Repr

/-- The module right after reset (R12, R16, R352 step 1, R394): clock 0, nothing configured, Sluice holding every output
safe, every output off or high-impedance, queue empty, plug blank and Millbook empty (log 3, 4). -/
def State.reset : State := {}

end Sys2Proof.Machine
end

