-- ==== Sys2Proof/Machine/Ops.lean ====
section
/-!
DEFINITION. Sys2Proof/Machine/Ops.lean: the named operations every meaning shares: the clock, sparse maps, the plug's bytes,
counters, the calendar, events and records, answers, the isolation pairs and braking paths, Sluice's safe state, the drive
token, and the Tally request frame.
-/
namespace Sys2Proof.Machine

/-- The outcome of a command. -/
abbrev Out := Host.Outcome State Fault Refusal

/-! ## Clock (R16) -/

/-- The mill clock: microseconds since power-on reset. -/
def State.mill (s : State) : Nat := s.ns / 1000
/-- The mill tick number of the running period (R16). -/
def State.tick (s : State) : Nat := s.ns / 125000
/-- Time moves to the moment a command happens; it never runs backwards (log 2). -/
def State.at (s : State) (t : Nat) : State := { s with ns := max s.ns t }
/-- Milliseconds in nanoseconds. -/
def ms (n : Nat) : Nat := n * 1000000
/-- A running deadline has been reached. -/
def due (dl : Option Nat) (now : Nat) : Bool := match dl with | some x => decide (x ≤ now) | none => false
/-- Mill ticks in a span of milliseconds, rounded up (R77 works in ticks). -/
def msTicks (n : Nat) : Nat := n * 8

/-- The pair clock in µs (R317); the mill clock of a module that runs alone. -/
def State.pairClock (s : State) : Nat := ((s.ns : Int) + s.pair.offset).toNat / 1000

/-- Own mill clock moment, ns, of a pair clock value given by its low 32 bits, the one nearest to now (R317). -/
def State.wireNs (s : State) (us : BitVec 32) : Nat :=
  ((((s.ns : Int) + s.pair.offset) / 1000 + (us - BitVec.ofNat 32 s.pairClock).toInt) * 1000 - s.pair.offset).toNat

/-- Own mill clock moment of a pair clock tick given by its low 32 bits (R110, R146, R310). -/
def State.tickNs (s : State) (k : BitVec 32) : Nat := s.wireNs (125 * k)

/-! ## Sparse maps in ascending key order -/

/-- Look a key up. -/
def mapGet {α : Type} (k : Nat) : List (Nat × α) → Option α
  | [] => none
  | (j, v) :: r => if j = k then some v else mapGet k r

/-- Set a key, keeping ascending order. -/
def mapPut {α : Type} (k : Nat) (v : α) : List (Nat × α) → List (Nat × α)
  | [] => [(k, v)]
  | (j, w) :: r => if k < j then (k, v) :: (j, w) :: r else if k = j then (k, v) :: r else (j, w) :: mapPut k v r

/-- Remove a key. -/
def mapErase {α : Type} (k : Nat) : List (Nat × α) → List (Nat × α)
  | [] => []
  | (j, w) :: r => if j = k then r else (j, w) :: mapErase k r

/-! ## The plug's bytes (R356): an unlisted byte reads 0xFF, as erased NOR does (log 4) -/

/-- Canonical form: addresses strictly rising, no byte listed that equals 0xFF, every address on the 32 MiB plug. -/
def Memory.wfFrom (lo : Nat) : List Host.Cell → Bool
  | [] => true
  | (a, b) :: r => decide (lo ≤ a) && b != 0xFF && decide (a < 0x2000000) && Memory.wfFrom (a + 1) r

/-- `Memory.wfFrom` from address 0. -/
def Memory.wf (m : List Host.Cell) : Bool := Memory.wfFrom 0 m

/-- One byte. -/
def Memory.read (m : List Host.Cell) (a : Nat) : Byte := (mapGet a m).getD 0xFF

/-- Program one byte. An address beyond the plug is not written. -/
def Memory.write (m : List Host.Cell) (a : Nat) (b : Byte) : List Host.Cell :=
  if 0x2000000 ≤ a then m else if b = 0xFF then mapErase a m else mapPut a b m

/-- Program a run of bytes. -/
def Memory.writeBytes (m : List Host.Cell) (a : Nat) : List Byte → List Host.Cell
  | [] => m
  | b :: r => Memory.writeBytes (Memory.write m a b) (a + 1) r

/-- Erase `n` bytes from `a`: they read 0xFF. -/
def Memory.erase (m : List Host.Cell) (a n : Nat) : List Host.Cell := m.filter fun c => c.1 < a || a + n ≤ c.1

/-- A run of bytes. -/
def Memory.bytes (m : List Host.Cell) (a : Nat) : Nat → List Byte
  | 0 => []
  | n + 1 => Memory.read m a :: Memory.bytes m (a + 1) n

/-! ## Updating one entry of a group -/

def State.modEnc (s : State) (c : Ch) (f : Enc → Enc) : State := { s with enc := s.enc.set c.1 (f s.enc[c.1]) c.2 }
def State.modSlot (s : State) (c : Ch) (f : Slot → Slot) : State := { s with slot := s.slot.set c.1 (f s.slot[c.1]) c.2 }
def State.modCmp (s : State) (d : Door) (f : Cmp → Cmp) : State := { s with cmp := s.cmp.set d.1 (f s.cmp[d.1]) d.2 }
def State.modDrv (s : State) (d : Door) (f : Drv → Drv) : State := { s with drv := s.drv.set d.1 (f s.drv[d.1]) d.2 }
def State.modObs (s : State) (d : Door) (f : Obs → Obs) : State := { s with obs := s.obs.set d.1 (f s.obs[d.1]) d.2 }
def State.modCyc (s : State) (d : Door) (f : Cyc → Cyc) : State := { s with cyc := s.cyc.set d.1 (f s.cyc[d.1]) d.2 }
def State.modBus (s : State) (b : BusId) (f : BusSt → BusSt) : State := { s with bus := s.bus.set b.1 (f s.bus[b.1]) b.2 }
def State.modGrp (s : State) (g : Group) (f : Grp → Grp) : State :=
  { s with safety := { s.safety with grp := s.safety.grp.set g.1 (f s.safety.grp[g.1]) g.2 } }
def State.modDout (s : State) (n : Dout) (f : DoutSt → DoutSt) : State :=
  { s with io := { s.io with dout := s.io.dout.set n.1 (f s.io.dout[n.1]) n.2 } }
def State.modLs (s : State) (n : Ls) (f : LsSt → LsSt) : State :=
  { s with io := { s.io with ls := s.io.ls.set n.1 (f s.io.ls[n.1]) n.2 } }
def State.modFi (s : State) (n : Fi) (f : InSt → InSt) : State :=
  { s with io := { s.io with fi := s.io.fi.set n.1 (f s.io.fi[n.1]) n.2 } }
/-- One safety channel. -/
def State.chan (s : State) : SafetyCh → SafeChan
  | .runner => s.safety.runner
  | .bedstone => s.safety.bedstone
def State.setChan (s : State) (ch : SafetyCh) (x : SafeChan) : State :=
  match ch with
  | .runner => { s with safety := { s.safety with runner := x } }
  | .bedstone => { s with safety := { s.safety with bedstone := x } }

/-- Do something for every doorway, in doorway order. -/
def State.eachDoor (s : State) (f : State → Door → State) : State := (List.finRange 16).foldl f s
/-- Do something for every channel, in slot order (R85). -/
def State.eachCh (s : State) (f : State → Ch → State) : State := (List.finRange 32).foldl f s

/-! ## Counters (R379, Table 13-4) -/

/-- Count one: at 2^48 the counter wraps to 0 and sets OVF. -/
def Ctr.inc (c : Ctr) : Ctr := if c.value = BitVec.allOnes 48 then { value := 0, ovf := true } else { c with value := c.value + 1 }

/-- Counter k of an instance of area 0x02. -/
def State.counter (s : State) (inst k : Nat) : Ctr := (mapGet (inst * 65536 + k) s.counters).getD {}

/-- Count one occurrence. -/
def State.bump (s : State) (inst k : Nat) : State :=
  { s with counters := mapPut (inst * 65536 + k) (s.counter inst k).inc s.counters }

/-- Count one occurrence where a condition holds. -/
def State.bumpIf (s : State) (c : Bool) (inst k : Nat) : State := if c then s.bump inst k else s

/-! ## Codes -/

/-- State codes of Table 6-1. -/
def DoorState.code : DoorState → Nat
  | .closedLocked => 0 | .released => 1 | .unlocking => 2 | .opening => 3 | .open => 4 | .closing => 5 | .reversing => 6
  | .reopenHold => 7 | .locking => 8 | .proving => 9 | .closedUnlocked => 10 | .unreferenced => 11 | .isolated => 12
  | .service => 13 | .faultHeld => 14

/-- The state of a code; 0xF is no state. -/
def DoorState.ofCode : Nat → Option DoorState
  | 0 => some .closedLocked | 1 => some .released | 2 => some .unlocking | 3 => some .opening | 4 => some .open
  | 5 => some .closing | 6 => some .reversing | 7 => some .reopenHold | 8 => some .locking | 9 => some .proving
  | 10 => some .closedUnlocked | 11 => some .unreferenced | 12 => some .isolated | 13 => some .service
  | 14 => some .faultHeld | _ => none

/-- Step state codes of Table 6-7. -/
def StepState.code : StepState → Nat
  | .retracted => 0 | .extending => 1 | .extended => 2 | .retracting => 3 | .fault => 4

def StepState.ofCode : Nat → Option StepState
  | 0 => some .retracted | 1 => some .extending | 2 => some .extended | 3 => some .retracting | 4 => some .fault | _ => none

/-- Mode codes of Table 4-3. -/
def Mode.code : Mode → Nat
  | .stopped => 0 | .hold => 1 | .travelOpen => 2 | .travelClose => 3 | .reverse => 4 | .backDrive => 5 | .jog => 6
  | .brake => 7 | .align => 8 | .coast => 9

def Mode.ofCode : Nat → Option Mode
  | 0 => some .stopped | 1 => some .hold | 2 => some .travelOpen | 3 => some .travelClose | 4 => some .reverse
  | 5 => some .backDrive | 6 => some .jog | 7 => some .brake | 8 => some .align | 9 => some .coast | _ => none

/-- The direction of a travel mode: true opening. -/
def Mode.travel : Mode → Option Bool
  | .travelOpen => some true
  | .travelClose => some false
  | _ => none

/-- Source codes of Table 6-8. -/
def CmdSrc.code : CmdSrc → Nat
  | .telegram => 1 | .trainLine => 2 | .telegramTl => 3 | .inner => 4 | .outer => 5 | .auto => 6 | .tally => 7

/-- DCAUSE (Table 3-5). -/
def TripCause.code : TripCause → Nat
  | .overCurrent => 1 | .desaturation => 2 | .gateSupply => 3

/-- A stretch factor in its eight-bit form: 0 means 256 (Tables 3-5, 6-9). -/
def stretch8 (n : Nat) : Nat := n % 256

/-- A signed 32-bit event value. -/
def word (i : Int) : BitVec 32 := BitVec.ofInt 32 i

/-- Nearest value inside a range. -/
def clampInt (lo hi x : Int) : Int := if x < lo then lo else if hi < x then hi else x
def clampRat (lo hi x : Rat) : Rat := if x < lo then lo else if hi < x then hi else x

/-- A rational in a signed field, rounded to the nearest below (log 8). -/
def toField (r : Rat) : Int := r.floor

/-! ## What is fitted, and what Miller reads -/

/-- Doorway fitted by PERSONALITY (Table 12-7) once the image is in force. -/
def State.fitted (s : State) (d : Door) : Bool := s.cfg.pers.doors.getLsbD d.1
def State.stepFitted (s : State) (d : Door) : Bool := s.cfg.pers.steps.getLsbD d.1
def State.chFitted (s : State) (c : Ch) : Bool := if c.isStep then s.stepFitted c.door else s.fitted c.door
/-- Side of a doorway: false left, true right. -/
def State.side (s : State) (d : Door) : Bool := s.cfg.pers.sides.getLsbD d.1
/-- Loop group of a doorway. -/
def State.group (s : State) (d : Door) : Group := if s.cfg.pers.groups.getLsbD d.1 then 1 else 0
/-- DV supply of a doorway (R74). -/
def supplyOf (d : Door) : Fin 2 := if d.1 < 8 then 0 else 1

/-- The filter of an input had been given its L + 4 samples at the last phase 0 latch (R240). -/
def State.fiValid (s : State) (n : Fi) : Bool := s.io.fi[n.1].valid
/-- Filtered level of input k (0-11) of a doorway as Miller latched it (R242). -/
def State.inp (s : State) (d : Door) (k : Fin 12) : Bool := s.io.fi[(d.fi k).1].valid && s.io.fi[(d.fi k).1].value
/-- R200 senses on Miller's path. -/
def State.lockRead (s : State) (d : Door) : Bool := s.inp d 0 && !s.inp d 1
def State.unlockRead (s : State) (d : Door) : Bool := !s.inp d 0 && s.inp d 1
def State.closedRead (s : State) (d : Door) : Bool := s.inp d 2 && s.inp d 3
def State.edgeOpenA (s : State) (d : Door) : Bool := !s.inp d 4
def State.edgeOpenB (s : State) (d : Door) : Bool := !s.inp d 5
def State.handleOperated (s : State) (d : Door) : Bool := !s.inp d 6
def State.keyOperated (s : State) (d : Door) : Bool := s.inp d 7
def State.stepRetRead (s : State) (d : Door) : Bool := s.inp d 10
def State.stepExtRead (s : State) (d : Door) : Bool := s.inp d 11

/-- A train line of the given function reads active after its filter (Table 8-3). -/
def State.tlOn (s : State) (f : Nat) : Bool :=
  (List.finRange 16).any fun n => s.cfg.io.tl[n.1].function == f && s.io.tl[n.1].valid && s.io.tl[n.1].value
def State.zeroSpeed (s : State) : Bool := s.tlOn 4
def State.depot (s : State) : Bool := s.tlOn 6

/-- Inputs, train lines and outputs of the variant (Table 0-1): the Umurn 2208 has half of each but the train lines. -/
def State.half (s : State) (n : Nat) (k : Nat) : Bool := s.nv.is2216 || 2 * k < n

/-- Release state of a doorway's side (R287). -/
def State.sideReleased (s : State) (d : Door) : Bool := if s.side d then s.tele.relR else s.tele.relL

/-- Release in force for a doorway: its side's release state and zero speed (R159). -/
def State.released (s : State) (d : Door) : Bool := s.sideReleased d && s.zeroSpeed

/-! ## Stroke (R28) -/

/-- Difference of two channel counts as a signed 24-bit step (R27). -/
def countDiff (a b : BitVec 24) : Int := (a - b).toInt

/-- Extended position as a signed number. -/
def Enc.pos (e : Enc) : Int := e.ext.toInt
/-- Stroke at the last latch: extended position minus the reference. -/
def Enc.stroke (e : Enc) : Int := (e.ext - e.reference).toInt
/-- Stroke at the running count, as CMP compares it. -/
def Enc.strokeNow (e : Enc) : Int := e.stroke + countDiff e.count e.last
/-- Stroke as a record value: the marker 0x80000000 while unreferenced (R29). -/
def Enc.strokeWord (e : Enc) : BitVec 32 := if e.ref then word e.stroke else 0x80000000
/-- Stand-still: a net count change of no more than 2 sc over 20 ms, that is 160 latches (R39). -/
def Enc.still (e : Enc) : Bool :=
  match e.hist[160]? with
  | some old => (countDiff e.latched old).natAbs ≤ 2
  | none => false

/-! ## Calendar time (R294-R298) -/

/-- Nanoseconds since 2000-01-01 at a mill clock moment. A slew runs at 500 ppm (R297). -/
def Calendar.nowNs (c : Calendar) (ns : Nat) : Nat :=
  let e := ns - c.at_
  let m := min (1000 * c.slew.natAbs) (e / 2000)
  let base := 1000 * c.us + c.sub + e
  if c.slew < 0 then base - m else base + m
/-- Microseconds since 2000-01-01. -/
def Calendar.now (c : Calendar) (ns : Nat) : Nat := c.nowNs ns / 1000
/-- Calendar seconds. -/
def State.calS (s : State) : Nat := s.cal.now s.ns / 1000000

/-- Holdover estimate in µs: last offset plus 2 µs per second since the last boundary (R298). -/
def Calendar.estimate (c : Calendar) (ns : Nat) : Nat := c.offset.natAbs + 2 * ((ns - c.boundary) / 1000000000)

/-- Time-quality code (Table 13-13 of chapter 9, Table 9-13). -/
def Calendar.tq (c : Calendar) (ns : Nat) : Nat :=
  match c.src with
  | .busA => 7
  | .busB => 6
  | .partner => 5
  | .holdover =>
    if c.byTally then 1
    else if !c.synced then 0
    else if c.estimate ns ≤ 1000 then 2
    else if c.estimate ns ≤ 100000 then 3
    else 4

/-! ## The fixed areas of Millbook (R339) -/

/-- A copy that is there and whose CRC-32C matches. -/
def goodCopy {α : Type} (c : Option (AreaCopy α)) : Option (AreaCopy α) := c.filter fun x => x.ok

/-- The copy in use, true for the second: the valid one with the higher generation. -/
def Area.inUse {α : Type} (x : Area α) : Option (Bool × AreaCopy α) :=
  match goodCopy x.c0, goodCopy x.c1 with
  | some a, some b => if a.gen < b.gen then some (true, b) else some (false, a)
  | some a, none => some (false, a)
  | none, some b => some (true, b)
  | none, none => none

/-- What the area holds. -/
def Area.value {α : Type} (x : Area α) : Option α := x.inUse.map fun p => p.2.val

/-- An update writes the older copy, with the next generation. -/
def Area.put {α : Type} (x : Area α) (v : α) : Area α :=
  match x.inUse with
  | some (true, b) => { x with c0 := some { gen := b.gen + 1, val := v } }
  | some (false, a) => { x with c1 := some { gen := a.gen + 1, val := v } }
  | none => { x with c0 := some { gen := 1, val := v } }

/-- The area as an update of its own (R368). -/
def Area.again {α : Type} (x : Area α) : Area α := match x.value with | some v => x.put v | none => x

/-- A copy's CRC-32C fails at start. -/
def Area.spoil {α : Type} (x : Area α) (second : Bool) : Area α :=
  if second then { x with c1 := x.c1.map fun c => { c with ok := false } } else { x with c0 := x.c0.map fun c => { c with ok := false } }

/-! ## Events and records (R330-R335, R376, R377) -/

/-- Codes exempt from the rate limit (R335): the Safety events of Table 7-11, power fail, module start. -/
def rateExempt (code severity : Nat) : Bool :=
  code == 0x300 || code == 0x3D0 ||
  (severity == 5 && (code == 0x321 || code == 0x322 || code == 0x323 || (code < 0x300 && (code % 48 == 36 || code % 48 == 37))))

/-- A record is created and offered to intake (R332); nothing is offered before intake opens or after power-fail (R347). -/
def State.offer (s : State) (r : Record) : State :=
  if s.book.intakeOpen && !s.book.powerFailed then { s with book := { s.book with offered := s.book.offered ++ [r] } } else s

/-- A record of this moment. -/
def State.record (s : State) (code severity doorway : Nat) (body : RecBody) : Record :=
  { event := code, mill := s.mill, calUs := s.cal.now s.ns, tq := s.cal.tq s.ns, severity, doorway, body }

/-- The bucket of a code, full where none is held (R334). -/
def State.bucket (s : State) (code : Nat) : Bucket := (mapGet code s.book.buckets).getD { tokens := s.cfg.recorder.burst }

def State.setBucket (s : State) (code : Nat) (b : Bucket) : State :=
  { s with book := { s.book with buckets := mapPut code b s.book.buckets } }

/-- Take a token (R334): the refill timer starts when one is taken from the full bucket. -/
def State.takeToken (s : State) (code : Nat) : State :=
  let b := s.bucket code
  s.setBucket code { b with
    tokens := b.tokens - 1, since := 0
    timer := if b.tokens = s.cfg.recorder.burst then some (s.ns + ms (1000 * s.cfg.recorder.refillS)) else b.timer }

/-- The occurrence is suppressed (R334). The suppressed count of a code is kept as counter `code` of instance 0x100, which no
address of area 0x02 reaches. -/
def State.suppress (s : State) (code : Nat) : State :=
  let b := s.bucket code
  (s.setBucket code { b with since := b.since + 1 }).bump 0x100 code

/-- Doorway number of an event code (R376), 0 for a module event. -/
def codeDoorway (code : Nat) : Nat := if code < 0x300 then code / 48 + 1 else 0

/-- State byte of an event record (Table 11-2): the doorway's state code, 0xFF for a module record. -/
def State.stateByte (s : State) (code : Nat) : Nat :=
  if h : code < 0x300 then (s.cyc[code / 48]'(by omega)).state.code else 0xFF

/-- An event occurs: filtered by severity (R333), limited by rate (R334, R335), else a record is created. -/
def State.event (s : State) (code severity cause : Nat) (a b c : BitVec 32) (detail : BitVec 32 := 0) : State :=
  if severity < s.cfg.recorder.minSeverity then s.bump 0x85 35
  else
    let body := RecBody.event (min (s.bucket code).since 65535) (s.stateByte code) cause a b c detail
    let r := s.record code severity (codeDoorway code) body
    if rateExempt code severity then
      (if (s.bucket code).since = 0 then s else s.setBucket code { s.bucket code with since := 0 }).offer r
    else if (s.bucket code).tokens = 0 then s.suppress code
    else (s.takeToken code).offer r

/-- An event of a doorway by its index of Table 13-1. -/
def State.doorEvent (s : State) (d : Door) (index severity cause : Nat) (a b c : BitVec 32) : State :=
  s.event (d.1 * 48 + index) severity cause a b c

/-! ## Miller's requests to Millstone (R92) -/

/-- Miller requests a mode with its argument. -/
def State.request (s : State) (c : Ch) (m : Mode) (arg : Int) : State :=
  s.modSlot c fun x => { x with req := some (m, arg) }

/-- A bucket engine of a doorway runs: its program store has had no parity error (R382). Roles in the order of Table 1-3. -/
def State.engineRuns (s : State) (d : Door) (role : Fin 12) : Bool := !s.maint.enginesStopped[d.1].getLsbD role.1

/-! ## Lock solenoid (R156) -/

/-- Load switch of role 1 of a doorway's block (R266); LS(3d − 2) in the default allocation. -/
def State.lockLs (s : State) (d : Door) : Ls :=
  match (List.finRange 3).find? fun k => s.cfg.ls.sw[(d.ls k).1].role == 1 with
  | some k => d.ls k
  | none => d.ls 0

/-! ## Outputs and their precedence (R24, R261-R264) -/

/-- Outputs may be driven normally (Table 1-7): configured, Sluice not safe, and the token held. -/
def State.outputsLive (s : State) : Bool := !s.sluice.holding && !s.sluice.safe && s.pair.token

/-- A load switch follows its command: off while not live, at a duty of 0, in a retry pause, latched, or shed (R257, R258, R260, R263). -/
def State.lsPin (s : State) (n : Ls) : Bool :=
  s.outputsLive && s.io.ls[n.1].cmd && s.io.ls[n.1].shadow != 0 && s.io.ls[n.1].pause.isNone && !s.io.ls[n.1].latched && !s.io.ls[n.1].shed

/-- Duty that a period carries, in 0.1 %: an on-time below 50 µs is dropped (R258). -/
def pinDuty (duty : Nat) : Nat := if duty < 10 then 0 else duty

/-- On-time without current limit of a switch up to a moment, over all its on-intervals since its last spell in limit, ns: a PWM switch is
on for its duty (R254). -/
def LsSt.cleanNs (x : LsSt) (now : Nat) : Nat := x.clean + (now - x.cleanAt) * x.active / 1000

/-- The clean on-time is taken before a switch turns or its duty changes. -/
def LsSt.settle (x : LsSt) (now : Nat) : LsSt := { x with clean := x.cleanNs now, cleanAt := now }

/-- Drive a load switch's pin from its command; a Sluice safe state (R262) or a doorway restart (R264) holds the pin. A switch
that turns on carries its commanded duty at once (R156). -/
def State.driveLs (s : State) (n : Ls) : State :=
  if s.sluice.safe || s.cyc[n.door.1].restarting then s
  else
    let v := s.lsPin n
    s.modLs n fun x => { x.settle s.ns with
      on := v, active := if !v then 0 else if x.on then x.active else pinDuty x.shadow
      onAt := if v && !x.on then s.ns else x.onAt, limitAt := if v && !x.on then s.ns else x.limitAt }

/-- Command a load switch. In a retry pause the pin follows only at its end; an off command ends the retry sequence (R257). -/
def State.commandLs (s : State) (n : Ls) (v : Bool) (duty : Nat) : State :=
  (s.modLs n fun x => { x with
    cmd := v, ended := x.ended || (!v && x.pause.isSome)
    shadow := if v then duty else 0, shadowAt := s.ns, shadowPrev := x.shadow }).driveLs n

/-- Source of an output; the outputs of a doorway that is not fitted take source 2 only (R252). -/
def State.doSource (s : State) (n : Dout) : Nat := if s.fitted n.door then s.cfg.io.dout[n.1].source else 2

/-- Level a digital output is commanded to by its source (R252). -/
def State.doCmd (s : State) (n : Dout) : Bool :=
  if s.doSource n = 0 then s.io.dout[n.1].cmd
  else if s.doSource n = 1 then s.io.dout[n.1].cmpCmd
  else s.io.dout[n.1].busCmd

/-- Drive a digital output's pin (R250, R251, R263, R264); each change of the driven level restarts the 500 µs blanking. -/
def State.driveDo (s : State) (n : Dout) : State :=
  if s.sluice.safe || s.cyc[n.door.1].restarting then s
  else
    let want := if s.outputsLive && !s.io.dout[n.1].fault then (if s.doCmd n then DoPin.on else .off) else .z
    s.modDout n fun x => if x.pin = want then x else { x with pin := want, blank := s.ns + 500000, mismatch := none }

/-- Drive every output and switch (takeover, acceptance, loss of the token). -/
def State.driveAll (s : State) : State :=
  (List.finRange 48).foldl State.driveLs ((List.finRange 32).foldl State.driveDo s)

/-- Miller runs with an accepted configuration (R353, R354, R383). -/
def State.millerRuns (s : State) : Bool := s.maint.configured && !s.maint.failed

/-- This module's Miller runs, decides and requests motions: a module without the token of its pair follows the stream (R312), and a
failed Miller does nothing (R383). -/
def State.decides (s : State) : Bool := !s.maint.failed && (!s.pair.formed || s.pair.token)

/-! ## Low-side braking (R54, R67) -/

/-- A leg is commanded to a level: the conducting switch turns off, the opposite one turns on a dead time later, and the dwell
runs from the command (R53, R54). A leg already at the level is left as it is. -/
def LegSt.command (l : LegSt) (high : Bool) (now dwell dead : Nat) : LegSt :=
  if l.high = high ∧ (l.on ∨ l.dead.isSome) then l
  else { l with high := high, on := false, dwell := some (now + dwell), dead := some (now + dead) }

/-- A leg's low side is turned on: not while a dwell runs (R53), after a dead time where its high side conducts, else at once (R54). -/
def LegSt.lowOn (l : LegSt) (now dwell dead : Nat) : LegSt :=
  if l.dwell.isSome || (!l.high && l.on) then l
  else if l.high && l.on then l.command false now dwell dead
  else { l with high := false, on := true, dead := none, dwell := some (now + dwell) }

/-- A leg's two switches are off. -/
def LegSt.off (l : LegSt) : LegSt := { l with on := false, dead := none }

/-- Low-side braking on or off at a moment: all low sides on while the pairs stay closed (R67). When it ends the legs stay as they are,
for CUR to switch again (R52). -/
def Drv.setLowBrake (x : Drv) (v : Bool) (now dwell dead : Nat) : Drv :=
  if v && x.pairsCmd && x.pairsSensed && x.weir.trip.isNone then
    (if x.lowBrk then x else { x with lowBrk := true, lowOff := none, legs := x.legs.map fun l => l.lowOn now dwell dead })
  else if x.lowBrk then { x with lowBrk := false, lowOff := none, legs := if x.bridgeOn then x.legs else x.legs.map LegSt.off }
  else x

/-- A period's Brake output takes effect at its phase 110 µs (R10, R89). -/
def Drv.outputsDue (x : Drv) (dwell dead ns : Nat) : Drv :=
  match x.lowNext with
  | some (v, k) => if k ≤ ns then ({ x with lowNext := none }).setLowBrake v k dwell dead else x
  | none => x

/-- CUR switches the legs of a doorway: enabled, not braking, its engine running. -/
def State.curSwitches (s : State) (d : Door) : Bool := s.drv[d.1].bridgeOn && !s.drv[d.1].lowBrk && s.engineRuns d 2

/-- A leg does what its comparator commands, unless a dwell runs (R52, R53). -/
def State.followWindow (s : State) (d : Door) (leg : Fin 3) : State :=
  let g := s.cfg.door[d.1].drive
  let l := s.drv[d.1].legs[leg.1]
  match l.cmp with
  | some high =>
    if s.curSwitches d && l.dwell.isNone then
      s.modDrv d fun x => { x with legs := x.legs.set leg.1 (l.command high s.ns g.dwellNs g.deadNs) }
    else s
  | none => s

/-- Every leg does what its comparator commands. -/
def State.followLegs (s : State) (d : Door) : State := (List.finRange 3).foldl (fun (s : State) leg => s.followWindow d leg) s

/-- The outputs of a doorway that have taken effect by now; where they end low-side braking, CUR switches the legs again (R52). -/
def State.outputsDue (s : State) (d : Door) : State :=
  let g := s.cfg.door[d.1].drive
  let was := s.drv[d.1].lowBrk
  let s := s.modDrv d fun x => x.outputsDue g.dwellNs g.deadNs s.ns
  if was && !s.drv[d.1].lowBrk then s.followLegs d else s

/-- Every switch of a channel's bridge is off (R70, R71). -/
def State.bridgeOff (s : State) (c : Ch) : State :=
  s.modDrv c.door fun x =>
    if c.isStep then { x with shape := .coast, stepDead := none }
    else { x with bridgeOn := false, lowBrk := false, lowOff := none, lowNext := none, legs := x.legs.map LegSt.off }

/-- Millstone sets a channel's set-points to zero (R73 step 1), its bucket engine with them. -/
def State.zeroOutputs (s : State) (c : Ch) : State :=
  let s := s.modSlot c fun x => { x with staging := none, out := 0, wOut := 0, iqRef := 0, vSet := 0 }
  s.modDrv c.door fun x =>
    if c.isStep then
      let w : PwmWord := { duty := 0, dir := false, mode := .drive }
      { x with shadow := w, shadowPrev := w, shadowAt := s.ns }
    else { x with refs := Vector.replicate 3 0, refsPrev := Vector.replicate 3 0, refsAt := s.ns, lowNext := none }

/-! ## Isolation pairs and braking path (R64-R68) -/

/-- A Weir trip is latched in the doorway, on its door bridge or its step bridge (R64, R93). -/
def State.tripped (s : State) (d : Door) : Bool := s.drv[d.1].weir.trip.isSome || s.drv[d.1].sweir.trip.isSome

/-- Turn every bridge switch off and command the pairs open (R65). -/
def State.openPairs (s : State) (d : Door) : State :=
  s.modDrv d fun x => { x with
    bridgeOn := false, lowBrk := false, lowOff := none, lowNext := none, pairsCmd := false
    pairsAt := if x.pairsCmd then s.ns else x.pairsAt
    legs := x.legs.map LegSt.off }

/-- The braking path is asked for; it turns on only once the pairs have opened (R68). -/
def State.askBrake (s : State) (d : Door) : State :=
  s.modDrv d fun x => if x.pairsSensed then { x with brakeAsked := true }
    else { x with brakeAsked := false, brake := x.brake.orElse fun _ => some (s.ns + ms s.cfg.pers.brakeHoldMs) }

/-- The braking path turns off. -/
def State.dropBrake (s : State) (d : Door) : State := s.modDrv d fun x => { x with brake := none, brakeAsked := false, brakeSluice := false }

/-- A doorway is ISOLATED, FAULT_HELD, being restarted, or has its door channel stopped by Miller (R64, R85). The Brake that R178
requests of a leaf that moves when the key is operated is overridden by rule 1 of R93 (log 18). -/
def State.doorStopped (s : State) (d : Door) : Bool :=
  s.cyc[d.1].state == .isolated || s.cyc[d.1].state == .faultHeld || s.cyc[d.1].restarting || s.slot[d.ch.1].stopped

/-- The standby's last back frame reports an isolation fault, which stands until it restarts (R324). -/
def State.partnerIso (s : State) : Bool :=
  s.pair.formed && s.pair.token && (match s.pair.rxBack with | some f => f.pairiso | none => false)

/-- The conditions of R64 under which a doorway's pairs close; a motor whose pair conducts at the partner is not driven (R324). -/
def State.pairsMayClose (s : State) (d : Door) : Bool :=
  s.pair.token && s.pair.closeAt.isNone && !s.pair.releasing && !s.sluice.safe && s.maint.configured && s.fitted d && !s.doorStopped d &&
  !s.tripped d && s.drv[d.1].brake.isNone && !s.drv[d.1].brakeAsked && !s.drv[d.1].isoBlocked &&
  !s.partnerIso && !s.drv[d.1].dvStopped

/-- Close the pairs where R64 allows, open them where it does not (R64, R65). -/
def State.settlePairs (s : State) (d : Door) : State :=
  if s.pairsMayClose d then
    (if s.drv[d.1].pairsCmd then s
     else s.modDrv d fun x => { x with
       bridgeOn := false, pairsCmd := true, pairsAt := s.ns, legs := x.legs.map LegSt.off })
  else if s.drv[d.1].pairsCmd then s.openPairs d else s

/-! ## Capture ends (R114) -/

/-- Injection and capture end at once, their samples kept and marked incomplete. -/
def State.endCapture (s : State) : State :=
  if s.capture.active then
    { s with capture := { s.capture with
      active := false, running := false, injecting := false, signal := 0, incomplete := s.capture.incomplete || s.capture.running } }
  else s

/-- End a capture that runs on the given doorway. -/
def State.endCaptureOn (s : State) (d : Door) : State :=
  match s.capture.req with
  | some r => if r.door = d then s.endCapture else s
  | none => s

/-! ## Door-loop outputs (R206, R207) -/

/-- A group's outputs turn off; one stuck on stays on (R211). -/
def State.groupOff (s : State) (g : Group) : State :=
  if s.safety.grp[g.1].on then
    ((s.modGrp g fun x => { x with p := x.stuckP, m := x.stuckM, on := false, changedAt := s.ns }).bump (0x71 + g.1) 1).event
      0x320 1 2 (word (g.1 + 1)) 0 0
  else s.modGrp g fun x => { x with p := x.stuckP, m := x.stuckM }

/-- A channel's enable for a group falls. -/
def State.dropEnable (s : State) (ch : SafetyCh) (g : Group) : State :=
  s.setChan ch { s.chan ch with enable := (s.chan ch).enable &&& ~~~((1#2) <<< g.1) }

/-! ## The drive token (R304) -/

/-- Every isolation pair of the module senses open. -/
def State.allPairsOpen (s : State) : Bool := (List.finRange 16).all fun d => !s.drv[d.1].pairsSensed

/-- The kind of takeover that a module of a pair leaves to its partner: planned, cold where the partner's last back frame showed SPLIT, else
hot (R323, R325). DEDUCED: the outgoing module cannot see the partner's stream, so it names the kind by that frame (log 40). -/
def Pair.givenUp (p : Pair) : Nat :=
  if p.releasing then 1 else if (match p.rxBack with | some f => f.pstate == 5 | none => false) then 3 else 2

/-- TOK-OUT is released, and with it every step bridge goes into COAST (R302, R304, R307). -/
def State.dropToken (s : State) : State :=
  let p := s.pair
  let s := { s with
    io := { s.io with pairSink := p.formed }
    pair := { p with
      token := false, releasing := false, handover := false, roleAt := s.ns
      gaveUp := if p.formed then some (p.givenUp) else none
      pstate := if p.formed then .standbyNotReady else p.pstate } }
  s.eachDoor fun s d => s.bridgeOff d.step

/-- TOK-OUT is released; every digital output goes high-impedance and every switch off (R304). A Sluice safe state of a module that runs
alone keeps its programmed states (R263). -/
def State.releaseToken (s : State) : State :=
  let s := s.dropToken
  if s.sluice.safe && !s.pair.formed then s
  else
    let s := (List.finRange 32).foldl (fun s n => s.modDout n fun x => { x with pin := .z, mismatch := none }) s
    (List.finRange 48).foldl (fun s n => s.modLs n fun x => { x.settle s.ns with on := false, active := 0 }) s

/-- A module that opens its pairs to give up the token, at a handover, or in the safe state, releases
TOK-OUT once every pair senses open (R304, R322). -/
def State.tryRelease (s : State) : State :=
  if s.pair.token && (s.pair.releasing || s.pair.tokenBarred) && s.allPairsOpen then s.releaseToken else s

/-- A module may assert TOK-OUT: TOK-IN reads released, a slot has booted, and neither Sluice's action nor an isolation fault bars
it (R304, R324). -/
def State.mayTakeToken (s : State) : Bool :=
  !s.pair.tokIn && !s.pair.tokenBarred && !s.sluice.safe && (s.maint.configured || s.maint.booted.isSome) &&
  (List.finRange 16).all fun d => !s.drv[d.1].isoBlocked

/-- Assert TOK-OUT; the pairs are commanded closed 5 µs later (R304, R324). A grid not locked starts on the own clock (R213). -/
def State.takeToken' (s : State) : State :=
  { s with
    pair := { s.pair with token := true, closeAt := some (s.ns + 5000) }
    safety := if s.safety.gridLocked then s.safety
      else { s.safety with gridLocked := true, gridOrigin := (s.ns / 20000000) * 20000000 } }

/-! ## Sluice (R12, R13, R221, R262, R263) -/

/-- Safe pin of a digital output: high-impedance in a formed pair, else its programmed state; hold keeps the pin. -/
def State.safeDo (s : State) (n : Dout) (x : DoutSt) : DoutSt :=
  if s.pair.formed || !s.sluice.latched then { x with pin := .z, mismatch := none }
  else match s.cfg.io.dout[n.1].safe with
    | 0 => { x with pin := .off }
    | 1 => { x with pin := .on }
    | _ => x

/-- Safe pin of a load switch: off in a formed pair, else its programmed state, fully on without PWM, or held. -/
def State.safeLs (s : State) (n : Ls) (x : LsSt) : LsSt :=
  if s.pair.formed || !s.sluice.latched then { x.settle s.ns with on := false, active := 0 }
  else match s.cfg.ls.sw[n.1].safe with
    | 0 => { x.settle s.ns with on := false, active := 0 }
    | 1 => { x.settle s.ns with on := true, active := 1000 }
    | _ => x

/-- Sluice takes the safe state, without Miller, Millstone or the bucket engines (R12, R23): door loops de-energised,
programmed safe states, every isolation pair open, braking paths on, drive token released; held until restart (R13). -/
def State.sluiceAct (s : State) : State :=
  if s.sluice.safe then s
  else
    let s1 := s.eachDoor fun s d => ((s.openPairs d).askBrake d).modDrv d fun x => { x with brakeSluice := true }
    let s2 := { s1 with io := { s1.io with
      dout := Vector.ofFn fun n => s1.safeDo n s1.io.dout[n.1]
      ls := Vector.ofFn fun n => s1.safeLs n s1.io.ls[n.1] } }
    let s3 := (s2.groupOff 0).groupOff 1
    let s4 := { s3 with
      sluice := { s3.sluice with safe := true }
      pair := { s3.pair with tokenBarred := true, closeAt := none } }
    (s4.tryRelease).endCapture

/-! ## Tally requests (R19, R354, R370-R372) -/

/-- The session of a request. -/
def State.session (s : State) (id : BitVec 32) : Option Session := s.maint.sessions.find? fun x => x.id == id

def State.setSession (s : State) (x : Session) : State :=
  { s with maint := { s.maint with sessions := s.maint.sessions.map fun y => if y.id == x.id then x else y } }

/-- `n` bytes of a value, least significant first. -/
def toLe : Nat → Nat → List Byte
  | 0, _ => []
  | n + 1, v => BitVec.ofNat 8 v :: toLe n (v / 256)

/-- Header of a response (Table 12-11). -/
def Reply.header (r : Reply) : List Byte :=
  toLe 1 r.version ++ toLe 1 r.resp.toNat ++ toLe 2 r.command ++ toLe 4 r.session.toNat ++ toLe 4 r.counter.toNat ++ toLe 2 r.length ++
  toLe 1 r.reason ++ [0]

/-- Tag of a message of a session (R370): 16 bytes under the session key over header and payload; none without a session, or with a blank
identity area (R371). -/
def State.sessionTag (s : State) (session : BitVec 32) (bytes : List Byte) : Option (List Byte) :=
  if s.maint.blank then none else (s.session session).map fun x => (Config.hmacSha256 x.key bytes).take 16

/-- The one response of a request of a command: its session and counter, a reason code and a payload (R370, R372). -/
def State.answer (s : State) (command : Nat) (m : Msg) (reason : Nat) (payload : List Byte := []) : State :=
  let r : Reply := { command, session := m.session, counter := m.counter, length := payload.length, reason, payload }
  { s with maint := { s.maint with reply := some { r with tag := s.sessionTag m.session (r.header ++ payload) }, reason } }

/-- The command of the request in hand. -/
def State.hear (s : State) (code : Nat) : State := { s with maint := { s.maint with command := code } }

/-- The response of the request in hand. -/
def State.reply (s : State) (m : Msg) (reason : Nat) (payload : List Byte := []) : State := s.answer s.maint.command m reason payload

/-- A request is answered 0x00 under its session's key, and then acts, which may end that session or the module's run. -/
def State.replyThen (s : State) (m : Msg) (f : State → State) : State :=
  let x := (s.reply m 0x00).maint.reply
  let s := f s
  { s with maint := { s.maint with reply := x, reason := 0x00 } }

/-- What a Tally command needs to be answered: an accepted configuration; also an unconfigured module (R354); also a blank
identity area in depot mode (R371). -/
inductive TallyLevel where | configured | unconfigured | blank
deriving DecidableEq, Repr

/-- The request is answered at all in this start-up state. -/
def State.tallyAnswers (s : State) (l : TallyLevel) : Bool :=
  if s.maint.blank then l == .blank && s.depot else s.maint.configured || l != .configured

/-- Frame of every Tally request, by its command code. Before step 3 it is dropped (R353); a request of no session is refused 0x06; a counter not
above the session's last is dropped and counted (R371); before acceptance a request outside R354 is refused 0x08. Else
the counter is taken and `body` decides. On a blank area an unanswerable request is dropped. -/
def State.tally (s : State) (code : Nat) (m : Msg) (l : TallyLevel) (body : State → Session → State) : State :=
  if s.maint.step < 3 || s.maint.failed then s.bump 0x80 24
  else match s.session m.session with
    | none => s.answer code m 0x06
    | some x =>
      if m.counter ≤ x.counter then s.bump 0x80 24
      else
        let x' := { x with counter := m.counter, last := s.ns }
        let s' := (s.setSession x').hear code
        if s'.tallyAnswers l then body s' x'
        else if s'.maint.blank then s' else s'.reply m 0x08

/-- A request that names a doorway: fitted, else code 0x02, and holding its maintenance token, else 0x05 (R369, Table 1-4). -/
def State.tallyDoor (s : State) (code : Nat) (m : Msg) (d : Door) (body : State → State) : State :=
  s.tally code m .configured fun s _ =>
    if !s.fitted d then s.reply m 0x02
    else if s.maint.doorTok[d.1] ≠ some m.session then s.reply m 0x05
    else body s

/-- Last outcome of a kind of long operation (R372). -/
def State.outcome (s : State) (k : MaintKind) (code : Nat) : State :=
  { s with maint := { s.maint with outcomes := (k, code) :: s.maint.outcomes.filter fun p => p.1 != k } }

/-- A message enters the message area of the Cesil link (R316). -/
def State.putMsg (s : State) (m : CesilMsg) (deadline : Option Nat := none) : State :=
  { s with pair := { s.pair with msgs := s.pair.msgs ++ [{ msg := m, deadline := deadline }] } }

/-! ## Checks of Table 13-5 -/

/-- One byte through CRC-16, polynomial 0x1021 (R308, R330). -/
def crc16Byte (c : BitVec 16) (b : Byte) : BitVec 16 :=
  (List.range 8).foldl (fun c _ => if c.msb then (c <<< 1) ^^^ 0x1021 else c <<< 1) (c ^^^ (b.zeroExtend 16 <<< 8))

/-- CRC-16: initial value 0xFFFF, no reflection, no final exclusive-or. -/
def crc16 (l : List Byte) : BitVec 16 := l.foldl crc16Byte 0xFFFF

/-- One byte through CRC-32C, reflected (R281). -/
def crc32cByte (c : BitVec 32) (b : Byte) : BitVec 32 :=
  (List.range 8).foldl (fun c _ => if c.getLsbD 0 then (c >>> 1) ^^^ 0x82F63B78 else c >>> 1) (c ^^^ b.zeroExtend 32)

/-- CRC-32C: polynomial 0x1EDC6F41 reflected, initial value and final exclusive-or 0xFFFFFFFF. -/
def crc32c (l : List Byte) : BitVec 32 := (l.foldl crc32cByte 0xFFFFFFFF) ^^^ 0xFFFFFFFF

end Sys2Proof.Machine
end

