-- ==== Sys2Proof/Machine/Flags.lean ====
section
/-!
DEFINITION. Sys2Proof/Machine/Flags.lean: every status word of Table 13-3, computed from the state, and the clearing of its
sticky bits by mask (R50, CLEAR_STATUS).
-/
namespace Sys2Proof.Machine

/-! ## Putting fields into a word -/

/-- A word from fields (lowest bit, width, value); a value is cut to its width. -/
def packWord (l : List (Nat × Nat × Nat)) : BitVec 32 :=
  l.foldl (fun w f => w ||| (BitVec.ofNat 32 (f.2.2 % 2 ^ f.2.1) <<< f.1)) 0

/-- One bit at a place. -/
def bit (i : Nat) (b : Bool) : Nat × Nat × Nat := (i, 1, b.toNat)

/-- A signed value in `w` bits, saturating. -/
def satSigned (w : Nat) (i : Int) : Nat := (clampInt (-(2 ^ (w - 1) : Nat)) ((2 ^ (w - 1) : Nat) - 1) i % ((2 ^ w : Nat) : Int)).toNat

/-- A bias in 0.5 N (Tables 5-7, 6-9, 11-4). -/
def halfN (r : Rat) : Int := toField (r * 2)
/-- A force in 0.1 N. -/
def tenthN (r : Rat) : Int := toField (r * 10)

/-! ## Conditions that words and rules share -/

/-- Edge fault in force: either channel has it (R133). -/
def State.edgeFlt (s : State) (d : Door) : Bool := s.obs[d.1].edgeFltR || s.obs[d.1].edgeFltB

/-- Slow-close in force while any cause is present (R138). -/
def State.slowClose (s : State) (d : Door) : Bool := s.obs[d.1].drift || s.obs[d.1].plausSc || s.edgeFlt d || s.obs[d.1].noCal

/-- A bus is established on its rate (R271, R272). -/
def BusSt.established (b : BusSt) : Bool := b.started && b.bstate != .detecting

/-- Delivering (R284): established, not bus off, not classical-only, a valid door command copy within three cycles. -/
def State.delivering (s : State) (b : BusId) : Bool :=
  s.bus[b.1].established && s.bus[b.1].err != .off && s.bus[b.1].timing.data != 0 &&
  (match s.bus[b.1].copyAt with | some x => decide (s.ns ≤ x + ms (3 * s.cfg.bus.safeCycleMs)) | none => false)

/-- A source by its code 0-3 (Table 7-8). -/
def srcOf (n : Nat) : Src := ⟨n % 4, Nat.mod_lt _ (by decide)⟩

/-- An input of a channel reads closed (lit): its filter has been given L + 4 samples and stands at 1, and neither a pulse
fault nor its source's fault makes it read open (R203, R210, R214, R216). -/
def SFilt.reads (f : SFilt) (limit : Nat) (srcFault : Bool) : Bool :=
  decide (limit + 4 ≤ f.given) && f.filtered && !f.missing && f.cross.isNone && !srcFault

/-- Source that feeds DLn-FB. -/
def State.fbSrc (s : State) (g : Group) : Src := srcOf s.cfg.bedstone.fbSource[g.1]

/-- DLn-FB reads dropped out (lit) in a channel (R209); before its filter is valid it does not (R210). -/
def State.fbDropped (s : State) (ch : SafetyCh) (g : Group) : Bool :=
  (s.chan ch).fb[g.1].reads s.cfg.bedstone.filterLimit (s.chan ch).srcFault[(s.fbSrc g).1]

/-- The feedback filter of a channel is valid (R210, R240). -/
def State.fbValid (s : State) (ch : SafetyCh) (g : Group) : Bool :=
  decide (s.cfg.bedstone.filterLimit + 4 ≤ (s.chan ch).fb[g.1].given)

/-- Doorways counted by both channels in a group (Table 7-10). -/
def State.countedBoth (s : State) (g : Group) : BitVec 16 :=
  let m := s.safety.runner.counted &&& s.safety.bedstone.counted
  (List.finRange 16).foldl (fun (w : BitVec 16) d => if s.group d = g then w else w &&& ~~~((1#16) <<< d.1)) m

/-- A latch of either channel locks the group out until a safety reset (R210, R219). -/
def State.lockedOut (s : State) (g : Group) : Bool :=
  (s.safety.runner.fbLock ||| s.safety.runner.discLock ||| s.safety.bedstone.fbLock ||| s.safety.bedstone.discLock).getLsbD g.1

/-- LOOP of Table 7-10. -/
def State.loopCode (s : State) (g : Group) : Nat :=
  if s.safety.grp[g.1].lockRestart || s.sluice.safe then 3
  else if s.lockedOut g then 2
  else if s.safety.grp[g.1].on then 1 else 0

/-! ## Status words -/

/-- Position status (Table 2-4). -/
def State.positionWord (s : State) (c : Ch) : BitVec 32 :=
  let e := s.enc[c.1]
  packWord [bit 0 e.ref, bit 1 e.dir, bit 2 e.rev, bit 3 e.agc, bit 4 e.idxOk, bit 5 e.idxMis, bit 6 e.spacing,
    bit 7 e.illegal, bit 8 e.line, bit 9 e.supply, bit 10 e.encFlt, bit 11 e.refClose,
    (16, 5, e.lastCmp.toNat), bit 21 e.cmpValid]

/-- Drive status (Table 3-5). -/
def State.driveWord (s : State) (d : Door) : BitVec 32 :=
  let g := s.cfg.door[d.1].drive
  let x := s.drv[d.1].outputsDue g.dwellNs g.deadNs s.ns
  let cause := fun (w : Weir) => match w.trip with | some c => TripCause.code c | none => 0
  packWord [bit 0 x.weir.trip.isSome, (1, 2, cause x.weir), bit 3 x.sweir.trip.isSome, (4, 2, cause x.sweir),
    bit 6 x.pairsSensed, bit 7 x.isoFlt, bit 8 x.brake.isSome, bit 9 x.lowBrk, bit 10 s.sup[(supplyOf d).1].low,
    bit 11 x.clamp, bit 12 x.drop, bit 13 x.fullOn, bit 14 x.adcOvr, bit 15 x.range, (16, 8, stretch8 x.stretch),
    bit 24 x.govDly, bit 25 x.clrRef]

/-- SCALE code of Table 4-8. -/
def Scale.code : Scale → Nat
  | .full => 0 | .slowClose => 1 | .referencing => 2

/-- Millstone status (Table 4-8). -/
def State.millstoneWord (s : State) (c : Ch) : BitVec 32 :=
  let x := s.slot[c.1]
  let m := s.cmp[c.door.1]
  let inj := s.capture.injecting && !c.isStep && (match s.capture.req with | some r => r.door == c.door | none => false)
  packWord [(0, 4, x.mode.code), bit 4 x.gset, bit 5 x.sat, bit 6 (!c.isStep && m.window), bit 7 (!c.isStep && m.decel),
    bit 8 (!c.isStep && m.lzone), bit 9 x.bump, bit 10 x.parity, bit 11 x.starve, bit 12 (!x.pending.isEmpty), bit 13 inj,
    bit 14 s.capture.running, bit 15 x.angFlt, (16, 2, x.angSrc), (18, 4, x.pending.length), (24, 2, x.scale.code),
    bit 26 x.rphase]

/-- Obstacle status (Table 5-7). -/
def State.obstacleWord (s : State) (d : Door) : BitVec 32 :=
  let o := s.obs[d.1]
  packWord [bit 0 o.armed, bit 1 o.obsDet, bit 2 o.openDet, bit 3 o.latch, bit 4 (s.edgeOpenA d), bit 5 (s.edgeOpenB d),
    bit 6 (s.edgeFlt d), bit 7 o.plaus, bit 8 (s.slowClose d), bit 9 o.drift, bit 10 o.noCal, bit 11 o.plausSc,
    bit 12 (match s.maint.tenter with | some x => x.door == d | none => false), bit 13 o.oor, bit 14 o.stall,
    (16, 8, satSigned 8 (halfN o.bClose)), (24, 8, satSigned 8 (halfN o.bOpen))]

/-- Door cycle status (Table 6-11). -/
def State.cycleWord (s : State) (d : Door) : BitVec 32 :=
  let y := s.cyc[d.1]
  packWord [(0, 4, y.state.code), bit 4 (s.released d), bit 5 y.closeCmd, bit 6 y.proven, bit 7 (s.lockRead d),
    (8, 2, y.prfR), (10, 2, y.prfB), (12, 2, y.prfS), bit 14 (s.handleOperated d), bit 15 (s.keyOperated d),
    (16, 4, y.reopens), (20, 3, y.step.code), bit 23 y.stepFlt, (24, 4, y.fcause), bit 28 y.lockFlt,
    bit 29 (s.closedRead d), bit 30 y.partly]

/-- Safety status of a loop group (Table 7-10). -/
def State.safetyWord (s : State) (g : Group) : BitVec 32 :=
  let x := s.safety.grp[g.1]
  packWord [(0, 2, s.loopCode g), bit 2 (s.safety.runner.enable.getLsbD g.1), bit 3 (s.safety.bedstone.enable.getLsbD g.1),
    bit 4 (s.fbValid .bedstone g && !s.fbDropped .bedstone g), bit 5 x.fbFlt, bit 6 x.outFlt, bit 7 x.chDisc,
    bit 8 x.xshort, bit 9 x.srcFlt, bit 10 (s.safety.rst[0].jammed || s.safety.rst[1].jammed), bit 11 x.noEvid,
    bit 12 x.pairDisc, bit 13 x.runDead, (16, 16, (s.countedBoth g).toNat)]

/-- Level on a pin as the status word shows it. -/
def DoPin.level : DoPin → Bool
  | .on => true | _ => false

/-- Doorway I/O status (Table 8-11). -/
def State.ioWord (s : State) (d : Door) : BitVec 32 :=
  let fi := fun (k : Fin 12) => bit k.1 (s.io.fi[(d.fi k).1].filtered != s.cfg.io.fi[(d.fi k).1].invert)
  let ls := fun (k : Fin 3) => s.io.ls[(d.ls k).1]
  let any3 := fun (f : LsSt → Bool) => f (ls 0) || f (ls 1) || f (ls 2)
  packWord ((List.finRange 12).map fi ++ [bit 12 (s.io.wbrk.getLsbD d.1), bit 13 (s.io.wdeg.getLsbD d.1),
    bit 14 (s.io.indet.getLsbD d.1), bit 16 s.io.dout[(d.out 0).1].pin.level, bit 17 s.io.dout[(d.out 1).1].pin.level,
    bit 18 s.io.dout[(d.out 0).1].faultSticky, bit 19 s.io.dout[(d.out 1).1].faultSticky,
    bit 20 (ls 0).on, bit 21 (ls 1).on, bit 22 (ls 2).on, bit 24 (ls 0).latched, bit 25 (ls 1).latched,
    bit 26 (ls 2).latched, bit 27 (ls 0).openLd, bit 28 (ls 1).openLd, bit 29 (ls 2).openLd,
    bit 30 (any3 fun x => x.pause.isSome && x.cmd), bit 31 (any3 fun x => x.shed)])

/-- Module I/O status (Table 8-12). -/
def State.moduleIoWord (s : State) : BitVec 32 :=
  packWord ((List.finRange 16).map (fun n => bit n.1 s.io.tl[n.1].filtered) ++
    [bit 16 s.io.pairSink, bit 17 s.io.stLost, (18, 2, s.io.lsOvl.toNat), (20, 4, s.io.vdoSticky.toNat)])

def BState.code : BState → Nat
  | .detecting => 0 | .detected => 1 | .fallback => 2 | .configured => 3 | .recovery => 4
def ErrSt.code : ErrSt → Nat
  | .active => 0 | .passive => 1 | .off => 2

/-- Bus status (Table 9-15). -/
def State.busWord (s : State) (b : BusId) : BitVec 32 :=
  let x := s.bus[b.1]
  packWord [(0, 3, x.bstate.code), (3, 2, x.err.code), bit 5 x.listen, bit 6 (s.delivering b), bit 7 s.tele.single,
    (8, 4, x.adopted), bit 12 x.busOff, bit 13 x.noTraf, bit 14 x.ecc, bit 15 x.drop, (16, 8, min x.tecN 255),
    (24, 8, min x.recN 255)]

def TimeSrc.code : TimeSrc → Nat
  | .holdover => 0 | .busA => 1 | .busB => 2 | .partner => 3

/-- What of a slew is still to be removed at a moment, µs. -/
def Calendar.slewLeft (c : Calendar) (ns : Nat) : Nat := c.slew.natAbs - (ns - c.at_) / 1000 / 2000

/-- Time status (Table 9-16). -/
def State.timeWord (s : State) : BitVec 32 :=
  let c := s.cal
  packWord [(0, 4, c.tq s.ns), (4, 2, c.src.code), (6, 2, match c.psrc with | some x => x.code | none => 0),
    bit 8 (c.slewLeft s.ns != 0), bit 9 c.psrc.isSome, bit 10 c.step, bit 11 c.back, bit 12 c.aband,
    (16, 16, satSigned 16 (c.offset / 10))]

def PState.code : PState → Nat
  | .alone => 0 | .forming => 1 | .active => 2 | .standbyReady => 3 | .standbyNotReady => 4 | .split => 5

/-- ARB of Table 10-9: the designation at the inputs, 0 none, 1 this module, 2 the partner, 3 both lines on. -/
def State.arbCode (s : State) : Nat :=
  if s.pair.arb1 && s.pair.arb2 then 3
  else if !s.pair.arb1 && !s.pair.arb2 then 0
  else if s.pair.arb2 == s.pair.posB then 1 else 2

/-- Pair status (Table 10-9). -/
def State.pairWord (s : State) : BitVec 32 :=
  let p := s.pair
  packWord [(0, 3, p.pstate.code), bit 3 p.token, bit 4 p.tokIn, bit 5 p.posB, (6, 2, s.arbCode), bit 8 p.link,
    bit 9 p.crcErr, bit 10 p.cold, bit 11 p.tkovr, bit 12 p.mismatch, bit 13 p.arbFlt, bit 14 p.iso, (16, 16, p.posmis.toNat)]

def PondState.code : PondState → Nat
  | .absent => 0 | .charging => 1 | .testing => 2 | .available => 3 | .failed => 4 | .notFitted => 5

/-- Bytes a record takes in intake: 64, a trace 8 KiB (R336). -/
def Record.bytes (r : Record) : Nat := match r.body with | .trace _ => 8192 | _ => 64

/-- Intake fill in 1/256, the larger of space (1 MiB) and index (2,048 entries) (Table 11-6). -/
def Book.fill (b : Book) : Nat :=
  let bytes := (b.intake.map Record.bytes).sum
  min 255 (max (bytes * 256 / 1048576) (b.intake.length * 256 / 2048))

/-- Millbook status (Table 11-6). -/
def State.bookWord (s : State) : BitVec 32 :=
  let b := s.book
  packWord [(0, 3, b.pond.code), bit 3 b.wthru, bit 4 b.flushing.isSome, bit 5 b.reserve, bit 6 b.pfStart, bit 7 b.due,
    bit 8 b.idrop, bit 9 b.pdrop, bit 10 b.sdrop, bit 11 b.incomp, bit 12 b.mprem, bit 13 b.mpfail, bit 14 b.eccErr,
    bit 15 b.ptest, (16, 8, b.fill), (24, 8, min 255 (b.storeMv / 250))]

/-! ## Clearing sticky bits by mask (R50) -/

/-- A sticky bit after a clear with a mask whose bit i is set. -/
def keep (m : BitVec 32) (i : Nat) (b : Bool) : Bool := b && !m.getLsbD i

def Enc.clearBits (m : BitVec 32) (e : Enc) : Enc :=
  { e with rev := keep m 2 e.rev, agc := keep m 3 e.agc, idxMis := keep m 5 e.idxMis, spacing := keep m 6 e.spacing,
           illegal := keep m 7 e.illegal, line := keep m 8 e.line, supply := keep m 9 e.supply }

def Drv.clearBits (m : BitVec 32) (x : Drv) : Drv :=
  { x with isoFlt := keep m 7 x.isoFlt, clamp := keep m 11 x.clamp, drop := keep m 12 x.drop, fullOn := keep m 13 x.fullOn,
           adcOvr := keep m 14 x.adcOvr, range := keep m 15 x.range, clrRef := keep m 25 x.clrRef }

def Slot.clearBits (m : BitVec 32) (x : Slot) : Slot :=
  { x with bump := keep m 9 x.bump, parity := keep m 10 x.parity, starve := keep m 11 x.starve, angFlt := keep m 15 x.angFlt }

def Obs.clearBits (m : BitVec 32) (o : Obs) : Obs :=
  { o with obsDet := keep m 1 o.obsDet, openDet := keep m 2 o.openDet, plaus := keep m 7 o.plaus, oor := keep m 13 o.oor,
           stall := keep m 14 o.stall }

def Cyc.clearBits (m : BitVec 32) (y : Cyc) : Cyc :=
  { y with stepFlt := keep m 23 y.stepFlt, lockFlt := keep m 28 y.lockFlt }

def Grp.clearBits (m : BitVec 32) (x : Grp) : Grp :=
  { x with fbFlt := keep m 5 x.fbFlt, outFlt := keep m 6 x.outFlt, chDisc := keep m 7 x.chDisc, xshort := keep m 8 x.xshort,
           srcFlt := keep m 9 x.srcFlt, noEvid := keep m 11 x.noEvid, pairDisc := keep m 12 x.pairDisc,
           runDead := keep m 13 x.runDead }

def BusSt.clearBits (m : BitVec 32) (x : BusSt) : BusSt :=
  { x with busOff := keep m 12 x.busOff, noTraf := keep m 13 x.noTraf, ecc := keep m 14 x.ecc, drop := keep m 15 x.drop }

def Calendar.clearBits (m : BitVec 32) (c : Calendar) : Calendar :=
  { c with step := keep m 10 c.step, back := keep m 11 c.back, aband := keep m 12 c.aband }

def Pair.clearBits (m : BitVec 32) (p : Pair) : Pair :=
  { p with crcErr := keep m 9 p.crcErr, cold := keep m 10 p.cold, tkovr := keep m 11 p.tkovr,
           mismatch := keep m 12 p.mismatch, arbFlt := keep m 13 p.arbFlt, iso := keep m 14 p.iso }

def Book.clearBits (m : BitVec 32) (b : Book) : Book :=
  { b with idrop := keep m 8 b.idrop, pdrop := keep m 9 b.pdrop, sdrop := keep m 10 b.sdrop, incomp := keep m 11 b.incomp,
           mprem := keep m 12 b.mprem, mpfail := keep m 13 b.mpfail, eccErr := keep m 14 b.eccErr }

/-- Word address of area 0x01 (Table 13-3): instance and word to its value, none where the address names nothing. -/
def State.statusWord (s : State) (inst word : Nat) : Option (BitVec 32) :=
  let door : Option Door := if h : 1 ≤ inst ∧ inst ≤ 16 then some ⟨inst - 1, by omega⟩ else none
  let ch : Option Ch := if h : 1 ≤ inst ∧ inst ≤ 32 then some ⟨inst - 1, by omega⟩ else none
  let two : Option (Fin 2) := if h : 1 ≤ inst ∧ inst ≤ 2 then some ⟨inst - 1, by omega⟩ else none
  match word with
  | 0x0000 => door.map s.cycleWord
  | 0x0001 => door.map s.obstacleWord
  | 0x0002 => door.map s.driveWord
  | 0x0003 => ch.map s.positionWord
  | 0x0004 => ch.map s.millstoneWord
  | 0x0005 => door.map s.ioWord
  | 0x0010 => two.map s.safetyWord
  | 0x0011 => two.map s.busWord
  | 0x0012 => if inst = 0 then some s.moduleIoWord else none
  | 0x0013 => if inst = 0 then some s.timeWord else none
  | 0x0014 => if inst = 0 then some s.pairWord else none
  | 0x0015 => if inst = 0 then some s.bookWord else none
  | _ => none

end Sys2Proof.Machine
end

