-- ==== Sys2Proof/Machine/Stroke.lean ====
section
/-!
DEFINITION. Sys2Proof/Machine/Stroke.lean: encoder channels, references and the compare engine (02_stroke_and_position).
-/
namespace Sys2Proof.Machine

/-- Encoder parameters of a channel (Table 2-2; the STEP section holds the same block). -/
def State.encCfg (s : State) (c : Ch) : EncCfg :=
  if c.isStep then s.cfg.step[c.door.1].enc else s.cfg.door[c.door.1].enc

/-- Bit 4 of an encoder event's cause, and the cause of indices 24 and 25: 1 for a step encoder (Table 13-1). -/
def chCause (c : Ch) : Nat := if c.isStep then 1 else 0

/-! ## Encoder fault (R36) -/

/-- A condition of R30 to R32 stands now. -/
def State.encCondition (s : State) (c : Ch) : State := s.modEnc c fun e => { e with faultAt := s.ns }

/-- A door channel's fault reaches the door cycle: any state but CLOSED_LOCKED and RELEASED goes to UNREFERENCED once at
rest; an ISOLATED doorway remembers it (R179). DEDUCED: a step encoder's fault leaves the doorway's state as it is; its motion ends at the
tick (log 15). -/
def State.faultItem (s : State) (c : Ch) : State :=
  if c.isStep then s
  else match s.cyc[c.door.1].state with
    | .closedLocked | .released | .unreferenced | .faultHeld => s
    | .isolated => s.modEnc c fun e => { e with faultIsolated := true }
    | _ => s.modCyc c.door fun y => { y with encRest := true }

/-- A channel enters encoder fault (R36): the reference is lost at once, a Major event is recorded, and a moving leaf or
step is braked until stand-still. -/
def State.encoderFault (s : State) (c : Ch) (cause : Nat) : State :=
  if s.enc[c.1].encFlt then s
  else
    let s := s.modEnc c fun e => { e with
      encFlt := true, ref := false, refClose := false, faultAt := s.ns, faultBrake := !e.still }
    (s.doorEvent c.door 27 4 (cause + 16 * chCause c) 0x80000000 0 0).faultItem c

/-! ## Declared movements (R35) -/

/-- A movement is declared in a direction: DIR, reversal, and movement against command. DESIGN CHOICE: a movement declared against the
commanded travel is a reversal in the sense of R135, as Reverse is (log 53). -/
def State.declareMove (s : State) (c : Ch) (opening : Bool) : State :=
  let e := s.enc[c.1]
  let reversal := e.dirSet && e.dir != opening
  let against := match e.travel with
    | none => true
    | some d => d != opening && e.travelMade
  -- an index that was passed in the new direction already lies behind the turning point
  let inInterval := reversal && (e.idxAt.isNone || e.idxUp != opening)
  let s := s.modEnc c fun e => { e with
    idxReversed := e.idxReversed || inInterval, idxRun := if inInterval then e.turn else e.idxRun
    turn := e.count, moving := true, dir := opening, dirSet := true
    travelMade := e.travelMade || e.travel == some opening
    rev := e.rev || reversal, agc := e.agc || against }
  let s := if reversal then (s.bump (c.1 + 1) 4).doorEvent c.door 24 1 (chCause c) (s.enc[c.1].strokeWord) 0 0 else s
  let s := if against then s.doorEvent c.door 25 2 (chCause c) (s.enc[c.1].strokeWord) 0 0 else s
  if against && e.travel.isSome && !c.isStep then s.modObs c.door fun o => { o with spoilt := true } else s

/-- The count has changed: extend the declared movement, or declare a new one once the hysteresis is run (R35). -/
def State.trackDirection (s : State) (c : Ch) : State :=
  let e := s.enc[c.1]
  let d := countDiff e.count e.turn
  let h : Int := (s.encCfg c).hysteresis
  if e.moving && ((e.dir && 0 ≤ d) || (!e.dir && d ≤ 0)) then s.modEnc c fun e => { e with turn := e.count }
  else if h ≤ d then s.declareMove c true
  else if d ≤ -h then s.declareMove c false
  else s

/-! ## Index check (R33, R34) -/

/-- An index mismatch: IDXMIS, a Minor event; two in consecutive checked intervals, or one beyond 64 counts, are a fault. -/
def State.indexMismatch (s : State) (c : Ch) (n : Nat) : State :=
  let cpr := (s.encCfg c).countsPerRev
  let err := ((n : Int) - cpr).natAbs
  let twice := s.enc[c.1].idxMissed
  let s := s.modEnc c fun e => { e with idxMis := true, idxOk := false, idxMissed := true }
  let s := (s.bump (c.1 + 1) 2).doorEvent c.door 26 3 (chCause c) (BitVec.ofNat 32 n) (BitVec.ofNat 32 cpr) 0
  if twice || 64 < err then s.encoderFault c 5 else s

/-- Check the interval from the last index: skipped where the leaf has reversed in it, not checked where it is not a full
revolution. An interval already declared a missing index is one mismatch, and a fault where its error exceeds 64 counts (R33). -/
def State.checkInterval (s : State) (c : Ch) : State :=
  match s.enc[c.1].idxAt with
  | none => s
  | some p =>
    if s.enc[c.1].idxReversed || s.enc[c.1].idxUp != s.enc[c.1].edgeUp then s.bump (c.1 + 1) 3
    else if !s.enc[c.1].idxFresh then s
    else
      let n := (countDiff s.enc[c.1].count p).natAbs
      let err := ((n : Int) - (s.encCfg c).countsPerRev).natAbs
      if s.enc[c.1].idxLate then (if 64 < err then s.encoderFault c 5 else s)
      else if err ≤ (s.encCfg c).indexTolerance then
        s.modEnc c fun e => { e with idxOk := true, idxMissed := false }
      else s.indexMismatch c n

/-- An index is taken at the running count; it also gives the angle source of R100. -/
def State.takeIndex (s : State) (c : Ch) : State :=
  let s := if (s.encCfg c).indexCheck then s.checkInterval c else s
  let s := s.modEnc c fun e => { e with
    idxAt := some e.count, idxUp := e.edgeUp, idxFresh := !e.encFlt, idxReversed := false, idxRun := e.count, idxWait := false, idxLate := false }
  s.modSlot c fun x => { x with idxCount := some s.enc[c.1].count }

/-- A run of more than counts_per_rev + index_tolerance counts in one direction without an index is a mismatch (R33). DEDUCED: a run
that goes on without an index for as many counts again is a second missing index, and so a fault (log 15). -/
def State.checkMissing (s : State) (c : Ch) : State :=
  let n := (countDiff s.enc[c.1].count s.enc[c.1].idxRun).natAbs
  if (s.encCfg c).indexCheck && (s.encCfg c).countsPerRev + (s.encCfg c).indexTolerance < n then
    (s.modEnc c fun e => { e with idxRun := e.count, idxLate := true }).indexMismatch c n
  else s

/-! ## Compare engine (R42-R47) -/

/-- The action of an entry: flags, items for Miller, or a pin (Table 2-1). A step cue is one of its set: argument 1 in the opening set, 0
in the closing set (R189, R190). A silent application delivers no trace marker. -/
def State.cmpAction (s : State) (d : Door) (x : CmpEntry) (silent : Bool) : State :=
  match x.action with
  | 1 => s.modCmp d fun m => { m with window := true }
  | 2 => s.modCmp d fun m => { m with window := false }
  | 3 => s.modCmp d fun m => { m with decel := true, decelItem := true }
  | 4 => s.modCmp d fun m => { m with lzone := true, lzoneItem := true }
  | 5 => s.modCmp d fun m => { m with cueItems := if m.set = some (x.arg == 1) then m.cueItems ++ [x.arg == 1] else m.cueItems }
  | 6 => (s.modDout (d.out (if x.arg = 0 then 0 else 1)) fun o => { o with cmpCmd := true }).driveDo (d.out (if x.arg = 0 then 0 else 1))
  | 7 => (s.modDout (d.out (if x.arg = 0 then 0 else 1)) fun o => { o with cmpCmd := false }).driveDo (d.out (if x.arg = 0 then 0 else 1))
  | 8 => if silent then s else s.modCmp d fun m => { m with marker := some x.arg }
  | _ => s

/-- Entries 0-15 form the opening set, 16-31 the closing set. -/
def inSet (opening : Bool) (k : Fin 32) : Bool := if opening then k.1 < 16 else 16 ≤ k.1

/-- An entry of the armed set meets the new stroke: it fires from the approach side, or is re-armed (R44). DEDUCED: an entry that
arming applied silently is re-armed in the same way as a fired one (log 15). -/
def State.cmpEntryStep (d : Door) (old new : Int) (opening : Bool) (s : State) (k : Fin 32) : State :=
  let x := s.cfg.door[d.1].cmp[k.1]
  let back : Int := s.cfg.door[d.1].enc.rearm
  if !inSet opening k || x.action == 0 then s
  else if s.cmp[d.1].armed.getLsbD k.1 then
    (if new = x.pos && old = (if opening then x.pos - 1 else x.pos + 1) then
      let s := s.modCmp d fun m => { m with armed := m.armed &&& ~~~((1#32) <<< k.1) }
      let s := s.modEnc d.ch fun e => { e with lastCmp := BitVec.ofNat 5 k.1, cmpValid := true }
      (s.bump (d.1 + 1) 6).cmpAction d x false
    else s)
  else if (if opening then decide (new ≤ x.pos - back) else decide (x.pos + back ≤ new)) then
    s.modCmp d fun m => { m with armed := m.armed ||| ((1#32) <<< k.1) }
  else s

/-- A count of the door channel passes the armed set, in index order (R46), while the CMP engine runs (R382). -/
def State.cmpStep (s : State) (d : Door) (old new : Int) : State :=
  if !s.engineRuns d 6 then s
  else match s.cmp[d.1].set with
  | none => s
  | some opening => (List.finRange 32).foldl (State.cmpEntryStep d old new opening) s

/-- Insert an entry index by the order in which the travel passes the positions from its end stop. -/
def insertEntry (pos : Fin 32 → Int) (opening : Bool) (k : Fin 32) : List (Fin 32) → List (Fin 32)
  | [] => [k]
  | j :: r => if (if opening then pos k < pos j else pos j < pos k) then k :: j :: r else j :: insertEntry pos opening k r

/-- Arm a set (R45): flags cleared, CMPVALID cleared, entries ahead armed, entries at or behind the leaf applied silently. -/
def State.armCmp (s : State) (d : Door) (opening : Bool) : State :=
  let cmp := s.cfg.door[d.1].cmp
  let here := s.enc[d.ch.1].stroke
  let behind := fun (k : Fin 32) => if opening then decide (cmp[k.1].pos ≤ here) else decide (here ≤ cmp[k.1].pos)
  let used := (List.finRange 32).filter fun k => inSet opening k && cmp[k.1].action != 0
  let ahead := used.filter fun k => !behind k
  let passed := (used.filter behind).foldl (fun l k => insertEntry (fun k => cmp[k.1].pos) opening k l) []
  let s := s.modCmp d fun m => { m with
    set := some opening, window := false, decel := false, lzone := false, decelItem := false
    armed := ahead.foldl (fun b k => b ||| ((1#32) <<< k.1)) 0 }
  let s := s.modEnc d.ch fun e => { e with cmpValid := false }
  passed.foldl (fun s k => s.cmpAction d cmp[k.1] true) s

/-- No travel is commanded: neither set is armed, flags and outputs keep their last values (R45). -/
def State.disarmCmp (s : State) (d : Door) : State := s.modCmp d fun m => { m with set := none, armed := 0 }

/-! ## Counting (R25, R30, R31) -/

/-- Quadrature phase: A leads B in the rising count. -/
def phase (a b : Bool) : Nat := if a then (if b then 2 else 1) else (if b then 3 else 0)

/-- Change of phase from one sample to the next: 0 none, 1 and 3 one edge, 2 both lines (illegal). -/
def phaseStep (a b a' b' : Bool) : Nat := (phase a' b' + 4 - phase a b) % 4

/-- The edge-spacing check of a counted edge (R30). -/
def State.checkSpacing (s : State) (c : Ch) (prev : Option Nat) : State :=
  match prev with
  | none => s
  | some p =>
    if s.ns - p < (s.encCfg c).minEdgeNs then
      let recent := (s.ns :: s.enc[c.1].spacingAt).filter fun x => s.ns < x + ms 100
      let s := (s.modEnc c fun e => { e with spacing := true, spacingAt := recent, faultAt := s.ns }).bump (c.1 + 1) 0
      if (s.encCfg c).spacingLimit < recent.length then s.encoderFault c 1 else s
    else s

/-- A counted edge: the counter moves by one; then spacing, direction, index and compare follow. -/
def State.countEdge (s : State) (c : Ch) (a b up : Bool) : State :=
  let e := s.enc[c.1]
  let old := e.strokeNow
  let n := if up then e.count + 1 else e.count - 1
  let s := s.modEnc c fun e => { e with a := a, b := b, count := n, edgeAt := some s.ns, edgeUp := up }
  let s := ((s.checkSpacing c e.edgeAt).trackDirection c).checkMissing c
  let s := if (s.encCfg c).indexGate && s.enc[c.1].idxWait && a && b then s.takeIndex c else s
  if c.isStep then s else s.cmpStep c.door old (s.enc[c.1].strokeNow)

/-- The ENC engine of a channel runs (R382). -/
def State.encRuns (s : State) (c : Ch) : Bool := s.engineRuns c.door (if c.isStep then 1 else 0)

/-- ENCODER_EDGE (R25, R30, R31, R35, R44). A stopped engine decodes nothing (R382). -/
def execEncoderEdge (t : Nat) (c : Ch) (a b : Bool) (s : State) : Out :=
  let s := s.at t
  let e := s.enc[c.1]
  if !s.chFitted c || !s.encRuns c then .next s
  else match phaseStep e.a e.b a b with
    | 1 => .next (s.countEdge c a b (!(s.encCfg c).invert))
    | 3 => .next (s.countEdge c a b (s.encCfg c).invert)
    | 2 => .next ((((s.modEnc c fun e => { e with a := a, b := b, illegal := true }).bump (c.1 + 1) 1).encCondition c).encoderFault c 2)
    | _ => .next s

/-- INDEX_PULSE (R33): Z rises or falls. With index_gate at 1 the index waits for A, B and Z high together. -/
def execIndexPulse (t : Nat) (c : Ch) (z : Bool) (s : State) : Out :=
  let s := s.at t
  let e := s.enc[c.1]
  if !s.chFitted c || !s.encRuns c then .next s
  else
    let s := s.modEnc c fun e => { e with z := z, idxWait := z && !e.z && (s.encCfg c).indexGate && !(e.a && e.b) }
    if z && !e.z && (!(s.encCfg c).indexGate || (e.a && e.b)) then .next (s.takeIndex c) else .next s

/-- ENCODER_LINE_FAULT (R32): a level below 200 mV for more than 10 µs begins, or has ended. -/
def execEncoderLineFault (t : Nat) (c : Ch) (present : Bool) (s : State) : Out :=
  let s := (s.at t).encCondition c
  if !s.chFitted c then .next s
  else if present then .next ((s.modEnc c fun e => { e with line := true, lineBad := true }).encoderFault c 3)
  else .next (s.modEnc c fun e => { e with lineBad := false })

/-- ENCODER_SUPPLY_FAULT (R32): a supply below 4.5 V for more than 1 ms begins, or has ended. -/
def execEncoderSupplyFault (t : Nat) (c : Ch) (present : Bool) (s : State) : Out :=
  let s := (s.at t).encCondition c
  if !s.chFitted c then .next s
  else if present then .next ((s.modEnc c fun e => { e with supply := true, supplyBad := true }).encoderFault c 4)
  else .next (s.modEnc c fun e => { e with supplyBad := false })

/-- ENCODER_FAULT_CLEAR (R36): 1 s without a condition of R30 to R32; the reference is not restored. -/
def execEncoderFaultClear (t : Nat) (c : Ch) (s : State) : Out :=
  let s := s.at t
  let e := s.enc[c.1]
  if e.encFlt && !e.lineBad && !e.supplyBad && e.faultAt + ms 1000 ≤ s.ns then
    .next (s.modEnc c fun e => { e with
      encFlt := false, faultBrake := false, turn := e.count, moving := false
      idxAt := none, idxFresh := false, idxLate := false, idxRun := e.count, idxMissed := false })
  else .next s

/-! ## What a mill tick does to a channel (R26-R28, R35, R39) -/

/-- Latch and extend (R26, R27), keep the 20 ms of latches, and reset the turning point on coming to stand-still (R35). -/
def Enc.latch (e : Enc) : Enc :=
  let e := { e with
    latched := e.count, last := e.count
    ext := e.ext + (e.count - e.last).signExtend 48
    hist := (e.count :: e.hist).take 161 }
  let e := if e.still && !e.atRest then { e with turn := e.count, moving := false } else e
  { e with atRest := e.still, faultBrake := e.faultBrake && !e.still }

/-- Over-travel (R28): a referenced stroke beyond the ends by more than four closed windows. -/
def Enc.overTravel (e : Enc) (g : EncCfg) : Bool :=
  e.ref && (decide (e.stroke < -4 * (g.closedWindow : Int)) || decide ((g.openSc : Int) + 4 * g.closedWindow < e.stroke))

/-- One channel at the phase 0 latch. -/
def State.latchCh (s : State) (c : Ch) : State :=
  if !s.chFitted c then s
  else
    let s := s.modEnc c Enc.latch
    if s.enc[c.1].overTravel (s.encCfg c) then s.encoderFault c 6 else s

/-- The reference is taken: stroke becomes 0 (R39). -/
def State.takeReference (s : State) (c : Ch) : State :=
  s.modEnc c fun e => { e with reference := e.ext, ref := true, refClose := false }

/-- The stroke check at closed (or retracted) stand-still (R40, R41). -/
def State.standStillCheck (s : State) (c : Ch) : State :=
  let k := s.enc[c.1].stroke.natAbs
  if k ≤ (s.encCfg c).closedWindow then
    (s.modEnc c fun e => { e with reference := e.ext, maxCorrection := max e.maxCorrection k }).bump (c.1 + 1) 5
  else s.encoderFault c 7

end Sys2Proof.Machine
end

