-- ==== Sys2Proof/Machine/Governor.lean ====
section
/-!
DEFINITION. Sys2Proof/Machine/Governor.lean: the power Governor (R75-R80): reservations, the plan of a start, releases, and the
measured budget.

Power is counted in 1/256 W, so that a reservation at stretch factor s is exact.
-/
namespace Sys2Proof.Machine

/-! ## Reservations as functions of the tick -/

/-- Power of a reservation at a tick, 1/256 W. A stage changes, and a motion ends, before any grant at that tick (R76). -/
def Reservation.power (r : Reservation) (t : Int) : Nat :=
  if t < r.start || (r.stop : Int) ≤ t then 0 else if t < r.stageEnd then r.startW * r.s else r.runW * r.s

/-- Sum of reservations at a tick, over one supply or over all. -/
def resSum (l : List Reservation) (sup : Option (Fin 2)) (t : Int) : Nat :=
  ((l.filter fun r => match sup with | some x => r.supply == x | none => true).map fun r => r.power t).sum

/-- Insert into an ascending list without repeats. -/
def insertInt (x : Int) : List Int → List Int
  | [] => [x]
  | y :: r => if x < y then x :: y :: r else if x = y then y :: r else y :: insertInt x r

/-- Ticks at which a reservation starts, changes stage or ends, ascending. -/
def breakpoints (l : List Reservation) : List Int :=
  l.foldl (fun acc r => insertInt r.start (insertInt r.stageEnd (insertInt r.stop acc))) []

/-- Ticks at which a reservation changes stage or ends, ascending (R77). -/
def stageChanges (l : List Reservation) : List Int := l.foldl (fun acc r => insertInt r.stageEnd (insertInt r.stop acc)) []

/-- Ticks of the reservations' changes inside a window, with both its ends. -/
def windowPoints (l : List Reservation) (lo hi : Int) : List Int :=
  insertInt lo (insertInt hi ((breakpoints l).filter fun t => lo < t && t < hi))

/-- Sum over the pieces of a window of length times a value of the piece's power. -/
def overPieces (l : List Reservation) (sup : Fin 2) (f : Nat → Nat) : List Int → Nat
  | a :: b :: r => (b - a).toNat * f (resSum l (some sup) a) + overPieces l sup f (b :: r)
  | _ => 0

/-- 10 s in mill ticks. -/
def tenS : Nat := 80000

/-- One 10 s window of a supply keeps the third condition of R75. `cont` is supply_cont_ma times the link voltage in
0.1 V, so that power × 10,000 compares with cont × 256. -/
def windowOk (l : List Reservation) (sup : Fin 2) (cont : Nat) (lo : Int) : Bool :=
  let pts := windowPoints l lo (lo + tenS)
  decide (overPieces l sup (fun p => if cont * 256 < p * 10000 then 1 else 0) pts ≤ 4000) &&
  decide (overPieces l sup (fun p => p * 10000) pts ≤ tenS * cont * 256)

/-- Every 10 s window that overlaps a motion: the worst windows start or end at a change, or are the first and the last. -/
def windowsOk (l : List Reservation) (x : Reservation) (cont : Nat) : Bool :=
  let b := breakpoints l
  let starts : List Int := [(x.start : Int) - (tenS : Int) + 1, (x.stop : Int) - 1] ++ b ++ b.map (fun t => t - (tenS : Int))
  starts.all fun lo => !(decide (lo < x.stop) && decide ((x.start : Int) < lo + tenS)) || windowOk l x.supply cont lo

/-! ## Planned length of a motion (R75, R95) -/

/-- Profile time over counts in one segment, ns rounded up: `len` in 1/64 sc, speed in 0.1 mm/s, q as a fraction. -/
def segmentNs (len nm v s qn qd : Nat) : Nat :=
  if v * s * qn = 0 then 0 else (len * nm * 10000 * 256 * qd + 64 * v * s * qn - 1) / (64 * v * s * qn)

/-- Time of a motion from `a` to `b` (sc, a ≤ b) over the 64 segments of the profile, ns. -/
def profileNs (prof : Vector Nat 64) (openSc nm a b s qn qd : Nat) : Nat :=
  ((List.finRange 64).map fun k =>
    let lo := max (64 * a) (k.1 * (openSc + 1))
    let hi := min (64 * b) (if k.1 = 63 then 64 * b else (k.1 + 1) * (openSc + 1))
    segmentNs (hi - lo) nm prof[k.1] s qn qd).sum

/-- Planned length in ticks, at least one. With `last` the whole stroke is planned at the last segment (R38). -/
def planTicks (prof : Vector Nat 64) (openSc nm a b s qn qd : Nat) (last : Bool) : Nat :=
  let ns := if last then segmentNs (64 * (b - a)) nm prof[63] s qn qd else profileNs prof openSc nm a b s qn qd
  max 1 ((ns + 124999) / 125000)

/-! ## What a channel reserves -/

/-- start_w, start ticks and run_w of a channel (Tables 3-2, 3-3). -/
def State.govCfg (s : State) (c : Ch) : Nat × Nat × Nat :=
  if c.isStep then
    let g := s.cfg.step[c.door.1].drive
    (g.startW, msTicks g.startMs, g.runW)
  else
    let g := s.cfg.door[c.door.1].drive
    (g.startW, msTicks g.startMs, g.runW)

/-- Profile of a channel in a direction (opening or extending). -/
def State.profile (s : State) (c : Ch) (opening : Bool) : Vector Nat 64 :=
  if c.isStep then (if opening then s.cfg.step[c.door.1].profExtend else s.cfg.step[c.door.1].profRetract)
  else (if opening then s.cfg.door[c.door.1].profOpen else s.cfg.door[c.door.1].profClose)

/-- Planned ticks of a travel from the present stroke to its planned end, an end stop where none is given; an unreferenced channel
plans the whole stroke. -/
def State.motionTicks (s : State) (c : Ch) (opening : Bool) (f : Nat) (stop : Option Nat := none) : Nat :=
  let g := s.encCfg c
  let unref := !s.enc[c.1].ref
  let here := (clampInt 0 g.openSc s.enc[c.1].stroke).toNat
  let slow := !opening && !c.isStep && s.slowClose c.door
  let q : Nat × Nat := if unref then (3, 10) else if slow then (1, 2) else (1, 1)
  let a := if unref then 0 else if opening then here else 0
  let b := if unref then g.openSc else if opening then max here (stop.getD g.openSc) else here
  planTicks (s.profile c opening) g.openSc g.scaleNm a b f q.1 q.2 unref

/-- The reservation of a start at a tick with a stretch factor. -/
def State.reservation (s : State) (c : Ch) (opening : Bool) (t f : Nat) (target : Option Nat := none) : Reservation :=
  let g := s.govCfg c
  let stop := t + s.motionTicks c opening f target
  { ch := c, supply := supplyOf c.door, startW := g.1, runW := g.2.2, s := f, start := t,
    stageEnd := min (t + g.2.1) stop, stop }

/-- Link voltage of a channel's supply at acceptance: the doorway's last completed conversion, 0.1 V. -/
def State.linkDv (s : State) (c : Ch) : Nat := s.drv[c.door.1].dv

/-! ## Planning (R76, R77, R80) -/

/-- Latest start tick of a door grant that still stands on a side (R76). -/
def State.sideAnchor (s : State) (side : Bool) : Option Nat :=
  s.gov.res.foldl (fun acc r =>
    if r.granted && !r.ch.isStep && s.side r.ch.door == side then
      (match acc with | some x => some (max x r.start) | none => some r.start)
    else acc) none

/-- Earliest tick of a start: the next one, or a stagger after the last door start of the side. -/
def State.staggerTick (s : State) (c : Ch) : Nat :=
  let next := s.tick + 1
  if c.isStep then next
  else match s.sideAnchor (s.side c.door) with
    | some x => max next (x + msTicks s.cfg.pers.staggerMs)
    | none => next

/-- Earliest tick at which the hold of R80 can end: 100 ms after the latest tick over budget. -/
def State.holdEnd (s : State) : Option Nat := if s.gov.hold then s.gov.lastOver.map (· + 800) else none

/-- Headroom at a tick for a channel, 1/256 W: the smaller of module and supply headroom; zero under the hold. -/
def State.available (s : State) (c : Ch) (t : Nat) : Nat :=
  let held := match s.holdEnd with | some e => decide (t < e) | none => s.gov.hold
  if held then 0
  else min (s.cfg.pers.budgetW * 256 - resSum s.gov.res none t)
           (s.cfg.pers.supplyMa * s.linkDv c * 256 / 10000 - resSum s.gov.res (some (supplyOf c.door)) t)

/-- Stretch factor that fits at a tick: 256 × available ÷ reservation, rounded down, at most 256. -/
def State.fitStretch (s : State) (c : Ch) (t : Nat) : Nat :=
  if (s.govCfg c).1 = 0 then 256 else min 256 (s.available c t / (s.govCfg c).1)

/-- The first two conditions of R75 at every tick of a motion: at its start and at every later change. -/
def State.ticksOk (s : State) (x : Reservation) : Bool :=
  let l := x :: s.gov.res
  (windowPoints l x.start x.stop).all fun t => decide ((x.stop : Int) ≤ t) ||
    (decide (resSum l none t ≤ s.cfg.pers.budgetW * 256) &&
     decide (resSum l (some x.supply) t * 10000 ≤ s.cfg.pers.supplyMa * s.linkDv x.ch * 256))

/-- A start can be granted at a tick (R75, R77). -/
def State.grantAt (s : State) (c : Ch) (opening : Bool) (t : Nat) : Option Reservation :=
  let f := s.fitStretch c t
  let x := s.reservation c opening t f
  if s.cfg.pers.minStretch ≤ f && s.ticksOk x && windowsOk (x :: s.gov.res) x (s.cfg.pers.supplyContMa * s.linkDv c) then some x
  else none

/-- Try the stagger tick, then each later change of a reservation or end of the hold, up to max_delay_ms (R77). -/
def State.grantFrom (s : State) (c : Ch) (opening : Bool) : List Nat → Option Reservation
  | [] => none
  | t :: r =>
    if s.ns + ms s.cfg.pers.maxDelayMs < t * 125000 then none
    else match s.grantAt c opening t with
      | some x => some x
      | none => s.grantFrom c opening r

/-- Candidate ticks of a start, ascending. -/
def State.candidates (s : State) (c : Ch) : List Nat :=
  let first := s.staggerTick c
  let marks := stageChanges s.gov.res
  let marks := match s.holdEnd with | some e => insertInt e marks | none => marks
  first :: ((marks.filter fun t => (first : Int) < t).map Int.toNat)

/-- End the reservation of a channel's motion at once (R79): a start not yet reached leaves no trace, a motion that has begun
keeps its past for the windows of R75. -/
def Reservation.close (now : Nat) (c : Ch) (r : Reservation) : Option Reservation :=
  if r.ch ≠ c || r.ended then some r
  else if now < r.start then none
  else
    let stop := min r.stop now
    some { r with stop := stop, stageEnd := min r.stageEnd stop, ended := true }

/-- End the reservation of a channel's motion in the Governor. -/
def State.releaseGov (s : State) (c : Ch) : State :=
  { s with gov := { s.gov with res := s.gov.res.filterMap (Reservation.close s.tick c) } }

/-- Plan a motion of a channel (R77). A granted start sets GOVDLY of a door and counts a stretched and a delayed start; STRETCH follows
once the motion begins (R84). A refusal is none (code 0x04). -/
def State.plan (s : State) (c : Ch) (opening : Bool) : Option (State × Reservation) :=
  let s := s.releaseGov c
  match s.grantFrom c opening (s.candidates c) with
  | none => none
  | some x =>
    let late := decide (s.staggerTick c < x.start)
    let s := { s with gov := { s.gov with res := s.gov.res ++ [x] } }
    let s := if c.isStep then s else s.modDrv c.door fun d => { d with govDly := late }
    some ((s.bumpIf (x.s < 256) (0x21 + c.door.1) 14).bumpIf late (0x21 + c.door.1) 15, x)

/-- A REVERSING motion starts at once, keeps the stretch factor of the motion it interrupts, and takes a new start-stage
reservation to its planned end, the reopen target, even above the budget (R75, R79). -/
def State.reserveReverse (s : State) (d : Door) (target : Nat) : State :=
  let f := s.slot[d.ch.1].stretch
  let s := s.releaseGov d.ch
  { s with gov := { s.gov with res := s.gov.res ++ [{ s.reservation d.ch true s.tick f (some target) with granted := false }] } }

/-- A REVERSING motion that goes on to full open keeps its reservation to that end (R75, R163). -/
def State.extendReverse (s : State) (d : Door) : State :=
  let stop := s.tick + s.motionTicks d.ch true s.slot[d.ch.1].stretch
  { s with gov := { s.gov with res := s.gov.res.map fun r => if r.ch = d.ch ∧ ¬ r.ended then { r with stop := max r.stop stop } else r } }

/-- The reservation of a motion that runs without a plan of this module: a streamed one at a takeover, which ends with what is left of
its travel (R15, R312). -/
def State.reserveRunning (s : State) (c : Ch) (opening : Bool) (start f : Nat) : State :=
  let s := s.releaseGov c
  let stop := max s.tick start + s.motionTicks c opening f
  let r := { s.reservation c opening start f with stop := stop, stageEnd := min (start + (s.govCfg c).2.1) stop }
  { s with gov := { s.gov with res := s.gov.res ++ [r] } }

/-- Delay from acceptance to the start tick, ms rounded down (Table 9-7). -/
def State.delayMs (s : State) (x : Reservation) : Nat := (x.start * 125000 - s.ns) / 1000000

/-- GOVERNOR_RESERVATION_STAGE (R75, R79): stages are functions of the tick; reservations that no 10 s window can reach are
dropped. -/
def execGovernorReservationStage (t : Nat) (s : State) : Out :=
  let s := s.at t
  .next { s with gov := { s.gov with res := s.gov.res.filter fun r => decide (s.tick < r.stop + tenS) } }

/-- GOVERNOR_BUDGET_OVERRUN (R80): the 8 ms mean demand has been above the budget for more than 100 ms. -/
def execGovernorBudgetOverrun (t w : Nat) (s : State) : Out :=
  let s := s.at t
  if w ≤ s.cfg.pers.budgetW || !s.millerRuns then .next s
  else
    let s := { s with gov := { s.gov with demandW := w, hold := true, lastOver := some s.tick } }
    .next ((s.bump 0x80 2).event 0x304 3 0 (BitVec.ofNat 32 w) 0 0)

/-- GOVERNOR_HOLD_END (R80): the demand has been within budget for 100 ms. -/
def execGovernorHoldEnd (t : Nat) (s : State) : Out :=
  let s := s.at t
  match s.holdEnd with
  | some e => if e ≤ s.tick && !s.maint.failed then .next { s with gov := { s.gov with hold := false } } else .next s
  | none => .next s

/-- Measured demand of a period (R80): the 8 ms mean, and the latest tick over the budget. -/
def State.measureDemand (s : State) (w : Nat) : State :=
  { s with gov := { s.gov with demandW := w, lastOver := if s.cfg.pers.budgetW < w then some s.tick else s.gov.lastOver } }

end Sys2Proof.Machine
end

