-- ==== Sys2Proof/Machine/Operands.lean ====
section
/-!
DEFINITION. Sys2Proof/Machine/Operands.lean: the forms in which values come in and go out: the safety inputs as a channel reads
them, and byte fields in both orders (R5): little-endian on the plug and over Tally, big-endian on the buses.
-/
namespace Sys2Proof.Machine

/-! ## Safety inputs of a doorway in a channel (R200, R203)

Input order: lock NO, lock NC, closed A, closed B, edge A, edge B, emergency handle, isolation key, step retracted, step
extended. -/

/-- Bit place of an input's code in the source tag word (Table 7-8). -/
def tagShift (k : Fin 10) : Nat := if k.1 < 7 then 2 * k.1 else if k.1 = 7 then 18 else if k.1 = 8 then 14 else 16

/-- Source that an input is tagged with. -/
def State.tagOf (s : State) (d : Door) (k : Fin 10) : Src := srcOf ((s.cfg.bedstone.tags[d.1] >>> tagShift k).toNat % 4)

/-- Filter limit of a safety input: the edge limit on the edges, else safety.filter_limit (R200). -/
def State.safeLimit (s : State) (d : Door) (k : Fin 10) : Nat :=
  if k = 4 ∨ k = 5 then s.cfg.bedstone.edgeFilter[d.1] else s.cfg.bedstone.filterLimit

/-- The input reads closed in the channel. -/
def State.reads (s : State) (ch : SafetyCh) (d : Door) (k : Fin 10) : Bool :=
  ((s.chan ch).inp[d.1])[k.1].reads (s.safeLimit d k) (s.chan ch).srcFault[(s.tagOf d k).1]

/-- Both closed switches read closed in the channel. -/
def State.closedIn (s : State) (ch : SafetyCh) (d : Door) : Bool := s.reads ch d 2 && s.reads ch d 3
/-- The lock pair reads locked in the channel: NO closed, NC open. -/
def State.lockedIn (s : State) (ch : SafetyCh) (d : Door) : Bool := s.reads ch d 0 && !s.reads ch d 1
/-- The edge is actuated in the channel: either contact reads open (R129). -/
def State.edgeIn (s : State) (ch : SafetyCh) (d : Door) : Bool := !s.reads ch d 4 || !s.reads ch d 5

/-- Stroke window of Table 7-2: met only while the door channel is referenced and not in encoder fault. -/
def State.strokeWindow (s : State) (d : Door) : Bool :=
  s.enc[d.ch.1].ref && !s.enc[d.ch.1].encFlt && decide (s.enc[d.ch.1].stroke.natAbs ≤ s.cfg.door[d.1].enc.closedWindow)

/-! ## Byte fields -/

/-- Value of bytes, least significant first. -/
def ofLe : List Byte → Nat
  | [] => 0
  | b :: r => b.toNat + 256 * ofLe r
/-- Value of bytes, most significant first. -/
def ofBe (l : List Byte) : Nat := l.foldl (fun n b => n * 256 + b.toNat) 0

/-- `n` bytes of a value, most significant first. -/
def toBe (n v : Nat) : List Byte := (toLe n v).reverse

/-- A signed value in `n` bytes, two's complement. -/
def toLeInt (n : Nat) (i : Int) : List Byte := toLe n (i % ((256 ^ n : Nat) : Int)).toNat
/-- The signed value of a field of `w` bits. -/
def signed (w n : Nat) : Int := (BitVec.ofNat w n).toInt

/-- Bytes from an offset. -/
def slice (l : List Byte) (off n : Nat) : List Byte := (l.drop off).take n
/-- Little-endian and big-endian fields at an offset. -/
def leAt (l : List Byte) (off n : Nat) : Nat := ofLe (slice l off n)
def beAt (l : List Byte) (off n : Nat) : Nat := ofBe (slice l off n)

/-- Bytes of a record's header (Table 6-9, 0x00-0x19). -/
def Record.header (r : Record) (format : Nat) : List Byte :=
  toLe 6 r.seq.toNat ++ toLe 2 r.event ++ toLe 8 r.mill ++ toLe 4 (r.calUs / 1000000) ++
  toLe 4 (r.calUs % 1000000 + r.tq * 2 ^ 20 + r.severity * 2 ^ 24) ++ toLe 1 r.doorway ++ toLe 1 format

/-- Force in 0.1 N as a saturating signed 16-bit field. -/
def force16 (r : Rat) : List Byte := toLe 2 (satSigned 16 (tenthN r))

/-- Bytes 0x1A-0x3D of a cycle record (Table 6-9). -/
def CycleRec.bytes (c : CycleRec) : List Byte :=
  let f := fun (n : Nat) (v : Nat) => toLe n (min v (256 ^ n - 1))
  let pk := fun (p : Option Rat) => force16 (p.getD 0)
  let mean := fun (n : Nat) (x : Rat) => force16 (if n = 0 then 0 else x / n)
  toLe 4 c.seq.toNat ++ toLe 1 (c.openSrc + 16 * c.closeSrc) ++ toLe 1 c.outcome ++ f 2 c.openMs ++ f 2 c.closeMs ++
  pk c.peakClose ++ mean c.nClose c.sumClose ++ pk c.peakOpen ++ mean c.nOpen c.sumOpen ++
  toLe 1 (min c.revObs 15 + 16 * min c.revEdge 15) ++ toLe 1 (c.prfR + 4 * c.prfB + 16 * c.prfS) ++ f 1 c.excursion ++
  f 1 c.attempts ++ f 2 c.stepExtMs ++ f 2 c.stepRetMs ++ toLe 1 c.stretchOpen ++ toLe 1 c.stretchClose ++
  f 1 c.delayOpen ++ f 1 c.delayClose ++ toLe 1 (satSigned 8 c.biasClose) ++ toLe 1 (satSigned 8 c.biasOpen) ++
  toLe 1 (satSigned 8 c.temp) ++
  toLe 1 (c.slowc.toNat + 2 * c.refcls.toNat + 4 * c.takeover.toNat + 8 * c.loopok.toNat + 16 * c.stepflt.toNat +
    32 * c.superseded.toNat) ++ f 2 (c.dwellMs / 100)

/-- One trace entry (Table 11-4). -/
def TraceEntry.bytes (e : TraceEntry) : List Byte :=
  toLe 4 (e.stroke.toNat + e.mode.toNat * 2 ^ 24 + e.state.toNat * 2 ^ 28) ++ toLe 2 (satSigned 16 e.fHat) ++
  toLe 2 (satSigned 16 e.iqM)

/-- A 64-byte block with its CRC-16 at 0x3E. -/
def withCrc16 (l : List Byte) : List Byte := l ++ toLe 2 (crc16 l).toNat

/-- The bytes that a record's write puts into the store (R330, Tables 6-9, 11-2, 11-4). -/
def Record.stored (r : Record) : List Byte :=
  match r.body with
  | .cycle c => withCrc16 (r.header 1 ++ c.bytes)
  | .event sup st cause a b c detail =>
    withCrc16 (r.header 2 ++ toLe 2 (min sup 65535) ++ toLe 1 st ++ toLe 1 cause ++ toLe 4 a.toNat ++ toLe 4 b.toNat ++
      toLe 4 c.toNat ++ toLe 4 detail.toNat ++ List.replicate 16 0)
  | .trace t =>
    let head := withCrc16 (r.header 3 ++ toLe 4 t.cycleSeq.toNat ++ toLe 1 t.trigger ++ toLe 1 t.interval ++
      toLe 2 t.entries.length ++ toLe 2 t.trigEntry ++ toLe 4 t.tick0.toNat ++ toLe 4 t.scaleNm ++ toLe 2 t.thrClose ++
      toLe 2 t.thrOpen ++ toLe 1 (satSigned 8 t.bClose) ++ toLe 1 (satSigned 8 t.bOpen) ++ toLe 1 t.stretch ++
      List.replicate 11 0)
    let body := head ++ t.entries.flatMap TraceEntry.bytes ++ List.replicate (8 * (1015 - t.entries.length)) 0
    body ++ toLe 4 (crc32c body).toNat ++ List.replicate 4 0

end Sys2Proof.Machine
end

