-- ==== Sys2Proof/Machine/DoorOps.lean ====
section
/-!
DEFINITION. Sys2Proof/Machine/DoorOps.lean: what every transition of a doorway uses: angle sources, the LOCK engine, cycle records
and trace triggers, entry to a state, and FAULT_HELD.
-/
namespace Sys2Proof.Machine

/-! ## Electrical angle sources (R100) -/

/-- The doorway is in a Tentering run that has run Align: its angle is the working angle of the run (R142 step 2). -/
def State.workingAngle (s : State) (d : Door) : Bool :=
  match s.maint.tenter with
  | some x => x.door == d && (match x.step with | .unlock | .align => false | _ => true)
  | none => false

/-- ANGSRC of Table 4-8: 3 index and 2 stroke need a valid calibration, 1 Align, 0 none. -/
def State.angSource (s : State) (d : Door) : Nat :=
  let x := s.slot[d.ch.1]
  if s.workingAngle d && x.alignCount.isSome then 1
  else if !s.obs[d.1].noCal && x.idxCount.isSome then 3
  else if !s.obs[d.1].noCal && s.enc[d.ch.1].ref then 2
  else if x.alignCount.isSome then 1 else 0

/-- The doorway has an electrical angle. -/
def State.hasAngle (s : State) (d : Door) : Bool := s.angSource d != 0

/-! ## LOCK engine (R156) -/

/-- The solenoid goes off. -/
def State.solOff (s : State) (d : Door) : State :=
  (s.modCyc d fun y => { y with sol := .off }).commandLs (s.lockLs d) false 0

/-- A pull: 100 % for pull_ms, restarted when the solenoid is already held; it takes effect within 1 ms, so not at the next
period start only. In a trip state the solenoid stays off (R73), and without its LOCK engine it is not driven (R382). -/
def State.pull (s : State) (d : Door) : State :=
  if s.tripped d || !s.engineRuns d 4 then s.solOff d
  else
  ((s.modCyc d fun y => { y with sol := .pull s.ns }).commandLs (s.lockLs d) true 1000).modLs (s.lockLs d) fun x =>
    { x.settle s.ns with active := if x.on && s.outputsLive then 1000 else x.active }

/-- The pull is over: hold at hold_pct; off in a trip state. -/
def State.holdSol (s : State) (d : Door) : State :=
  if s.tripped d || !s.engineRuns d 4 then s.solOff d
  else
  (s.modCyc d fun y => { y with sol := .hold }).commandLs (s.lockLs d) true (10 * s.cfg.door[d.1].cyc.holdPct)

/-! ## Traces (R340) -/

/-- Bias in 0.5 N as a record carries it. -/
def State.biases (s : State) (d : Door) : Int × Int := (halfN s.obs[d.1].bClose, halfN s.obs[d.1].bOpen)

/-- Number of the doorway's running cycle: one more than its completed cycles (Table 13-4). -/
def State.cycleNo (s : State) (d : Door) : BitVec 32 :=
  BitVec.ofNat 32 (((List.range 7).map fun k => (s.counter (0x61 + d.1) k).value.toNat).sum + 1)

/-- Tick of the next trace entry: entries fall on multiples of the interval. -/
def State.nextTrace (s : State) : Nat := (s.tick / s.cfg.recorder.traceInterval + 1) * s.cfg.recorder.traceInterval

/-- A doorway's trace entry of the moment (Table 11-4): what its slot leaves as it retires (R340). -/
def State.traceEntry (s : State) (d : Door) : TraceEntry :=
  let e := s.enc[d.ch.1]
  { stroke := if e.ref then BitVec.ofInt 24 e.stroke else 0x800000
    mode := BitVec.ofNat 4 s.slot[d.ch.1].mode.code, state := BitVec.ofNat 4 s.cyc[d.1].state.code
    fHat := tenthN s.obs[d.1].fHat, iqM := toField s.slot[d.ch.1].iqM }

/-- A trigger of R340 in a cycle: the first enabled one starts the trace, keeping the 768 entries before it; a later one in the
same cycle is counted. -/
def State.traceTrigger (s : State) (d : Door) (b : Fin 7) (code severity : Nat) : State :=
  match s.cyc[d.1].rec? with
  | none => s
  | some c =>
    if !s.cfg.recorder.triggers.getLsbD b.1 then s
    else if c.traced then
      { s with book := { s.book with rings := s.book.rings.set d.1 { s.book.rings[d.1] with count := s.book.rings[d.1].count + 1 } } }
    else
      let ring := s.book.rings[d.1]
      let kept := ring.entries.drop (ring.entries.length - 768)
      let tr : Trace := {
        cycleSeq := s.cycleNo d, trigger := b.1, interval := s.cfg.recorder.traceInterval, trigEntry := kept.length
        tick0 := BitVec.ofNat 32 (s.nextTrace - kept.length * s.cfg.recorder.traceInterval)
        scaleNm := s.cfg.door[d.1].enc.scaleNm, thrClose := s.cfg.door[d.1].obs.closeThreshold
        thrOpen := s.cfg.door[d.1].obs.openThreshold, bClose := (s.biases d).1, bOpen := (s.biases d).2
        stretch := stretch8 s.slot[d.ch.1].stretch, entries := kept }
      let r := s.record code severity (d.1 + 1) (.trace tr)
      let s := { s with book := { s.book with rings := s.book.rings.set d.1 { ring with pending := ring.pending ++ [(r, 247)] } } }
      s.modCyc d fun y => { y with rec? := y.rec?.map fun c => { c with traced := true } }

/-- An event of a doorway that is also a trace trigger. -/
def State.tracedEvent (s : State) (d : Door) (bitNo : Fin 7) (index severity cause : Nat) (a b c : BitVec 32) : State :=
  (s.doorEvent d index severity cause a b c).traceTrigger d bitNo (d.1 * 48 + index) severity

/-! ## The cycle record (R194, R195) -/

/-- Change the record of the cycle in progress. -/
def State.modRec (s : State) (d : Door) (f : CycleRec → CycleRec) : State := s.modCyc d fun y => { y with rec? := y.rec?.map f }

/-- Severity of an outcome (R195). -/
def outcomeSeverity (o : Nat) : Nat := if o = 0 then 1 else if o = 1 ∨ o = 4 then 2 else if o = 3 then 4 else 3

/-- The values a record takes at the end of its cycle. -/
def State.sealRec (s : State) (d : Door) (outcome : Nat) (c : CycleRec) : CycleRec :=
  let y := s.cyc[d.1]
  { c with seq := s.cycleNo d, outcome, prfR := y.prfR, prfB := y.prfB, prfS := y.prfS, excursion := y.excursion,
           attempts := y.attempts, biasClose := (s.biases d).1, biasOpen := (s.biases d).2, temp := s.obs[d.1].temp
           dwellMs := c.dwellMs + (if y.state = .open ∨ y.state = .reopenHold then (s.ns - y.since) / 1000000 else 0) }

/-- Write a cycle record: never limited by rate (R194). -/
def State.writeCycle (s : State) (d : Door) (c : CycleRec) : State :=
  let sev := outcomeSeverity c.outcome
  (s.offer (s.record (d.1 * 48) sev (d.1 + 1) (.cycle c))).bump (0x61 + d.1) c.outcome

/-- The cycle in progress ends with an outcome and its record is written at once (R177, R194). -/
def State.endCycle (s : State) (d : Door) (outcome : Nat) : State :=
  match s.cyc[d.1].rec? with
  | none => s
  | some _ =>
    let s := if outcome = 0 ∨ outcome = 1 then s else s.traceTrigger d 5 (d.1 * 48) (outcomeSeverity outcome)
    match s.cyc[d.1].rec? with
    | none => s
    | some c => (s.writeCycle d (s.sealRec d outcome c)).modCyc d fun y => { y with rec? := none }

/-- The record of a cycle that reached CLOSED_LOCKED is written, with the loop closure confirmed or not (R194). -/
def State.writeEnding (s : State) (d : Door) (loopok : Bool) : State :=
  match s.cyc[d.1].ending with
  | none => s
  | some c => (s.writeCycle d { c with loopok }).modCyc d fun y => { y with ending := none, recordDl := none }

/-- A cycle begins; a record still waiting for its loop confirmation is written first. Its lock results start anew. DEDUCED: a
referencing close accepted while the cycle of an earlier one that reversed has not ended goes on with that cycle (log 24). -/
def State.beginCycle (s : State) (d : Door) (refcls : Bool) : State :=
  (s.writeEnding d false).modCyc d fun y => { y with
    attempts := 0, prfR := 0, prfB := if y.proven then y.prfB else 0, prfS := 0, excursion := 0
    rec? := match y.rec? with
      | some c => some { c with refcls := c.refcls || refcls }
      | none => some { refcls, unlockAt := s.ns } }

/-! ## States -/

/-- States in which a leaf moves by a door motion. -/
def DoorState.moving : DoorState → Bool
  | .opening | .closing | .reversing | .locking => true
  | _ => false

/-- PROVEN survives the change of state (R173). -/
def keepsProven (old new : DoorState) : Bool :=
  match new with
  | .closedLocked | .released | .service => true
  | .proving => old == .service || old == .proving
  | _ => false

/-- States in which an encoder fault that still brakes the leaf no longer leads to UNREFERENCED at rest (R36). -/
def DoorState.endsFaultRest : DoorState → Bool
  | .unreferenced | .faultHeld | .isolated | .closedLocked | .released => true
  | _ => false

/-- States that keep the lock solenoid held (Table 6-1). -/
def DoorState.holdsSolenoid : DoorState → Bool
  | .opening | .open | .closing | .reversing | .reopenHold => true
  | _ => false

/-- CLOSED_LOCKED, RELEASED and SERVICE keep the back-drive result with PROVEN (R173). -/
def DoorState.locked : DoorState → Bool
  | .closedLocked | .released => true
  | _ => false

/-- Entry to a state: its clock and timers start anew, PROVEN and the close command end where R173 and R160 say. -/
def State.goto (s : State) (d : Door) (st : DoorState) : State :=
  let y := s.cyc[d.1]
  let s := if y.state = .open ∨ y.state = .reopenHold then
      s.modRec d fun c => { c with dwellMs := c.dwellMs + (s.ns - y.since) / 1000000 } else s
  s.modCyc d fun y => { y with
    state := st, since := s.ns, partly := false, openWanted := false
    proven := y.proven && keepsProven y.state st
    prfB := if y.state.locked && !st.locked && st != .service then 0 else y.prfB
    fcause := if st = .faultHeld then y.fcause else 0
    closeCmd := y.closeCmd && !(st == .closedLocked || st == .closedUnlocked || st == .faultHeld || st == .isolated)
    startTick := none, unlockDl := none, openDl := none, closeDl := none, holdDl := none, switchDl := none
    settleDl := none, backDl := none, unlocked := false, aligning := false, lockPhase := .closing, refClosing := false
    refReopen := none, backing := false, backBad := false, waitToken := false, awaitStep := false, svc := .idle, backTest := none
    encRest := y.encRest && !st.endsFaultRest, isoBrake := false, coldBrake := false, planWant := false, restFirst := false }

/-- REFCLOSE and the scale of a referencing close end. -/
def State.endRefClose (s : State) (d : Door) : State := s.modEnc d.ch fun e => { e with refClose := false }

/-- Hold a leaf with a bias force in N. -/
def State.holdAt (s : State) (d : Door) (n : Int) : State := s.request d.ch .hold n
/-- The closing preload. -/
def State.preload (s : State) (d : Door) : State := s.holdAt d (-(s.cfg.door[d.1].cyc.preloadN : Int))

/-- UNREFERENCED: mode Stopped, solenoid off, the motion over (R154). -/
def State.toUnreferenced (s : State) (d : Door) : State :=
  ((((s.goto d .unreferenced).solOff d).request d.ch .stopped 0).releaseGov d.ch).endRefClose d

/-- The step channel stops with its doorway (R193): its request is Stopped and its reservation ends. -/
def State.stopStep (s : State) (d : Door) : State :=
  if s.stepFitted d then
    ((s.modCyc d fun y => { y with stepStart := none, stepHold := none }).request d.step .stopped 0).releaseGov d.step
  else s

/-- FAULT_HELD for a cause of Table 6-6 (R177, R181): from any state but ISOLATED and FAULT_HELD. -/
def State.faultHeld (s : State) (d : Door) (cause : Nat) : State :=
  let st := s.cyc[d.1].state
  if !s.fitted d || st = .isolated || st = .faultHeld then s
  else
    let s := (s.endCycle d 3).goto d .faultHeld
    let s := s.modCyc d fun y => { y with fcause := cause, proven := false }
    let s := (((s.solOff d).request d.ch .stopped 0).releaseGov d.ch).endRefClose d
    ((s.stopStep d).settlePairs d).endCaptureOn d

/-- OPEN, at full open or partly (R166, R168); its first entry in a cycle ends open_ms (R195). A motion that ends releases its
reservation. -/
def State.toOpen (s : State) (d : Door) (part : Bool) : State :=
  let s := (s.goto d .open).modCyc d fun y => { y with partly := part }
  let s := if s.cyc[d.1].sol == .off then s.holdSol d else s
  let s := s.modRec d fun c => if c.openMs = 0 && !c.refcls then { c with openMs := (s.ns - c.unlockAt) / 1000000 } else c
  (s.holdAt d (if part then 0 else s.cfg.door[d.1].cyc.openHoldN)).releaseGov d.ch

/-- The leaf is at open end by stroke (R166). -/
def State.atOpenEnd (s : State) (d : Door) : Bool :=
  let e := s.enc[d.ch.1]
  let g := s.cfg.door[d.1].enc
  e.ref && e.still && decide ((g.openSc : Int) - g.closedWindow ≤ e.stroke)

/-- Closed stand-still: both closed switches read closed and the leaf at stand-still (R39, R40). -/
def State.closedStill (s : State) (d : Door) : Bool := s.closedRead d && s.enc[d.ch.1].still

/-- The channel reports no fault and its leaf is moving. -/
def State.leafMoving (s : State) (c : Ch) : Bool := !s.enc[c.1].still

/-! ## The end of a Tentering run (R142 step 7) -/

/-- The doorway is in step 7 of a Tentering run, which locks it in SERVICE. -/
def State.learning (s : State) (d : Door) : Bool :=
  match s.maint.tenter with | some x => x.door == d && x.step == .lock | none => false

/-- A pass or Align of a run whose motion has ended is aborted with outcome 0x05 (R144). -/
def State.brokenRun (s : State) (d : Door) : State :=
  { s with maint := { s.maint with tenter := s.maint.tenter.map fun (x : Tenter) =>
    if x.door ≠ d then x
    else match x.step with
      | .out _ | .back _ | .align => { x with step := .abort, outcome := some 0x05, learned := none }
      | _ => x } }

/-- The session's own jog, leave or test on the doorway ends a run, with outcome 0x01 where it had not failed before. DEDUCED: Table 12-10
refuses none of them during a run, and Table 5-3 has the code (log 26). -/
def State.endRun (s : State) (d : Door) : State :=
  { s with maint := { s.maint with tenter := s.maint.tenter.map fun (x : Tenter) =>
    if x.door ≠ d || x.step == .done then x
    else { x with step := .done, learned := none, outcome := match x.outcome with | some 0 => some 0x01 | some k => some k | none => some 0x01 } } }

/-- The lock proof of a run has passed or failed; TENTER_RUN_END follows. -/
def State.learningEnds (s : State) (d : Door) (ok : Bool) : State :=
  let s := { s with maint := { s.maint with tenter := s.maint.tenter.map fun (x : Tenter) =>
    { x with step := .done, outcome := if ok then x.outcome else some 0x0B } } }
  let s := s.modCyc d fun y => { y with proven := ok, svc := .idle, backing := false, backDl := none, waitToken := false }
  (s.solOff d).holdAt d 0

end Sys2Proof.Machine
end

