-- ==== Sys2Proof/Machine/Steps.lean ====
section
/-!
DEFINITION. Sys2Proof/Machine/Steps.lean: the step and gap-filler sequence of a doorway (R188-R193, R140).
-/
namespace Sys2Proof.Machine

/-! ## Starting a travel -/

/-- Speed factor of a travel that starts now (R95, R138): referencing while a closing channel is unreferenced, slow-close on a
door that closes while a cause stands. -/
def State.scaleNow (s : State) (c : Ch) (opening : Bool) : Scale :=
  if opening then .full
  else if !s.enc[c.1].ref then .referencing
  else if !c.isStep && s.slowClose c.door then .slowClose else .full

/-- A travel is requested with its stretch factor (R78) and speed factor; REFCLOSE shows a referencing close. -/
def State.beginTravel (s : State) (c : Ch) (opening : Bool) (f : Nat) : State :=
  let q := s.scaleNow c opening
  let s := s.modSlot c fun x => { x with stretch := f, scale := q }
  let s := s.modEnc c fun e => { e with refClose := q == .referencing }
  let s := if c.isStep then s else s.modDrv c.door fun x => { x with stretch := f }
  let s := if c.isStep then s else s.modRec c.door fun r => { r with slowc := r.slowc || q == .slowClose }
  s.request c (if opening then .travelOpen else .travelClose) 0

/-- A compare entry of a set is a step cue with the given argument. -/
def State.hasCue (s : State) (d : Door) (opening : Bool) : Bool :=
  (List.finRange 32).any fun k =>
    inSet opening k && s.cfg.door[d.1].cmp[k.1].action == 5 && s.cfg.door[d.1].cmp[k.1].arg == (if opening then 1 else 0)

/-! ## Motions of a step -/

/-- Step cycle parameters. -/
def State.stepCfg (s : State) (d : Door) : StepCycleCfg := s.cfg.step[d.1].cyc

/-- The step's time limit in a direction, ms. -/
def StepCycleCfg.limitMs (g : StepCycleCfg) (extend : Bool) : Nat := if extend then g.extendTimeoutMs else g.retractTimeoutMs

/-- A granted step motion: its state and time limit, and the travel request at once when the granted tick is the next latch. -/
def State.stepGranted (s : State) (d : Door) (extend : Bool) (x : Reservation) : State :=
  let at0 := x.start * 125000
  let now := decide (x.start ≤ s.tick + 1)
  let s := s.modCyc d fun y => { y with
    step := if extend then .extending else .retracting
    stepDl := some (at0 + ms ((s.stepCfg d).limitMs extend))
    stepStart := if now then none else some x.start, stepHold := none, stepRetried := false }
  let s := s.modRec d fun r => { r with stepAt := at0 }
  if now then s.beginTravel d.step extend x.s
  else (s.modSlot d.step fun z => { z with stretch := x.s }).request d.step .hold 0

/-- An extension or a retraction has something to do (R189, R190): a step in STEP_FAULT is left only by R193, an unreferenced step
moves only on a retraction (R38, R41), and a step already there or on its way is left. -/
def State.stepMay (s : State) (d : Door) (extend : Bool) : Bool :=
  let st := s.cyc[d.1].step
  s.stepFitted d && st != .fault &&
  (if extend then st != .extending && st != .extended && s.enc[d.step.1].ref
   else st != .retracting && (st != .retracted || !s.enc[d.step.1].ref))

/-- A step start is asked for; it is planned at the end of the tick, doors before steps (R76). -/
def State.wantStep (s : State) (d : Door) (extend : Bool) : State :=
  if s.stepMay d extend then s.modCyc d fun y => { y with stepWant := some extend } else s

/-- STEP_FAULT (R191, R192): Hold at 0 mA, the sticky bit, a Major event; the door cycle continues (R177). -/
def State.stepFault (s : State) (d : Door) (cause : Nat) : State :=
  let s := s.modCyc d fun y => { y with
    step := .fault, stepFlt := true, stepDl := none, stepStart := none, stepHold := none }
  let s := ((s.modRec d fun r => { r with stepflt := true }).bump (0x61 + d.1) 34).doorEvent d 12 4 cause
    s.enc[d.step.1].strokeWord 0 0
  ((s.request d.step .hold 0).releaseGov d.step).modEnc d.step fun e => { e with refClose := false }

/-- The time of a step motion goes into the record of the cycle that began it: the one in progress, or the one that waits for its loop
(R194, R195). -/
def State.noteStep (s : State) (d : Door) (f : Nat → CycleRec → CycleRec) : State :=
  let note := fun (r : CycleRec) => if r.stepAt = 0 then r else f ((s.ns - r.stepAt) / 1000000) { r with stepAt := 0 }
  s.modCyc d fun y => { y with rec? := y.rec?.map note, ending := y.ending.map note }

/-- STEP_EXTENDED: Hold at +hold_ma. -/
def State.stepExtended (s : State) (d : Door) : State :=
  let s := s.noteStep d fun t r => { r with stepExtMs := t }
  let s := s.modCyc d fun y => { y with step := .extended, stepDl := none, stepStart := none, stepHold := none }
  (s.request d.step .hold (s.stepCfg d).holdMa).releaseGov d.step

/-- STEP_RETRACTED: Stopped. -/
def State.stepRetracted (s : State) (d : Door) : State :=
  let s := s.modCyc d fun y => { y with step := .retracted, stepDl := none, stepStart := none, stepHold := none }
  (s.request d.step .stopped 0).releaseGov d.step

/-- A retraction ends (R191): the time goes to the record, and the stroke is checked or the reference taken (R39-R41). -/
def State.stepRetractEnd (s : State) (d : Door) : State :=
  let s := s.noteStep d fun t r => { r with stepRetMs := t }
  let s := if s.enc[d.step.1].ref then s.standStillCheck d.step
    else if s.enc[d.step.1].encFlt then s else s.takeReference d.step
  s.stepRetracted d

/-- A step whose encoder has failed ends its motion: a start not yet reached is none, and the step holds at 0 mA until its time limit
(R36, R41, R191). -/
def State.stepUnread (s : State) (d : Door) : State :=
  let y := s.cyc[d.1]
  let x := s.slot[d.step.1]
  let goes := y.stepStart.isSome || y.stepHold.isSome || x.mode.travel.isSome || (match x.req with | some r => r.1.travel.isSome | none => false)
  if s.enc[d.step.1].encFlt && (y.step == .extending || y.step == .retracting) && goes then
    ((s.modCyc d fun y => { y with stepStart := none, stepHold := none }).request d.step .hold 0).releaseGov d.step
  else s

/-- What a mill tick does to a step (R41, R191, R193): a motion at stand-still with its end input active ends; a service jog that
brings a faulted step to its retracted input ends STEP_FAULT; a retracted step without a reference takes it at its stop. -/
def State.stepTick (s : State) (d : Door) : State :=
  if !s.stepFitted d then s
  else
    let s := s.stepUnread d
    let y := s.cyc[d.1]
    let still := s.enc[d.step.1].still
    match y.step with
    | .extending => if y.stepStart.isNone && s.stepExtRead d && still then s.stepExtended d else s
    | .retracting => if y.stepStart.isNone && s.stepRetRead d && still then s.stepRetractEnd d else s
    | .fault =>
      if s.slot[d.step.1].mode = .jog ∧ s.stepRetRead d then s.stepRetracted d else s
    | .retracted =>
      if !s.enc[d.step.1].ref && !s.enc[d.step.1].encFlt && s.stepRetRead d && still then s.takeReference d.step else s
    | .extended => s

/-- A step whose motion Millstone has ended takes STEP_FAULT as at its timeout (R89), by the direction of the motion; a service jog is such
a motion. -/
def State.stepEnded (s : State) (d : Door) : State :=
  match s.cyc[d.1].step with
  | .extending => s.stepFault d 1
  | .retracting => s.stepFault d 2
  | .fault => s
  | _ => s.stepFault d (if 0 < s.slot[d.step.1].arg then 1 else 2)

/-! ## Commands -/

/-- STEP_STALL (R140, R192). -/
def execStepStall (t : Nat) (d : Door) (s : State) : Out :=
  let s := s.at t
  let y := s.cyc[d.1]
  if !s.decides || !due (s.obs[d.1].stallAt.map (· + ms (s.stepCfg d).stallMs)) s.ns then .next s
  else
    let retracting := y.step == .retracting
    let s := s.modObs d fun o => { o with stall := true, stallAt := none }
    let s := (s.bump (0x51 + d.1) 8).doorEvent d 16 2 retracting.toNat (word (toField s.slot[d.step.1].iqM)) 0 0
    let s := s.request d.step .hold 0
    match y.step with
    | .extending =>
      if (s.stepCfg d).stallExtended then .next (s.stepExtended d)
      else .next ((s.doorEvent d 13 2 0 s.enc[d.step.1].strokeWord 0 0).wantStep d false)
    | .retracting =>
      if y.stepRetried then .next (s.stepFault d 3)
      else .next (s.modCyc d fun y => { y with stepHold := some (s.ns + ms 500) })
    | _ => .next s

/-- STEP_STALL_RETRY (R192): after 500 ms the retraction is tried once more. -/
def execStepStallRetry (t : Nat) (d : Door) (s : State) : Out :=
  let s := s.at t
  if s.decides && due s.cyc[d.1].stepHold s.ns && s.cyc[d.1].step == .retracting then
    let s := s.modCyc d fun y => { y with stepHold := none, stepRetried := true }
    .next (s.beginTravel d.step false s.slot[d.step.1].stretch)
  else .next s

/-- STEP_EXTEND_TIMEOUT (R191). -/
def execStepExtendTimeout (t : Nat) (d : Door) (s : State) : Out :=
  let s := s.at t
  if s.decides && due s.cyc[d.1].stepDl s.ns && s.cyc[d.1].step == .extending then .next (s.stepFault d 1) else .next s

/-- STEP_RETRACT_TIMEOUT (R191). -/
def execStepRetractTimeout (t : Nat) (d : Door) (s : State) : Out :=
  let s := s.at t
  if s.decides && due s.cyc[d.1].stepDl s.ns && s.cyc[d.1].step == .retracting then .next (s.stepFault d 2) else .next s

end Sys2Proof.Machine
end

