-- ==== Sys2Proof/Machine/DoorCycle.lean ====
section
/-!
DEFINITION. Sys2Proof/Machine/DoorCycle.lean: the door cycle state machine (06_door_cycle): decisions on close, open and reset, the
transitions of Table 6-3, the three-way lock proof, and the timers' commands.
-/
namespace Sys2Proof.Machine

/-- Door cycle parameters. -/
def State.cycCfg (s : State) (d : Door) : CycleCfg := s.cfg.door[d.1].cyc

/-! ## Opening -/

/-- OPEN is reached; a step extends there where the opening set holds no step cue (R189). -/
def State.openReached (s : State) (d : Door) (part : Bool) : State :=
  let s := s.toOpen d part
  if s.hasCue d true then s else s.wantStep d true

/-- The opening motion starts: OPENING under Travel-open; the timeout runs from the start tick (R166). -/
def State.startOpening (s : State) (d : Door) : State :=
  let y := s.cyc[d.1]
  let s := (s.goto d .opening).modCyc d fun z => { z with
    startNs := y.startNs, startS := y.startS, openDl := some (y.startNs + ms (s.cycCfg d).openTimeoutMs) }
  s.beginTravel d.ch true y.startS

/-- UNLOCKING goes to OPENING at the later of the unlocked pair and the granted tick, after Align where one is needed, and not
while a step that extends first is STEP_EXTENDING (R165, R187, R189). -/
def State.tryOpening (s : State) (d : Door) : State :=
  let y := s.cyc[d.1]
  if y.state = .unlocking ∧ y.unlocked ∧ ¬ y.aligning ∧ y.startTick.isNone ∧
     ¬ ((s.stepCfg d).extendFirst ∧ y.step = .extending) then s.startOpening d else s

/-- UNLOCKING (R165, R187): preload, or Stopped without an angle; the solenoid is pulled; a step may extend first. -/
def State.enterUnlocking (s : State) (d : Door) (x : Reservation) : State :=
  let s := (s.goto d .unlocking).modCyc d fun y => { y with
    startTick := some x.start, startS := x.s, startNs := x.start * 125000
    unlockDl := some (s.ns + ms (s.cycCfg d).unlockTimeoutMs) }
  let s := if s.hasAngle d then s.preload d else s.request d.ch .stopped 0
  let s := s.pull d
  if (s.stepCfg d).extendFirst then s.wantStep d true else s

/-- An opening motion granted in OPEN, REOPEN_HOLD or CLOSING: at the next latch, or held at 0 N until its tick. -/
def State.enterOpening (s : State) (d : Door) (x : Reservation) : State :=
  let s := s.modCyc d fun y => { y with startNs := x.start * 125000, startS := x.s }
  if x.start ≤ s.tick + 1 then s.startOpening d
  else ((s.goto d .opening).modCyc d fun y => { y with startTick := some x.start }).holdAt d 0

/-! ## Closing -/

/-- The closing motion starts (R167): Travel-close, and the step where the closing set holds no cue (R190). -/
def State.startClosing (s : State) (d : Door) : State :=
  let y := s.cyc[d.1]
  let s := s.modCyc d fun z => { z with startTick := none, restFirst := false }
  let s := s.modRec d fun c => { c with closeAt := y.startNs }
  let s := s.beginTravel d.ch false y.startS
  if s.hasCue d false then s else s.wantStep d false

/-- A leaf that an opening motion moves comes to rest under Hold before it closes (R163). -/
def State.restsFirst (s : State) (d : Door) : Bool :=
  s.cyc[d.1].state == .opening || (s.cyc[d.1].restFirst && s.leafMoving d.ch)

/-- A closing motion is granted: at the next latch, or the leaf is held at 0 N until its tick (R167) and until it has come to rest
from an opening motion (R163). Its timeout runs from the tick (R168). -/
def State.enterClosing (s : State) (d : Door) (x : Reservation) : State :=
  let rest := s.restsFirst d
  let soon := decide (x.start ≤ s.tick + 1)
  let s := s.modRec d fun c => { c with stretchClose := stretch8 x.s, delayClose := s.delayMs x / 20 }
  let s := (s.goto d .closing).modCyc d fun y => { y with
    startNs := x.start * 125000, startS := x.s, awaitStep := false, restFirst := rest
    closeDl := some (x.start * 125000 + ms (s.cycCfg d).closeTimeoutMs) }
  if soon && !rest then s.startClosing d
  else (s.modCyc d fun y => { y with startTick := if soon then none else some x.start }).holdAt d 0

/-- A close whose step retracts first waits in CLOSING for the step (R190); an opening motion that it ends releases its reservation
(R79). -/
def State.awaitRetract (s : State) (d : Door) : State :=
  let rest := s.restsFirst d
  let s := if s.cyc[d.1].state == .opening then s.releaseGov d.ch else s
  ((s.goto d .closing).modCyc d fun y => { y with awaitStep := true, restFirst := rest }).holdAt d 0

/-- The close must bring its step in before the closing start is planned (R190). -/
def State.mustRetract (s : State) (d : Door) : Bool :=
  (s.stepCfg d).retractFirst && s.stepFitted d && s.cyc[d.1].step != .retracted

/-- A start that an accepted close still needs is refused by the Governor, or its motion ends (R168): the close command is no longer
in force. -/
def State.closeLost (s : State) (d : Door) : State := s.modCyc d fun y => { y with closeCmd := false, awaitStep := false }

/-! ## Locking and proving (R172-R174) -/

/-- A new locking sequence: attempt 1, results not run; a back-drive result stays while PROVEN does (R173). -/
def State.newAttempts (s : State) (d : Door) : State :=
  s.modCyc d fun y => { y with attempts := 1, prfR := 0, prfB := if y.proven then y.prfB else 0, prfS := 0, excursion := 0 }

/-- LOCKING at lock-zone entry: the leaf continues under Travel-close. -/
def State.lockTravel (s : State) (d : Door) : State := (s.goto d .locking).newAttempts d

/-- The solenoid goes off at closed stand-still under preload; the switch timeout runs from the off request (R172). -/
def State.lockOff (s : State) (d : Door) : State :=
  ((s.preload d).solOff d).modCyc d fun y => { y with
    lockPhase := .released, switchDl := some (s.ns + ms (s.cycCfg d).switchTimeoutMs), settleDl := none }

/-- LOCKING of a leaf that already stands closed. -/
def State.lockStill (s : State) (d : Door) : State := ((((s.goto d .locking).newAttempts d).lockOff d).releaseGov d.ch).endRefClose d

/-- A lock attempt that starts with a pull and Travel-close (R174), its proof results not run; it takes no Governor grant, and its travel
samples slow-close (R138). -/
def State.lockRetry (s : State) (d : Door) : State :=
  let s := ((s.goto d .locking).pull d).modCyc d fun y => { y with
    lockPhase := .retry, prfR := 0, prfB := 0, prfS := 0, excursion := 0 }
  s.beginTravel d.ch false s.slot[d.ch.1].stretch

/-- CLOSED_UNLOCKED: the cycle ends with outcome 2, a Major event; the close command is no longer in force. -/
def State.notLocked (s : State) (d : Door) : State :=
  let s := s.doorEvent d 4 4 0 (BitVec.ofNat 32 s.cyc[d.1].attempts) 0 0
  ((((s.endCycle d 2).goto d .closedUnlocked).preload d).solOff d).releaseGov d.ch

/-- The attempt has failed (R174): causes 1 switches and position, 2 back-drive, 3 Bedstone, 4 switch timeout. -/
def State.attemptFailed (s : State) (d : Door) (cause : Nat) : State :=
  let y := s.cyc[d.1]
  let s := (s.bump (0x61 + d.1) (7 + cause)).tracedEvent d 3 3 3 cause (BitVec.ofNat 32 y.excursion) (BitVec.ofNat 32 y.attempts) 0
  let s := s.modCyc d fun y => { y with lockFlt := true, proven := false }
  if y.attempts < (s.cycCfg d).maxAttempts then
    let s := s.modCyc d fun y => { y with attempts := y.attempts + 1 }
    if s.learning d then
      ((s.pull d).modCyc d fun y => { y with svc := .leaving, lockPhase := .retry, backing := false }).beginTravel d.ch false
        s.slot[d.ch.1].stretch
    else s.lockRetry d
  else if s.learning d then s.learningEnds d false
  else s.notLocked d

/-- The leaf is held at the closing preload, and nothing else is asked of it. -/
def State.preloaded (s : State) (d : Door) : Bool :=
  s.slot[d.ch.1].mode == .hold && s.slot[d.ch.1].arg == -((s.cycCfg d).preloadN : Int) && s.slot[d.ch.1].req.isNone

/-- Begin the proof (R154, R173, R174, R187, R355): wait for the token; then the preload, and Back-drive from it where the doorway has an
angle. -/
def State.startProof (s : State) (d : Door) : State :=
  let s := s.modCyc d fun y => { y with
    prfR := 0, prfB := if y.proven then y.prfB else 0, prfS := 0, excursion := 0, backing := false, backBad := false
    backDl := none, waitToken := !s.pair.token }
  if !s.pair.token then s.request d.ch .stopped 0
  else if s.hasAngle d && s.preloaded d then s.request d.ch .backDrive (s.cycCfg d).backdriveN
  else s.preload d

/-- PROVING entered from LOCKING: the attempt goes on. -/
def State.enterProving (s : State) (d : Door) : State := (s.goto d .proving).startProof d

/-- PROVING entered from elsewhere: attempt 1. -/
def State.proveAnew (s : State) (d : Door) : State := ((s.goto d .proving).newAttempts d).startProof d

/-- Runner's check of Table 6-5. -/
def State.runnerCheck (s : State) (d : Door) : Bool := s.lockedIn .runner d && s.closedIn .runner d && s.strokeWindow d
/-- Bedstone's check of Table 6-5. -/
def State.bedstoneCheck (s : State) (d : Door) : Bool := s.lockedIn .bedstone d && s.closedIn .bedstone d

/-- CLOSED_LOCKED with PROVEN; the record waits up to 2 s for the loop (R173, R194). -/
def State.enterClosedLocked (s : State) (d : Door) : State :=
  let outcome := if s.cyc[d.1].attempts ≤ 1 then 0 else 1
  let s := s.modRec d fun c => { c with closeMs := if c.closeAt = 0 then 0 else (s.ns - c.closeAt) / 1000000 }
  let s := s.writeEnding d false
  let s := match s.cyc[d.1].rec? with
    | some c => s.modCyc d fun y => { y with
        ending := some (s.sealRec d outcome c), rec? := none, recordDl := some (s.ns + ms 2000) }
    | none => s
  ((s.goto d .closedLocked).modCyc d fun y => { y with proven := true }).request d.ch .stopped 0

/-- The three checks are taken: `back` is the back-drive result, 0 not run, 1 pass, 2 fail (R173, R187). -/
def State.judgeProof (s : State) (d : Door) (back : Nat) : State :=
  let r := s.runnerCheck d
  let b := s.bedstoneCheck d
  let s := s.modCyc d fun y => { y with prfR := if r then 1 else 2, prfB := back, prfS := if b then 1 else 2, backDl := none }
  if !r then s.attemptFailed d 1
  else if back = 2 then s.attemptFailed d 2
  else if !b then s.attemptFailed d 3
  else if s.learning d then s.learningEnds d true
  else s.enterClosedLocked d

/-! ## Reversal (R169, R170, R186) -/

/-- A contact of the sensitive edge (input 4 is A, 5 is B) reads open on Miller's, Runner's or Bedstone's input path. -/
def State.edgeReadsOpen (s : State) (d : Door) (k : Fin 10) : Bool :=
  !s.reads .runner d k || !s.reads .bedstone d k || (if k = 4 then s.edgeOpenA d else s.edgeOpenB d)

/-- A reversal that the EDGE latch has caused at this tick: its event and its count (R153). -/
def State.edgeReversal (s : State) (d : Door) : State :=
  if s.obs[d.1].revEdge then
    (s.bump (0x51 + d.1) 2).tracedEvent d 1 15 2 ((s.edgeReadsOpen d 4).toNat + 2 * (s.edgeReadsOpen d 5).toNat)
      s.enc[d.ch.1].strokeWord 0 0
  else s

/-- Count a reversal in the record, the counters and the events: observer and edge apart (R169). The travel it overrides is marked as
superseded (R161). -/
def State.countReversal (s : State) (d : Door) : State :=
  let byEdge := s.obs[d.1].revEdge
  let byObs := s.obs[d.1].revObs
  let s := (s.modCyc d fun y => { y with reopens := y.reopens + 1 }).bump (0x61 + d.1) 7
  let s := s.modRec d fun c => { c with
    revObs := c.revObs + byObs.toNat, revEdge := c.revEdge + byEdge.toNat, superseded := true }
  s.edgeReversal d

/-- REVERSING: the reopen target, a start-stage reservation to it, and a step that is not extended extends (R170, R79, R189). A reversal
that overrides an accepted open goes on to full open (R161). -/
def State.enterReversing (s : State) (d : Door) (openWanted : Bool) : State :=
  let g := s.cfg.door[d.1].enc
  let target := min (s.enc[d.ch.1].stroke + (s.cycCfg d).reopenSc) ((g.openSc : Int) - g.closedWindow)
  let s := (s.countReversal d).goto d .reversing
  let s := (s.modCyc d fun y => { y with reopenTarget := target, openWanted := openWanted }).reserveReverse d target.toNat
  let s := if openWanted then s.extendReverse d else s
  s.wantStep d true

/-- REOPEN_HOLD: Hold at 0 N for reopen_hold_ms. -/
def State.enterReopenHold (s : State) (d : Door) : State :=
  let s := ((s.goto d .reopenHold).holdAt d 0).releaseGov d.ch
  s.modCyc d fun y => { y with holdDl := some (s.ns + ms (s.cycCfg d).reopenHoldMs) }

/-! ## Isolation, handle, encoder fault (R36, R175, R178-R180) -/

/-- The doorway's session loses its token (R178). -/
def State.loseDoorToken (s : State) (d : Door) : State :=
  ({ s with maint := { s.maint with doorTok := s.maint.doorTok.set d.1 none } } : State).endCaptureOn d

/-- The isolation key is operated (R178). -/
def State.isolate (s : State) (d : Door) : State :=
  let closed := s.closedRead d
  let moving := s.leafMoving d.ch
  let s := (s.bump (0x61 + d.1) 32).doorEvent d 10 (if closed then 2 else 4) (if closed then 0 else 1) s.enc[d.ch.1].strokeWord 0 0
  let s := ((s.endCycle d 4).goto d .isolated).modCyc d fun y => { y with isoBrake := moving, proven := false }
  let s := (((s.solOff d).releaseGov d.ch).endRefClose d).stopStep d
  let s := (s.modEnc d.ch fun e => { e with faultIsolated := e.encFlt }).loseDoorToken d
  (s.request d.ch (if moving then .brake else .stopped) 0).settlePairs d

/-- An ISOLATED doorway at a tick: Stopped once at rest; PROVING or UNREFERENCED when the key is returned (R178, R179), or FAULT_HELD while
the standby reports an isolation fault (R324). -/
def State.isolatedTick (s : State) (d : Door) : State :=
  let s := if s.cyc[d.1].isoBrake && s.enc[d.ch.1].still then
      ((s.modCyc d fun y => { y with isoBrake := false }).request d.ch .stopped 0).settlePairs d else s
  if s.keyOperated d then s
  else
    let good := s.enc[d.ch.1].ref && !s.enc[d.ch.1].faultIsolated && s.closedRead d && s.lockRead d
    let s := if good then s.standStillCheck d.ch else s
    if s.partnerIso then ((s.goto d .unreferenced).faultHeld d 2)
    else if good && s.enc[d.ch.1].ref then (s.proveAnew d).settlePairs d
    else (s.toUnreferenced d).settlePairs d

/-- The emergency handle (R180, R198): each operation is counted and raises its event, and while it is operated the doorway is held. -/
def State.handle (s : State) (d : Door) : State :=
  let on := s.handleOperated d
  let s := if on && !s.cyc[d.1].handleWas then (s.bump (0x61 + d.1) 33).doorEvent d 9 4 0 s.enc[d.ch.1].strokeWord 0 0 else s
  let s := s.modCyc d fun y => { y with handleWas := on }
  if on then s.faultHeld d 5 else s

/-- The lock pair stops reading locked without an unlock request (R175). -/
def State.lockLost (s : State) (d : Door) : State :=
  (s.doorEvent d 5 5 0 (BitVec.ofNat 32 s.cyc[d.1].state.code) 0 0).faultHeld d 6

/-- FAULT_HELD is left for the first state of R182 that applies; the channels run again. A cycle that a cold takeover has left open ends
where the doorway enters UNREFERENCED (R177). -/
def State.leaveFault (s : State) (d : Door) : State :=
  let s := s.modDrv d fun x => { x with isoFaulted := false }
  let free := fun (x : Slot) => { x with stopped := false, unackRun := 0, starveBrake := false, starvedRun := 0 }
  let s := ((s.modSlot d.ch free).modSlot d.step free).settlePairs d
  let s := if s.enc[d.ch.1].ref && s.closedRead d && s.lockRead d then s.proveAnew d
    else if s.enc[d.ch.1].ref && s.closedRead d then s.lockStill d
    else if s.enc[d.ch.1].ref then s.openReached d true
    else (s.endCycle d 6).toUnreferenced d
  s.settlePairs d

/-! ## A mill tick of one doorway, in the order of R162 -/

/-- Items 1 to 4: lock lost, isolation key, emergency handle, encoder fault at rest. -/
def State.earlyItems (s : State) (d : Door) : State :=
  let locked := s.cyc[d.1].state == .closedLocked || s.cyc[d.1].state == .released
  let s := if locked && !s.lockRead d then s.lockLost d else s
  let s := if s.cyc[d.1].state == .isolated then s.isolatedTick d else if s.keyOperated d then s.isolate d else s
  let s := s.handle d
  if s.cyc[d.1].encRest && s.enc[d.ch.1].still then (s.endCycle d 6).toUnreferenced d else s

/-- A doorway braked at a cold takeover takes, at rest, the state of an accepted reset (R323). -/
def State.coldItem (s : State) (d : Door) : State :=
  if s.cyc[d.1].coldBrake && s.enc[d.ch.1].still then (s.modCyc d fun y => { y with coldBrake := false }).leaveFault d else s

/-- A back-drive test of SERVICE ends (R176): a failed one sets LOCKFLT and ends PROVEN. Its outcome carries the result, and the excursion
from bit 8 on. -/
def State.backTestEnds (s : State) (d : Door) (ok : Bool) : State :=
  let s := s.modCyc d fun y => { y with
    backing := false, backDl := none, backTest := none, prfB := if ok then 1 else 2
    lockFlt := y.lockFlt || !ok, proven := y.proven && ok }
  (s.holdAt d 0).outcome .backdrive ((!ok).toNat + 256 * min 65535 s.cyc[d.1].excursion)

/-- A motion of SERVICE that has been broken off (R89): a proof under way or a test fails, any other motion ends at Hold 0 N and releases
its reservation (R79). -/
def State.serviceBroken (s : State) (d : Door) : State :=
  let y := s.cyc[d.1]
  if s.learning d && y.backing then s.attemptFailed d 2
  else if y.backTest.isSome then s.backTestEnds d false
  else
    let s := (s.modCyc d fun y => { y with svc := .idle, startTick := none }).brokenRun d
    ((s.holdAt d 0).releaseGov d.ch).endRefClose d

/-- A motion that the starvation brake has ended (R89). R89 names the ends of a door cycle's motions; DEDUCED: a referencing close, a
service motion and a back-drive end there too (log 25). -/
def State.motionBroken (s : State) (d : Door) : State :=
  let y := s.cyc[d.1]
  if y.state.moving then ((s.closeLost d).holdAt d 0).openReached d true
  else match y.state with
    | .unreferenced =>
      if y.refClosing then
        (((s.modCyc d fun y => { y with refClosing := false, refReopen := none, startTick := none }).holdAt d 0).releaseGov
          d.ch).endRefClose d
      else s
    | .service => s.serviceBroken d
    | .proving => if y.backing then (s.modCyc d fun y => { y with prfB := 2, backDl := none }).attemptFailed d 2 else s
    | _ => s

/-- Item 5: Millstone's reports: Reverse, OPENDET, and a motion ended by the starvation brake (R89, R124, R166, R169, R170). -/
def State.reportItems (s : State) (d : Door) : State :=
  let y := s.cyc[d.1]
  let m := s.slot[d.ch.1].mode
  let openDet := s.obs[d.1].detOpen
  if s.slot[d.ch.1].brakeEnded then s.motionBroken d
  else match y.state with
    | .closing | .locking => if m = .reverse then s.enterReversing d false else s
    | .opening => if m = .reverse then s.enterReversing d true else if openDet then s.openReached d true else s
    | .service =>
      let s := if m = .reverse then s.edgeReversal d else s
      if openDet then s.holdAt d 0 else s
    | .reversing =>
      if y.openWanted then (if openDet && s.slot[d.ch.1].rphase && !s.atOpenEnd d then s.openReached d true else s)
      else if openDet && s.slot[d.ch.1].rphase then s.enterReopenHold d else s
    | .unreferenced =>
      if y.refClosing && y.refReopen.isNone && m = .reverse then
        (s.countReversal d).modCyc d fun y => { y with refReopen := some (s.enc[d.ch.1].pos + (s.cycCfg d).reopenSc) }
      else s
    | _ => s

/-- Item 6: lock-zone entry and step cues (R46, R172, R189, R190). A cue of the other direction than the motion that an earlier item has
begun is no longer valid (R162). -/
def State.cmpItems (s : State) (d : Door) : State :=
  let m := s.cmp[d.1]
  let s := if m.lzoneItem && s.cyc[d.1].state == .closing then s.lockTravel d else s
  let fits := fun (extend : Bool) => match s.cyc[d.1].state with
    | .closing | .locking => !extend
    | .opening | .reversing => extend
    | _ => true
  let s := (m.cueItems.filter fits).foldl (fun (s : State) extend => s.wantStep d extend) s
  s.modCmp d fun x => { x with lzoneItem := false, cueItems := [], marker := none }

/-- LOCKING at a tick (R172, R174). -/
def State.lockingTick (s : State) (d : Door) : State :=
  let y := s.cyc[d.1]
  match y.lockPhase with
  | .closing =>
    if s.closedStill d then
      let s := if s.enc[d.ch.1].ref then s.standStillCheck d.ch else s
      (s.lockOff d).releaseGov d.ch
    else s
  | .retry =>
    if s.closedStill d then
      let s := if y.attempts ≤ 1 && s.enc[d.ch.1].ref then s.standStillCheck d.ch else s
      (match y.sol with
       | .pull _ => (s.preload d).modCyc d fun y => { y with lockPhase := .pulling }
       | _ => s.lockOff d)
    else s
  | .pulling => s
  | .released =>
    if s.lockRead d then
      (if y.settleDl.isNone then s.modCyc d fun y => { y with settleDl := some (s.ns + ms (s.cycCfg d).settleMs) } else s)
    else s.modCyc d fun y => { y with settleDl := none }

/-- PROVING at a tick (R173, R174, R187): wait for the token; follow the back-drive from the latch that entered it. -/
def State.provingTick (s : State) (d : Door) : State :=
  let y := s.cyc[d.1]
  if y.waitToken then (if s.pair.token then s.startProof d else s)
  else if y.backing then
    let s := s.modCyc d fun y => { y with excursion := s.slot[d.ch.1].excursion, backBad := y.backBad || !s.lockRead d }
    if (s.cycCfg d).backdriveMax < s.cyc[d.1].excursion then
      (s.modCyc d fun y => { y with prfB := 2, backDl := none }).attemptFailed d 2
    else s
  else if s.slot[d.ch.1].mode = .backDrive then
    s.modCyc d fun y => { y with backing := true, backDl := some (s.ns + ms (s.cycCfg d).backdriveMs) }
  else if s.hasAngle d then (if s.preloaded d then s.request d.ch .backDrive (s.cycCfg d).backdriveN else s)
  else s.judgeProof d 0

/-- The awaited retraction of an accepted close at a tick: its start is planned once the step is in. DEDUCED: a step that takes STEP_FAULT
meanwhile cannot let the start be granted (R190, R191), so the close is lost as one that the Governor refuses is: a closing doorway takes
OPEN, partly open, a referencing close does not begin (log 24). -/
def State.awaitedStep (s : State) (d : Door) : State :=
  let y := s.cyc[d.1]
  match y.step with
  | .retracted => s.modCyc d fun y => { y with planWant := true }
  | .fault =>
    if y.state == .closing then (s.closeLost d).openReached d true
    else (s.closeLost d).modCyc d fun y => { y with refClosing := false }
  | _ => s

/-- A referencing close at a tick (R38, R39, R186). DESIGN CHOICE: a close accepted in UNREFERENCED while the encoder fault is still in
force begins a referencing close; it ends at stand-still as a cycle with outcome 6 (R36; log 15). -/
def State.refCloseTick (s : State) (d : Door) : State :=
  let y := s.cyc[d.1]
  let e := s.enc[d.ch.1]
  if !y.refClosing then s
  else if e.encFlt then (if e.still then (s.endCycle d 6).toUnreferenced d else s)
  else match y.refReopen with
    | some target =>
      if target ≤ e.pos then
        (((s.modCyc d fun y => { y with refClosing := false, refReopen := none }).holdAt d 0).releaseGov d.ch).endRefClose d
      else s
    | none =>
      if s.slot[d.ch.1].mode = .travelClose ∧ s.closedStill d then (s.takeReference d.ch).lockStill d else s

/-- A SERVICE doorway at a tick: unlocking before a jog or Align, and the drive to closed at service leave (R184, R187). -/
def State.serviceTick (s : State) (d : Door) : State :=
  let y := s.cyc[d.1]
  match y.svc with
  | .unlock v =>
    if s.unlockRead d then
      let s := s.modCyc d fun y => { y with unlockDl := none }
      if s.hasAngle d then (s.modCyc d fun y => { y with svc := .jog v }).request d.ch .jog v
      else (s.modCyc d fun y => { y with svc := .align v }).request d.ch .align 0
    else s
  | .leaving =>
    (match y.lockPhase with
     | .released =>
       if s.lockRead d then
         (if y.settleDl.isNone then s.modCyc d fun y => { y with settleDl := some (s.ns + ms (s.cycCfg d).settleMs) } else s)
       else s.modCyc d fun y => { y with settleDl := none }
     | .pulling => s
     | .retry => s.lockingTick d
     | .closing =>
       if y.startTick.isNone && s.closedStill d then
         let s := if s.enc[d.ch.1].ref then s.standStillCheck d.ch
           else if s.enc[d.ch.1].encFlt then s else s.takeReference d.ch
         ((s.lockOff d).releaseGov d.ch).endRefClose d
       else s)
  | _ =>
    if s.learning d then s.provingTick d
    else if y.backing then
      let s := s.modCyc d fun y => { y with excursion := s.slot[d.ch.1].excursion, backBad := y.backBad || !s.lockRead d }
      if (s.cycCfg d).backdriveMax < s.cyc[d.1].excursion then
        s.backTestEnds d false
      else s
    else if y.backTest.isSome && s.slot[d.ch.1].mode == .backDrive then
      s.modCyc d fun y => { y with backing := true, backDl := some (s.ns + ms (s.cycCfg d).backdriveMs) }
    else s

/-- Item 7 and what a tick finds in each state. -/
def State.phaseItems (s : State) (d : Door) : State :=
  let y := s.cyc[d.1]
  match y.state with
  | .closedLocked | .released =>
    if !s.enc[d.ch.1].ref && !s.enc[d.ch.1].encFlt && s.closedStill d then s.takeReference d.ch else s
  | .unlocking =>
    if !y.unlocked && s.unlockRead d then
      let s := s.modCyc d fun y => { y with unlocked := true, unlockDl := none }
      if s.hasAngle d then s.tryOpening d
      else (s.modCyc d fun y => { y with aligning := true }).request d.ch .align 0
    else s.tryOpening d
  | .opening => if y.startTick.isNone && s.atOpenEnd d then s.openReached d false else s
  | .closing =>
    if y.awaitStep then s.awaitedStep d
    else if y.restFirst && y.startTick.isNone && !s.leafMoving d.ch then s.startClosing d else s
  | .reversing =>
    if y.openWanted then (if s.atOpenEnd d then s.openReached d false else s)
    else if y.reopenTarget ≤ s.enc[d.ch.1].stroke || s.atOpenEnd d then s.enterReopenHold d else s
  | .locking => s.lockingTick d
  | .proving => s.provingTick d
  | .unreferenced =>
    if y.awaitStep then s.awaitedStep d else s.refCloseTick d
  | .service => s.serviceTick d
  | _ => s

/-- A door command is put to the decisions at the end of the tick (R162). -/
def State.addCmd (s : State) (c : DoorCmd) : State := { s with waiting := s.waiting ++ [c] }

/-- The record of a cycle whose loop closure is confirmed is written (R194). -/
def State.loopItem (s : State) (d : Door) : State :=
  let g := s.group d
  let confirmed := s.safety.grp[g.1].on && s.fbValid .bedstone g && !s.fbDropped .bedstone g && (s.countedBoth g).getLsbD d.1
  if confirmed then s.writeEnding d true else s

/-- Item 11: changes of release (R159, R162). A release that comes into force over a locked doorway opens it under open_mode 1; that open
waits for the decisions of the next tick. -/
def State.releaseItem (s : State) (d : Door) : State :=
  if !s.fitted d || s.cyc[d.1].restarting then s
  else
  let rel := s.released d
  let comes := rel && !(s.cyc[d.1].relWas && s.cyc[d.1].zeroWas)
  let s := s.modCyc d fun y => { y with relWas := s.sideReleased d, zeroWas := s.zeroSpeed }
  match s.cyc[d.1].state with
  | .closedLocked =>
    if rel then
      let s := s.goto d .released
      if comes && (s.cycCfg d).openMode == 1 then s.addCmd { door := d, kind := .open_, src := .auto } else s
    else s
  | .released => if rel then s else s.goto d .closedLocked
  | _ => s

/-- A channel may be asked again for the mode of its state: Millstone has discarded the request, for Stopped or for a Reverse that no
state now asks for, and nothing stops the doorway now. -/
def State.mayAsk (s : State) (c : Ch) : Bool :=
  (s.slot[c.1].mode == .stopped || s.slot[c.1].mode == .reverse) && s.slot[c.1].req.isNone && s.drv[c.door.1].pairsSensed && !s.tripped c.door && !s.doorStopped c.door &&
  !s.slot[c.1].stopped && !s.drv[c.door.1].dvStopped

/-- A Hold or Back-drive that Millstone discarded is requested again in the states that ask for it (R93, R154, R188). -/
def State.requestAgain (s : State) (d : Door) : State :=
  let y := s.cyc[d.1]
  let s := if !s.stepFitted d || !s.mayAsk d.step then s
    else match y.step with
      | .extended => s.request d.step .hold (s.stepCfg d).holdMa
      | .fault => s.request d.step .hold 0
      | _ => s
  if !s.mayAsk d.ch || !s.hasAngle d then s
  else match y.state with
    | .open => s.holdAt d (if y.partly then 0 else (s.cycCfg d).openHoldN)
    | .reopenHold => s.holdAt d 0
    | .unreferenced => if s.slot[d.ch.1].mode == .reverse && !y.refClosing then s.request d.ch .stopped 0 else s
    | .closedUnlocked | .unlocking => s.preload d
    | .locking => if y.lockPhase = .released ∨ y.lockPhase = .pulling then s.preload d else s
    | .proving => if y.waitToken || y.backing then s else s.preload d
    | _ => s

/-- The doorway is locking: in LOCKING, or in SERVICE on its way out. -/
def State.isLocking (s : State) (d : Door) : Bool :=
  s.cyc[d.1].state == .locking || (s.cyc[d.1].state == .service && s.cyc[d.1].svc == .leaving)

/-- The solenoid that a Weir trip switched off (R73) is energised again, once no trip stands, in the states of Table 6-1 that have it
so. -/
def State.energiseAgain (s : State) (d : Door) : State :=
  let y := s.cyc[d.1]
  if y.sol != .off || s.tripped d || !s.engineRuns d 4 then s
  else if y.state.holdsSolenoid || (y.state == .locking && y.lockPhase == .closing) then s.holdSol d
  else if y.state == .unlocking || (s.isLocking d && (y.lockPhase == .retry || y.lockPhase == .pulling)) ||
    (y.state == .service && (match y.svc with | .unlock _ => true | _ => false)) then s.pull d else s

/-- A fitted doorway's items of one mill tick. A standby follows the stream instead (R312). -/
def State.doorTick (s : State) (d : Door) : State :=
  if !s.fitted d || s.cyc[d.1].restarting then s
  else
    let s := if s.slot[d.ch.1].superseded then s.modRec d fun c => { c with superseded := true } else s
    let s := if s.slowClose d then s.modRec d fun c => { c with slowc := true } else s
    let s := if s.cyc[d.1].coldBrake then (s.earlyItems d).coldItem d
      else ((((s.earlyItems d).reportItems d).cmpItems d).phaseItems d).loopItem d
    let s := if s.slot[d.step.1].brakeEnded then s.stepEnded d else s
    let s := (((s.stepTick d).requestAgain d).energiseAgain d).modSlot d.ch fun x => { x with brakeEnded := false }
    s.modSlot d.step fun x => { x with brakeEnded := false }

/-! ## Decisions on commands (R158-R160, R163, R164) -/

/-- Codes that apply to a close command, lowest first (Table 6-4); `lineOn`: the close train line was active when it arrived (R158). -/
def State.closeCodes (s : State) (d : Door) (src : CmdSrc) (lineOn : Bool) : List Nat :=
  let y := s.cyc[d.1]
  let m := (s.cycCfg d).closeSource
  let here := match y.state with
    | .isolated => [0x22]
    | .faultHeld => [0x23]
    | .service => [0x25]
    | .closedLocked | .released | .closing | .locking | .reversing => [0x27]
    | .proving => [0x27]
    | .reopenHold => if y.closeCmd then [0x27] else []
    | .unreferenced => if y.refClosing then [0x27] else []
    | _ => []
  let permitted := match src with
    | .telegram => if m = 1 then [0x26] else []
    | .telegramTl => if m = 1 then [0x26] else []
    | .trainLine => []
    | _ => [0x26]
  let line := if m = 3 ∧ (src = .telegram ∨ src = .telegramTl) ∧ ¬ lineOn then [0x2D] else []
  here ++ permitted ++ line ++ (if s.handleOperated d then [0x2A] else [])

/-- Codes that apply to an open command; the release is the one taken at the last item 11 (R162). DEDUCED: 0x28, of an opening refused
until CLOSED_LOCKED, is the code of LOCKING; PROVING, which lies between the two, has 0x29 (log 24). -/
def State.openCodes (s : State) (d : Door) (src : CmdSrc) : List Nat :=
  let y := s.cyc[d.1]
  let g := s.cycCfg d
  let here := match y.state with
    | .isolated => [0x22]
    | .faultHeld => [0x23]
    | .unreferenced => [0x24]
    | .closedLocked => (if s.enc[d.ch.1].ref then [] else [0x24]) ++ [0x20]
    | .released => if s.enc[d.ch.1].ref then [] else [0x24]
    | .service => [0x25]
    | .unlocking | .opening => [0x27]
    | .open => if y.partly then [] else [0x27]
    | .reversing => if y.openWanted then [0x27] else []
    | .locking => [0x28]
    | .proving => [0x29]
    | _ => []
  let button := src == .inner || src == .outer
  let permitted := match src with
    | .inner => if g.innerButton then [] else [0x26]
    | .outer => if g.outerButton then [] else [0x26]
    | .auto => if g.openMode = 1 then [] else [0x26]
    | .telegram => if g.openMode = 2 then [] else [0x26]
    | _ => [0x26]
  here ++ permitted ++ (if y.relWas then [] else [0x20]) ++ (if y.zeroWas then [] else [0x21]) ++
    (if s.handleOperated d then [0x2A] else []) ++
    (if y.step = .fault ∧ (s.stepCfg d).extendFirst ∧ s.stepFitted d then [0x2B] else []) ++
    (if y.closeCmd && button then [0x2C] else []) ++ (if y.closeTick = some s.tick then [0x2C] else [])

/-- The lowest of the codes that apply. -/
def lowest (l : List Nat) : Option Nat := l.foldl (fun acc c => match acc with | some x => some (min x c) | none => some c) none

/-- What a decision answers: a reason code and, for a granted start, its delay in ms. -/
structure Verdict where
  code : Nat := 0
  delay : Nat := 0
deriving DecidableEq, Repr

/-- Acceptance of a close: the command is in force, its reopen count 0. -/
def State.closeAccepted (s : State) (d : Door) (src : CmdSrc) : State :=
  let s := s.modCyc d fun y => { y with
    closeCmd := true, closeSrc := CmdSrc.code src, closeTick := some s.tick, reopens := 0 }
  s.modRec d fun c => { c with closeSrc := CmdSrc.code src }

/-- The referencing close moves (R38, R186, R187): the Governor's grant, after Align where the doorway has no angle. -/
def State.startRefClose (s : State) (d : Door) (x : Reservation) : State :=
  let s := s.modRec d fun c => { c with stretchClose := stretch8 x.s, delayClose := s.delayMs x / 20 }
  let s := s.modCyc d fun y => { y with
    refClosing := true, awaitStep := false, startTick := some x.start, startS := x.s, startNs := x.start * 125000 }
  if s.hasAngle d then
    (if x.start ≤ s.tick + 1 then (s.modCyc d fun y => { y with startTick := none }).beginTravel d.ch false x.s
     else s.holdAt d 0)
  else (s.modCyc d fun y => { y with aligning := true }).request d.ch .align 0

/-- The step of a close that retracts first starts as the close is accepted (R190); none where the Governor refuses it. A step that is
already retracting needs no start. DEDUCED: a step in STEP_FAULT does not come in by itself, so a closing start that has to wait for it
cannot be granted and the close is not accepted; a close that needs no start is (log 24). -/
def State.retractWith (s : State) (d : Door) : Option State :=
  let st := s.cyc[d.1].state
  if s.cyc[d.1].step == .fault && st != .unlocking && st != .closedUnlocked then none
  else if s.stepMay d false then
    match s.plan d.step false with
    | some (s', x) => some (s'.stepGranted d false x)
    | none => none
  else some s

/-- A close that has no code against it (Table 6-3). Where its step retracts first, the start of the step is planned with it, and the
closing start once the step is in (R190). DEDUCED: the acceptance of such a close states no start tick, which is not granted yet, and its
delay field is 0 (log 24). -/
def State.acceptClose (s : State) (d : Door) (src : CmdSrc) : State × Verdict :=
  let st := s.cyc[d.1].state
  let first := s.mustRetract d
  match if first then s.retractWith d else some s with
  | none => (s, { code := 0x04 })
  | some s =>
    if st = .unlocking then
      let s := (s.releaseGov d.ch).closeAccepted d src
      (if s.enc[d.ch.1].ref && s.closedStill d then (s.lockStill d).standStillCheck d.ch else s.lockStill d, {})
    else if st = .closedUnlocked then (((s.closeAccepted d src).newAttempts d).lockRetry d, {})
    else if st = .unreferenced then
      (if first then
        (((s.beginCycle d true).closeAccepted d src).modCyc d fun y => { y with refClosing := true, refReopen := none, awaitStep := true }, {})
      else match s.plan d.ch false with
        | none => (s, { code := 0x04 })
        | some (s', x) =>
          ((((s'.beginCycle d true).closeAccepted d src).modCyc d fun y => { y with refReopen := none }).startRefClose d x,
            { delay := s'.delayMs x }))
    else if first then ((s.closeAccepted d src).awaitRetract d, {})
    else match s.plan d.ch false with
      | none => (s, { code := 0x04 })
      | some (s', x) => ((s'.closeAccepted d src).enterClosing d x, { delay := s'.delayMs x })

/-- An open that has no code against it (Table 6-3). -/
def State.acceptOpen (s : State) (d : Door) (src : CmdSrc) : State × Verdict :=
  let accept := fun (s : State) => s.modCyc d fun y => { y with closeCmd := false, awaitStep := false }
  let note := fun (s : State) (x : Reservation) => s.modRec d fun c => { c with
    openSrc := CmdSrc.code src, stretchOpen := stretch8 x.s, delayOpen := s.delayMs x / 20 }
  if s.cyc[d.1].state = .reversing then
    let s := (accept s).modRec d fun c => { c with openSrc := CmdSrc.code src }
    ((s.modCyc d fun y => { y with openWanted := true }).extendReverse d, {})
  else match s.plan d.ch true with
    | none => (s, { code := 0x04 })
    | some (s', x) =>
      match s.cyc[d.1].state with
      | .released => ((note (accept (s'.beginCycle d false)) x).enterUnlocking d x, { delay := s'.delayMs x })
      | .closedUnlocked => ((note (accept s') x).enterUnlocking d x, { delay := s'.delayMs x })
      | _ => ((note (accept s') x).enterOpening d x, { delay := s'.delayMs x })

/-- Count a refusal per code 0x20-0x33 (R164); a refusal of a field input or a train line also raises event index 1. -/
def State.refuse (s : State) (d : Door) (src : CmdSrc) (code : Nat) : State :=
  let s := if 0x20 ≤ code ∧ code ≤ 0x33 then s.bump (0x61 + d.1) (code - 0x20 + 12) else s
  match src with
  | .trainLine | .inner | .outer => s.doorEvent d 1 1 code (BitVec.ofNat 32 (CmdSrc.code src)) 0 0
  | _ => s

/-- Source as the record names it: a telegram close under close_source 3 is a telegram with close train line (Table 6-8). -/
def State.closeSrcOf (s : State) (d : Door) (src : CmdSrc) : CmdSrc :=
  if (s.cycCfg d).closeSource = 3 ∧ src = .telegram then .telegramTl else src

/-- Decide a close (R158). -/
def State.decideClose (s : State) (d : Door) (src : CmdSrc) (lineOn : Bool) : State × Verdict :=
  match lowest (s.closeCodes d src lineOn) with
  | some c => (s.refuse d src c, { code := c })
  | none =>
    let r := s.acceptClose d (s.closeSrcOf d src)
    if r.2.code = 0 then r else (r.1.refuse d src r.2.code, r.2)

/-- Decide an open (R159). -/
def State.decideOpen (s : State) (d : Door) (src : CmdSrc) : State × Verdict :=
  match lowest (s.openCodes d src) with
  | some c => (s.refuse d src c, { code := c })
  | none =>
    let r := s.acceptOpen d src
    if r.2.code = 0 then r else (r.1.refuse d src r.2.code, r.2)

/-! ## Door reset (R182, R183, R193) -/

/-- A stopped channel's engine still does not acknowledge (R89). -/
def State.unacked (s : State) (c : Ch) : Bool := s.slot[c.1].stopped && s.slot[c.1].owned

/-- A cause of Table 6-6 is still present: a latched trip, pairs not in their commanded state, an engine stopped or not acknowledging, the
handle. -/
def State.causePresent (s : State) (d : Door) : Bool :=
  s.tripped d || s.unacked d.ch || s.unacked d.step ||
  (s.drv[d.1].isoFaulted && !s.drv[d.1].isoBlocked && s.drv[d.1].pairsSensed != s.drv[d.1].pairsCmd) ||
  s.maint.enginesStopped[d.1] != 0 || s.handleOperated d

/-- A step in STEP_FAULT whose retracted input is active takes STEP_RETRACTED (R193). -/
def State.resetStep (s : State) (d : Door) : State :=
  if s.cyc[d.1].step = .fault ∧ s.stepRetRead d then s.stepRetracted d else s

/-- Code against a door reset (R182, R183; the lowest of those that apply, R163); `vehicle` marks a telegram. -/
def State.resetCode (s : State) (d : Door) (vehicle : Bool) : Option Nat :=
  let y := s.cyc[d.1]
  let stepStuck := s.stepFitted d && y.step == .fault
  match y.state with
  | .service => if vehicle then some 0x25 else if !stepStuck then some 0x27 else if s.stepRetRead d then none else some 0x2E
  | .closedUnlocked => none
  | .faultHeld => if s.causePresent d then some 0x2E else if s.drv[d.1].isoBlocked || s.partnerIso then some 0x2F else none
  | .unreferenced => if stepStuck && !s.stepRetRead d then some 0x2E else none
  | .isolated => if !stepStuck then some 0x22 else if s.stepRetRead d then none else some 0x2E
  | _ => if !stepStuck then some 0x27 else if s.stepRetRead d then none else some 0x2E

/-- Decide a door reset (R183). -/
def State.decideReset (s : State) (d : Door) (vehicle : Bool) : State × Verdict :=
  match s.resetCode d vehicle with
  | some c => (s.refuse d (if vehicle then .telegram else .tally) c, { code := c })
  | none =>
    let s := match s.cyc[d.1].state with
      | .closedUnlocked => (s.newAttempts d).lockRetry d
      | .faultHeld => s.leaveFault d
      | _ => s
    let s := s.resetStep d
    (s.doorEvent d 2 1 0 (BitVec.ofNat 32 s.cyc[d.1].state.code) 0 0, {})

/-! ## Answers to door command telegrams (R286, R288) -/

/-- A doorway's commands of the last telegram have been decided. -/
def State.clearMasks (s : State) (d : Door) : State :=
  let off := ~~~((1#16) <<< d.1)
  { s with tele := { s.tele with close := s.tele.close &&& off, open_ := s.tele.open_ &&& off, reset := s.tele.reset &&& off } }

/-- Both buses are permanently listen-only (R275). -/
def State.busesMute (s : State) : Bool := s.cfg.bus.bus[0].listenOnly && s.cfg.bus.bus[1].listenOnly

/-- Fill a doorway's place in the answer under construction and clear its mask bits. -/
def State.fillAnswer (s : State) (d : Door) (v : Verdict) : State :=
  let s := s.clearMasks d
  match s.tele.ans with
  | none => s
  | some a =>
    let a := { a with
      open_ := a.open_ &&& ~~~((1#16) <<< d.1), answered := a.answered ||| ((1#16) <<< d.1)
      reason := a.reason.set d.1 v.code, delay := a.delay.set d.1 v.delay }
    { s with
      tele := { s.tele with ans := some a }
      maint := { s.maint with reason := v.code } }

/-- Bytes of a command answer (Table 9-7). -/
def Answer.bytes (a : Answer) (seq : BitVec 16) : List Byte :=
  toBe 2 seq.toNat ++ toBe 1 a.kind ++ toBe 1 a.cmdNo.toNat ++ toBe 2 (if a.kind = 1 then a.answered.toNat else 0) ++
  (a.reason.toList.flatMap (toBe 1)) ++ (a.delay.toList.flatMap (toBe 2)) ++ List.replicate 10 0

/-- An object is withdrawn: it sets DROP, is counted and is a Notice event (R277). -/
def State.dropObject (s : State) (b : BusId) (k : Fin 128) : State :=
  let o := s.bus[b.1].hopper[k.1]
  let s := s.modBus b fun x => { x with drop := true, hopper := x.hopper.set k.1 { o with txPend := false } }
  (s.bump (0x81 + b.1) 9).event 0x37A 2 (b.1 + 1) (o.id.setWidth 32) (BitVec.ofNat 32 k.1) 0

/-- What becomes of an object that is still pending when the next frame enters it: a page counts as superseded (R291), another frame as
withdrawn (log 34). -/
def State.vacate (s : State) (b : BusId) (k : Fin 128) : State :=
  if !s.bus[b.1].hopper[k.1].txPend then s
  else if 20 ≤ k.1 then s.bump (0x81 + b.1) 8 else s.dropObject b k

/-- Load a transmit object on a bus with a deadline (R274). Hopper stamps the moment of loading. -/
def State.loadObject (s : State) (b : BusId) (k : Fin 128) (id : Nat) (fd brs : Bool) (data : List Byte) (dl : Option Nat) : State :=
  (s.vacate b k).modBus b fun x => { x with hopper := x.hopper.set k.1 {
    id := BitVec.ofNat 11 id, fd := fd, brs := brs, data := data, txPend := true, time := s.mill, deadline := dl } }

/-- An object has a frame waiting in the message area (R316). -/
def State.queued (s : State) (k : Fin 128) : Bool :=
  (s.pair.msgs ++ s.pair.sent.map Prod.snd).any fun x => match x.msg with | .busFrame _ _ _ _ o _ => o == k.1 | _ => false

/-- First object of a group that is pending on none of some buses, or the group's first. -/
def State.freeObject (s : State) (l : List BusId) (g : Nat × Nat) : Fin 128 :=
  match (List.finRange 128).find? fun k =>
      g.1 ≤ k.1 && k.1 < g.1 + g.2 && (l.all fun b => !s.bus[b.1].hopper[k.1].txPend) && !s.queued k with
  | some k => k
  | none => ⟨g.1 % 128, Nat.mod_lt _ (by decide)⟩

/-- Load a frame on the buses of a mask, in the same object on each (R316). -/
def State.loadFrame (s : State) (mask : BitVec 2) (fd brs : Bool) (k : Fin 128) (id : Nat) (data : List Byte) (dl : Option Nat) : State :=
  (List.finRange 2).foldl (fun (s : State) b =>
    if mask.getLsbD b.1 && !s.cfg.bus.bus[b.1].listenOnly then s.loadObject b k id fd brs data dl else s) s

/-- A page that waits in the message area is replaced by the next one, and counted on both buses as superseded (R291). -/
def State.replaceMsg (s : State) (k : Fin 128) : State :=
  let old := fun (x : OutMsg) => match x.msg with | .busFrame _ _ _ _ o _ => 20 ≤ o && o == k.1 | _ => false
  if s.pair.msgs.any old then
    let s := { s with pair := { s.pair with msgs := s.pair.msgs.filter fun x => !old x } }
    (s.bump 0x81 8).bump 0x82 8
  else s

/-- Send a frame on both buses from a group of objects: in a formed pair it first goes into the message area (R316), else into Hopper at
once. -/
def State.sendFrame (s : State) (g : Nat × Nat) (id : Nat) (data : List Byte) (dl : Option Nat) : State :=
  let k := s.freeObject [0, 1] g
  if s.pair.formed && s.pair.token then
    (s.replaceMsg k).putMsg (CesilMsg.busFrame 3 true true (BitVec.ofNat 11 id) k.1 data) dl
  else s.loadFrame 3 true true k id data dl

/-- The answer is complete: it is loaded on both buses, to be withdrawn once 100 ms old (R274, R288). -/
def State.finishAnswer (s : State) : State :=
  match s.tele.ans with
  | none => s
  | some a =>
    if a.open_ ≠ 0 then s
    else
      let seq := s.tele.ansSeq
      let s := { s with tele := { s.tele with ans := none, ansSeq := seq + 1 } }
      s.sendFrame (16, 4) (0x100 + s.cfg.bus.node) (a.bytes seq) (some (s.ns + ms 100))

/-! ## The decisions of a mill tick (R76, R157, R162)

A command waits from its arrival to the end of the mill tick in which it arrives; every item of that tick has then been taken, and what
the decisions ask of Millstone is latched at the next phase 0. -/

/-- Bit of a doorway in the mask of a kind of command of the last accepted telegram (R286). -/
def State.maskBit (s : State) (k : CmdKind) (d : Door) : Bool :=
  match k with
  | .reset => s.tele.reset.getLsbD d.1
  | .close => s.tele.close.getLsbD d.1
  | .open_ => s.tele.open_.getLsbD d.1
  | .leave => false

/-- More than one of close, open and reset is set for a doorway. -/
def State.masksClash (s : State) (d : Door) : Bool :=
  1 < ([CmdKind.reset, .close, .open_].filter fun k => s.maskBit k d).length

/-- A command comes from the buses. -/
def DoorCmd.bus (c : DoorCmd) : Bool := c.src == .telegram || c.src == .telegramTl

/-- A command of a telegram that no mask bit of an accepted telegram carries any more is none (R286). -/
def State.carried (s : State) (c : DoorCmd) : Bool := !c.bus || s.maskBit c.kind c.door

/-- General codes against a command of any kind (R20, R286): two commands of one telegram clash, the doorway is not fitted, Sluice holds
the safe state, or the module does not drive (to a session 0x69, R369). -/
def State.generalCode (s : State) (c : DoorCmd) : Option Nat :=
  if c.bus && s.masksClash c.door then some 0x01
  else if !s.fitted c.door then some 0x02
  else if s.sluice.safe then some 0x08
  else if !s.pair.token then some (if c.msg.isSome then 0x69 else 0x03)
  else none

/-- SERVICE_LEAVE is decided (R184): the leaf is driven to closed stand-still under the closing profile, then locked and proven. Its motion
is planned as every travel is, and held until its start tick (R15, R77). -/
def State.decideLeave (s : State) (d : Door) : State × Verdict :=
  if s.cyc[d.1].state ≠ .service then (s, { code := 0x60 })
  else if !s.closedRead d then (s.refuse d .tally 0x31, { code := 0x31 })
  else match s.plan d.ch false with
    | none => (s, { code := 0x04 })
    | some (s, x) =>
      let soon := decide (x.start ≤ s.tick + 1)
      let s := ((s.endRun d).newAttempts d).modCyc d fun y => { y with
        svc := .leaving, lockPhase := .closing, backing := false, backDl := none, backTest := none, unlockDl := none
        startS := x.s, startTick := if soon then none else some x.start }
      let s := if soon then s.beginTravel d.ch false x.s else s.holdAt d 0
      (s.outcome .service 0, { delay := s.delayMs x })

/-- A command is decided with the state as it stands. -/
def State.judge (s : State) (c : DoorCmd) : State × Verdict :=
  match s.generalCode c with
  | some k => (if s.fitted c.door then s.refuse c.door c.src k else s, { code := k })
  | none =>
    match c.kind with
    | .reset => s.decideReset c.door c.bus
    | .close => s.decideClose c.door c.src c.lineOn
    | .open_ => s.decideOpen c.door c.src
    | .leave => s.decideLeave c.door

/-- Tally command of a session's door command (Table 12-12). -/
def DoorCmd.code (c : DoorCmd) : Nat := match c.kind with | .leave => 0x20 | _ => 0x23

/-- A command is decided and answered (R19): in the telegram's answer, or to its session. -/
def State.decideCmd (s : State) (c : DoorCmd) : State :=
  if !s.carried c then s
  else
    let r := s.judge c
    match c.msg with
    | some m => r.1.answer c.code m r.2.code
    | none =>
      let s := { r.1 with maint := { r.1.maint with reason := r.2.code } }
      if c.bus then (s.fillAnswer c.door r.2).finishAnswer else s

/-- The awaited start of an accepted close is planned: a closing motion whose step is in, a reclose (R171), or a referencing close. A
start the Governor refuses ends the close command; DEDUCED: a doorway in CLOSING then takes OPEN, partly open, also when it came from
REOPEN_HOLD, since no row of Table 6-3 leads back (log 24). -/
def State.planAgain (s : State) (d : Door) : State :=
  if !s.cyc[d.1].planWant then s
  else
    let s := s.modCyc d fun y => { y with planWant := false }
    match s.cyc[d.1].state with
    | .reopenHold =>
      if s.mustRetract d then
        (if s.cyc[d.1].step == .fault then s.closeLost d else (s.awaitRetract d).wantStep d false)
      else match s.plan d.ch false with
        | some (s', x) => s'.enterClosing d x
        | none => s.closeLost d
    | .closing =>
      if !s.cyc[d.1].awaitStep then s
      else match s.plan d.ch false with
        | some (s', x) => s'.enterClosing d x
        | none => (s.closeLost d).openReached d true
    | .unreferenced =>
      if !s.cyc[d.1].awaitStep then s
      else match s.plan d.ch false with
        | some (s', x) => s'.startRefClose d x
        | none => (s.closeLost d).modCyc d fun y => { y with refClosing := false }
    | _ => s

/-- A step start is planned (R76); one that the Governor refuses does not happen, and a close that waits for it is lost. -/
def State.stepStart (s : State) (d : Door) : State :=
  match s.cyc[d.1].stepWant with
  | none => s
  | some extend =>
    let s := s.modCyc d fun y => { y with stepWant := none }
    if !s.stepMay d extend then s
    else match s.plan d.step extend with
      | some (s', x) => s'.stepGranted d extend x
      | none =>
        if s.cyc[d.1].awaitStep && !extend then
          (if s.cyc[d.1].state == .closing then (s.closeLost d).openReached d true
           else (s.closeLost d).modCyc d fun y => { y with refClosing := false })
        else s

/-- A close that starts with a step motion is decided with the step starts (R76, R190). -/
def State.isLate (s : State) (c : DoorCmd) : Bool :=
  c.kind == .close && s.mustRetract c.door && s.carried c && (s.generalCode c).isNone && (s.closeCodes c.door c.src c.lineOn).isEmpty

/-- Decide a doorway's commands of one kind, in order of arrival, up to a late close: then that close and what follows stay. -/
def State.decideList (s : State) : List DoorCmd → State × List DoorCmd
  | [] => (s, [])
  | c :: r => if s.isLate c then (s, c :: r) else (s.decideCmd c).decideList r

/-- A doorway's commands in the order of R162: resets, closes, opens; then a service leave, which R162 does not name. -/
def doorCmds (l : List DoorCmd) (d : Door) : List DoorCmd :=
  let of := fun (k : CmdKind) => l.filter fun c => c.door == d && c.kind == k
  of .reset ++ of .close ++ of .open_ ++ of .leave

/-- The doors of a tick, in doorway order (R76): awaited starts, then the commands; a late close leaves its doorway's rest waiting. -/
def State.decideDoor (s : State) (l : List DoorCmd) (d : Door) : State :=
  let r := (s.planAgain d).decideList (doorCmds l d)
  { r.1 with waiting := r.1.waiting ++ r.2 }

/-- The steps of a tick, in doorway order: wanted starts, then the late commands. -/
def State.decideStep (s : State) (l : List DoorCmd) (d : Door) : State :=
  let s := (doorCmds l d).foldl (fun (s : State) c => s.decideCmd c) (s.stepStart d)
  s.stepStart d

/-- Commands that wait when the module stops deciding (R19, R312, R369): a session's are refused 0x69, and those of the buses are for the
module that now drives. -/
def State.turnAway (s : State) : State :=
  s.waiting.foldl (fun (s : State) c => match c.msg with | some m => s.answer c.code m 0x69 | none => s) { s with waiting := [] }

/-- The end of a mill tick: every start and command that has reached Miller in it is decided, then the changes of release are taken
(R162). A standby decides nothing (R312). -/
def State.decideTick (s : State) : State :=
  if !s.millerRuns then { s with waiting := [] }
  else if !s.decides then s.turnAway
  else
    let l := s.waiting
    let s := { s with waiting := [] }.eachDoor fun s d => s.decideDoor l d
    let late := s.waiting
    (({ s with waiting := [] }).eachDoor fun s d => s.decideStep late d).eachDoor State.releaseItem

/-- The close train line is no command of this doorway under close_source 0 and 3 (R158). -/
def State.lineIgnored (s : State) (d : Door) (src : CmdSrc) : Bool :=
  src == .trainLine && ((s.cycCfg d).closeSource == 0 || (s.cycCfg d).closeSource == 3)

/-- A command of a field input or a train line is an edge of its input: one that the input has not shown since its value became valid is
none, and neither is one of an input declared general (R239, R240). -/
def State.edgeOf (s : State) (d : Door) (src : CmdSrc) : Bool :=
  match src with
  | .inner => !s.cfg.io.fi[(d.fi 8).1].general && s.io.fi[(d.fi 8).1].edge
  | .outer => !s.cfg.io.fi[(d.fi 9).1].general && s.io.fi[(d.fi 9).1].edge
  | .trainLine => (List.finRange 16).any fun n => s.cfg.io.tl[n.1].function == 3 && s.io.tl[n.1].edge
  | .auto => false
  | _ => true

/-- The same edge has already been taken for the doorway in this tick. -/
def State.taken (s : State) (c : DoorCmd) : Bool :=
  (c.src == .inner || c.src == .outer || c.src == .trainLine) &&
  s.waiting.any fun w => w.door == c.door && w.kind == c.kind && w.src == c.src

/-- A door command arrives: from the buses only as a telegram that was accepted carries it, from an input of a fitted doorway only as its
edge. With both buses listen-only, bus commands do nothing (R275). -/
def State.arrive (s : State) (c : DoorCmd) : State :=
  let c := { c with lineOn := s.tlOn 3 }
  if !s.millerRuns || !s.edgeOf c.door c.src || !s.carried c || (c.bus && s.busesMute) || (!c.bus && !s.fitted c.door) || s.taken c then s
  else s.addCmd c

/-- CLOSE_COMMAND (R157, R158). -/
def execCloseCommand (t : Nat) (d : Door) (src : CmdSrc) (s : State) : Out :=
  let s := s.at t
  if s.lineIgnored d src then .next s else .next (s.arrive { door := d, kind := .close, src := src })

/-- OPEN_COMMAND (R157, R159). -/
def execOpenCommand (t : Nat) (d : Door) (src : CmdSrc) (s : State) : Out :=
  .next ((s.at t).arrive { door := d, kind := .open_, src := src })

/-- DOOR_RESET (R182, R183), by telegram or by a session that holds the doorway's token; a standby refuses it 0x69 (R369). -/
def execDoorReset (t : Nat) (d : Door) (src : ResetSrc) (s : State) : Out :=
  let s := s.at t
  match src with
  | .telegram => .next (s.arrive { door := d, kind := .reset, src := .telegram })
  | .tally m => .next (s.tallyDoor 0x23 m d fun s =>
      if !s.pair.token then s.reply m 0x69 else s.addCmd { door := d, kind := .reset, src := .tally, msg := some m })

/-! ## The timers' commands -/

/-- GOVERNOR_START_TICK (R22, R78): the tick that an acceptance stated comes with the next latch, or has come. A step without a reference
does not extend (R38). -/
def execGovernorStartTick (t : Nat) (c : Ch) (s : State) : Out :=
  let s := s.at t
  let d := c.door
  if !s.decides then .next s
  else
  let y := s.cyc[d.1]
  let reached := fun (x : Option Nat) => match x with | some k => decide (k ≤ s.tick + 1) | none => false
  if c.isStep then
    (if !reached y.stepStart then .next s
     else
       let s := s.modCyc d fun y => { y with stepStart := none }
       match y.step with
       | .extending => if s.enc[c.1].ref then .next (s.beginTravel c true s.slot[c.1].stretch) else .next s
       | .retracting => .next (s.beginTravel c false s.slot[c.1].stretch)
       | _ => .next s)
  else if !reached y.startTick then .next s
  else
    let s := s.modCyc d fun y => { y with startTick := none }
    match y.state with
    | .unlocking => .next (s.tryOpening d)
    | .opening => .next (s.startOpening d)
    | .closing => if y.restFirst then .next s else .next (s.startClosing d)
    | .unreferenced => if y.refClosing && !y.aligning then .next (s.beginTravel d.ch false y.startS) else .next s
    | .service => if y.svc == .leaving then .next (s.beginTravel d.ch false y.startS) else .next s
    | _ => .next s

/-- UNLOCK_TIMEOUT (R165): solenoid off, the reservation released, FAULT_HELD with cause 7; also for the unlock before a service
jog. -/
def execUnlockTimeout (t : Nat) (d : Door) (s : State) : Out :=
  let s := s.at t
  let y := s.cyc[d.1]
  if s.decides && due y.unlockDl s.ns && (y.state == .unlocking || y.state == .service) then
    let s := (s.solOff d).releaseGov d.ch
    .next ((s.doorEvent d 6 4 0 (BitVec.ofNat 32 (s.cycCfg d).unlockTimeoutMs) 0 0).faultHeld d 7)
  else .next s

/-- OPEN_TIMEOUT (R166). -/
def execOpenTimeout (t : Nat) (d : Door) (s : State) : Out :=
  let s := s.at t
  if s.decides && due s.cyc[d.1].openDl s.ns && s.cyc[d.1].state == .opening then
    .next ((s.doorEvent d 7 4 0 s.enc[d.ch.1].strokeWord 0 0).openReached d true)
  else .next s

/-- CLOSE_TIMEOUT (R168). -/
def execCloseTimeout (t : Nat) (d : Door) (s : State) : Out :=
  let s := s.at t
  if s.decides && due s.cyc[d.1].closeDl s.ns && s.cyc[d.1].state == .closing then
    .next (((s.doorEvent d 7 4 1 s.enc[d.ch.1].strokeWord 0 0).closeLost d).openReached d true)
  else .next s

/-- REOPEN_HOLD_EXPIRY (R171): the reclose is planned as a new start; at the limit the close command ends with a Notice. -/
def execReopenHoldExpiry (t : Nat) (d : Door) (s : State) : Out :=
  let s := s.at t
  let y := s.cyc[d.1]
  if !(s.decides && due y.holdDl s.ns && y.state == .reopenHold) then .next s
  else
    let s := s.modCyc d fun y => { y with holdDl := none }
    if !y.closeCmd then .next s
    else if y.reopens < (s.cycCfg d).maxReopens then
      .next (s.modCyc d fun y => { y with planWant := true })
    else .next ((s.closeLost d).doorEvent d 8 2 0 (BitVec.ofNat 32 y.reopens) 0 0)

/-- LOCK_SWITCH_TIMEOUT (R172): the pair does not read locked at the end of the time. -/
def execLockSwitchTimeout (t : Nat) (d : Door) (s : State) : Out :=
  let s := s.at t
  let y := s.cyc[d.1]
  if s.decides && due y.switchDl s.ns && s.isLocking d && !s.lockRead d then .next (s.attemptFailed d 4) else .next s

/-- LOCK_SETTLE_COMPLETE (R172, R184): PROVING. -/
def execLockSettleComplete (t : Nat) (d : Door) (s : State) : Out :=
  let s := s.at t
  if s.decides && due s.cyc[d.1].settleDl s.ns && s.isLocking d && s.lockRead d then
    (if s.learning d then .next ((s.modCyc d fun y => { y with svc := .idle, settleDl := none, switchDl := none }).startProof d)
     else .next (s.enterProving d))
  else .next s

/-- BACKDRIVE_CHECK_END (R173, R176): the duration from the latch that entered Back-drive is over. -/
def execBackdriveCheckEnd (t : Nat) (d : Door) (s : State) : Out :=
  let s := s.at t
  let y := s.cyc[d.1]
  if !s.decides || !due y.backDl s.ns then .next s
  else
    let ok := y.excursion ≤ (s.cycCfg d).backdriveMax && !y.backBad && s.lockRead d
    match y.state with
    | .proving => .next (s.judgeProof d (if ok then 1 else 2))
    | .service =>
      if s.learning d then .next (s.judgeProof d (if ok then 1 else 2))
      else
      .next (s.backTestEnds d ok)
    | _ => .next s

/-- LOCK_PULL_COMPLETE (R156, R174): 100 % for pull_ms, then the hold duty, by the LOCK engine while it runs (R382); a retry at closed
stand-still is switched off by the Miller that decides (R312). -/
def execLockPullComplete (t : Nat) (d : Door) (s : State) : Out :=
  let s := s.at t
  let y := s.cyc[d.1]
  match y.sol with
  | .pull since =>
    if since + ms (s.cycCfg d).pullMs ≤ s.ns && s.engineRuns d 4 then
      (if s.isLocking d ∧ y.lockPhase = .pulling then (if s.decides then .next (s.lockOff d) else .next s) else .next (s.holdSol d))
    else .next s
  | _ => .next s

/-- CYCLE_RECORD_TIMEOUT (R194): 2 s after CLOSED_LOCKED without loop confirmation. -/
def execCycleRecordTimeout (t : Nat) (d : Door) (s : State) : Out :=
  let s := s.at t
  if s.decides && due s.cyc[d.1].recordDl s.ns then .next (s.writeEnding d false) else .next s

end Sys2Proof.Machine
end

