-- ==== Sys2Proof/Machine/Drive.lean ====
section
/-!
DEFINITION. Sys2Proof/Machine/Drive.lean: door and step bridges, sampling, isolation pairs and braking, Weir trips and the DV supplies
(03_drive_stages). The Governor has its own file.
-/
namespace Sys2Proof.Machine

/-! ## CUR: hysteretic switching (R51-R54) -/

/-- References in force at a moment: a period's outputs reach CUR at its phase 110 µs (R10). -/
def Drv.refsNow (x : Drv) (ns : Nat) : Vector Int 3 := if x.refsAt ≤ ns then x.refs else x.refsPrev

/-- What the window comparator commands at a current (R52): high below the lower threshold, low above the upper one. -/
def windowLevel (ref ma : Int) (band : Nat) : Option Bool :=
  if 2 * ma < 2 * ref - band then some true else if 2 * ref + band < 2 * ma then some false else none

/-- WINDOW_COMPARATOR_CROSSING (R52, R53): the comparator's reading changes, and the leg follows unless a dwell runs. -/
def execWindowComparatorCrossing (t : Nat) (d : Door) (leg : Fin 3) (ma : Int) (s : State) : Out :=
  let s := (s.at t).outputsDue d
  let level := windowLevel (s.drv[d.1].refsNow s.ns)[leg.1] ma s.cfg.door[d.1].drive.bandMa
  .next ((s.modDrv d fun x => { x with legs := x.legs.set leg.1 { x.legs[leg.1] with cmp := level } }).followWindow d leg)

/-- A leg whose dwell has ended may switch again (R52, R53): it follows its comparator, or turns on its low side for the brake that waits
for it (R67). -/
def State.dwellEnd (s : State) (d : Door) (leg : Fin 3) : State :=
  let g := s.cfg.door[d.1].drive
  let s := s.modDrv d fun x => { x with legs := x.legs.set leg.1 { x.legs[leg.1] with dwell := none } }
  if s.drv[d.1].lowBrk && s.drv[d.1].lowOff.isNone then
    s.modDrv d fun x => { x with legs := x.legs.set leg.1 (x.legs[leg.1].lowOn s.ns g.dwellNs g.deadNs) }
  else s.followWindow d leg

/-- CUR_DWELL_END (R52, R53, R67): a leg's dwell ends; low sides that were off for one dwell turn on again. -/
def execCurDwellEnd (t : Nat) (d : Door) (leg : Fin 3) (s : State) : Out :=
  let s := (s.at t).outputsDue d
  let g := s.cfg.door[d.1].drive
  let s := if due s.drv[d.1].legs[leg.1].dwell s.ns then s.dwellEnd d leg else s
  .next (s.modDrv d fun x =>
    if due x.lowOff s.ns then
      { x with lowOff := none, legs := if x.lowBrk then x.legs.map fun l => l.lowOn s.ns g.dwellNs g.deadNs else x.legs }
    else x)

/-- DEAD_TIME_END (R54, R63, R71): the opposite switch turns on; a switch of a tripped or stopped bridge does not, since the trip
has ended its dead time. -/
def execDeadTimeEnd (t : Nat) (d : Door) (leg : LegId) (s : State) : Out :=
  let s := (s.at t).outputsDue d
  match leg with
  | .door l => .next (s.modDrv d fun x =>
      let y := x.legs[l.1]
      if due y.dead s.ns then
        { x with legs := x.legs.set l.1 { y with dead := none, on := x.bridgeOn && (!x.lowBrk || (!y.high && x.lowOff.isNone)) } }
      else x)
  | .step => .next (s.modDrv d fun x => if due x.stepDead s.ns then { x with stepDead := none } else x)

/-! ## PWM-S (R58-R63) -/

/-- Commanded on-time in clocks of 5 ns (R59). -/
def onClocks (duty : BitVec 12) : Nat := duty.toNat * 625 / 256

/-- Shape of a DRIVE period and whether it is dropped (R59-R61). `thr` is minimum pulse plus dead time in clocks, `run` the periods
without a low-side pulse before it. A duty of 0 commands no on-time, so its period is off without a drop (log 30). -/
def pwmShape (duty : BitVec 12) (dead thr run : Nat) : PwmShape × Bool :=
  let c := onClocks duty
  if 7 ≤ run then (.forcedOff thr, false)
  else if c < thr then (.off, c != 0)
  else if 10000 - c < thr then (.fullOn, false)
  else (.pulse dead c (c + dead), false)

/-- The step bridge may switch: no trip, no DV stop, and the channel's doorway not stopped (R64, R73, R74, R85). -/
def State.stepBridgeOn (s : State) (d : Door) : Bool :=
  s.stepFitted d && s.pair.token && !s.pair.releasing && s.drv[d.1].sweir.trip.isNone && !s.drv[d.1].dvStopped && !s.doorStopped d &&
  !s.slot[d.step.1].stopped &&
  s.maint.configured && !s.sluice.safe

/-- Command word that the copy at a period start finds in the shadow register: a write in the same 5 ns clock counts as after it
(R62). -/
def Drv.shadowNow (x : Drv) (ns : Nat) : PwmWord := if x.shadowAt + 5 ≤ ns then x.shadow else x.shadowPrev

/-- PWM_PERIOD_START (R59-R63): only where the mill clock in ns less the phase offset is a multiple of 50,000. A period in COAST or
with the bridge off has no low-side pulse, so it counts towards the seven of R61 (DEDUCED, log 30). -/
def execPwmPeriodStart (t : Nat) (d : Door) (s : State) : Out :=
  let s := s.at t
  let g := s.cfg.step[d.1].drive
  let x := s.drv[d.1]
  if (s.ns + 50000 - g.phaseOffsetNs % 50000) % 50000 ≠ 0 || !s.stepFitted d || !s.engineRuns d 3 then .next s
  else
    let w := x.shadowNow s.ns
    let dead := if w.dir ≠ x.active.dir ∨ w.mode ≠ x.active.mode then some (s.ns + g.deadNs) else none
    let thr := (g.minPulseNs + g.deadNs) / 5
    if !s.stepBridgeOn d then
      .next (s.modDrv d fun x => { x with active := w, shape := .coast, fullRun := x.fullRun + 1, stepDead := none })
    else match w.mode with
      | .coast => .next (s.modDrv d fun x => { x with active := w, shape := .coast, fullRun := x.fullRun + 1, stepDead := dead })
      | .brake => .next (s.modDrv d fun x => { x with active := w, shape := .brake, fullRun := 0, stepDead := dead })
      | .drive =>
        let r := pwmShape w.duty (g.deadNs / 5) thr x.fullRun
        let full := r.1 == .fullOn
        let forced := match r.1 with | .forcedOff _ => true | _ => false
        let s := s.modDrv d fun x => { x with
          active := w, shape := r.1, stepDead := dead, fullRun := if full then x.fullRun + 1 else 0
          drop := x.drop || r.2, fullOn := x.fullOn || full }
        .next (((s.bumpIf r.2 (0x21 + d.1) 3).bumpIf full (0x21 + d.1) 4).bumpIf forced (0x21 + d.1) 5)

/-! ## Sampling (R55-R57) -/

/-- A trigger while a sequence runs is dropped, counted and shown (R56). -/
def State.triggerOverrun (s : State) (d : Door) : State :=
  (s.modDrv d fun x => { x with adcOvr := true }).bump (0x21 + d.1) 1

/-- The bank is converting. -/
def State.bankBusy (s : State) (d : Door) : Bool := match s.drv[d.1].busy with | some e => decide (s.ns < e) | none => false

/-- Keep the last five conversions. -/
def Drv.pushSample (x : Drv) (v : Option Sample) : Drv := { x with bank := (v :: x.bank).take 5 }

/-- ADC_TRIGGER (R55, R56): every 5 µs on the mill clock; a sequence takes 3.2 µs. -/
def execAdcTrigger (t : Nat) (d : Door) (s : State) : Out :=
  let s := s.at t
  if s.ns % 5000 ≠ 0 || !s.fitted d then .next s
  else if s.bankBusy d then .next ((s.triggerOverrun d).modDrv d fun x => x.pushSample none)
  else .next (s.modDrv d fun x => { x with busy := some (s.ns + 3200), busyCap := false })

/-- Single-conversion codes (0x0D-0x0F) a capture asks for. -/
def InjectReq.singles (r : InjectReq) : List (Fin 3) :=
  (List.finRange 3).filter fun k => r.codes.toList.any fun c => c.toNat == 0x0D + k.1

/-- The period in progress is one the capture has recorded (R113). -/
def State.sampled (s : State) : Bool := s.capture.sampleTick == some s.tick && !s.capture.incomplete

/-- CAP_CONVERSION_TRIGGER (R56, R113): at cap_phase, 20 ns units, of each recorded period; 0.64 µs per code. A stopped CAP engine
triggers nothing (R382). -/
def execCapConversionTrigger (t : Nat) (s : State) : Out :=
  let s := s.at t
  match s.capture.req with
  | none => .next s
  | some r =>
    let n := (InjectReq.singles r).length
    if !s.sampled || n = 0 || !s.engineRuns r.door 11 || s.ns % 125000 ≠ 20 * r.capPhase then .next s
    else if s.bankBusy r.door then .next (s.triggerOverrun r.door)
    else
      let s := { s with capture := { s.capture with capAt := s.capture.samples.length } }
      .next (s.modDrv r.door fun x => { x with busy := some (s.ns + 640 * n), busyCap := true })

/-- A current conversion, none at a full-scale code (R57). -/
def inRange (full v : Int) : Option Int := if v ≤ -full || full ≤ v then none else some v

/-- Count range faults and show them. -/
def State.rangeFaults (s : State) (d : Door) (n : Nat) : State :=
  if n = 0 then s
  else (List.replicate n ()).foldl (fun s _ => s.bump (0x21 + d.1) 2) (s.modDrv d fun x => { x with range := true })

/-- Change the k-th recorded entry, counted from 1, of a buffer that holds the newest first. -/
def patchAt {α : Type} (f : α → α) (k : Nat) : List α → List α
  | [] => []
  | e :: r => if k = r.length + 1 then f e :: r else e :: patchAt f k r

/-- The single conversions of a period enter its capture entry; one lost to a range fault stays 0x8000 (R113). -/
def patchEntry (r : InjectReq) (l : List (Fin 3 × Option Int)) (e : Vector (BitVec 16) 4) : Vector (BitVec 16) 4 :=
  Vector.ofFn fun k => match l.find? fun p => (r.codes[k.1]).toNat == 0x0D + p.1.1 with
    | some (_, some v) => BitVec.ofInt 16 v
    | _ => e[k.1]

/-- ADC_SEQUENCE_COMPLETE (R55, R57, R113): the running sequence, periodic or CAP, delivers its values. -/
def execAdcSequenceComplete (t : Nat) (d : Door) (v : AdcResult) (s : State) : Out :=
  let s := s.at t
  if !due s.drv[d.1].busy s.ns then .next s
  else match v with
    | .periodic ia ib ic istep dv =>
      if s.drv[d.1].busyCap then .next s
      else
        let p := [inRange 12000 ia, inRange 12000 ib, inRange 12000 ic, inRange 6000 istep]
        let x : Sample := { ia := inRange 12000 ia, ib := inRange 12000 ib, ic := inRange 12000 ic, istep := inRange 6000 istep }
        let s := { s with sup := s.sup.set (supplyOf d).1 { s.sup[(supplyOf d).1] with low := decide (dv < 600) } (supplyOf d).2 }
        .next ((s.modDrv d fun y => { y with busy := none, dv := dv }.pushSample (some x)).rangeFaults d
          (p.filter Option.isNone).length)
    | .capture values =>
      if !s.drv[d.1].busyCap then .next s
      else
        let s := s.modDrv d fun y => { y with busy := none, busyCap := false }
        match s.capture.req with
        | none => .next s
        | some r =>
          if r.door ≠ d then .next s
          else
            let l : List (Fin 3 × Option Int) := (InjectReq.singles r).zip (values.map (inRange 12000))
            let s := { s with capture := { s.capture with samples := patchAt (patchEntry r l) s.capture.capAt s.capture.samples } }
            .next (s.rangeFaults d (l.filter fun (p : Fin 3 × Option Int) => p.2.isNone).length)

/-! ## Isolation pairs (R64-R66) -/

/-- Cause 2: conducting while commanded open. A Safety event; the pairs stay blocked until restart; a formed pair records it as
its own event as well, and the module does not take the token (R66, R324). -/
def State.pairConducting (s : State) (d : Door) (phases : BitVec 3) : State :=
  if s.drv[d.1].isoBlocked then s
  else
    let s := s.modDrv d fun x => { x with isoFlt := true, isoBlocked := true, isoFaulted := true, bridgeOn := false, pairsSensed := true }
    let s := (s.bump (0x21 + d.1) 13).doorEvent d 29 5 2 (phases.setWidth 32) 0 0
    let s := if s.pair.formed then s.event 0x3B7 5 0 (word (d.1 + 1)) 0 0 else s
    ({ s with pair := { s.pair with iso := true } } : State).faultHeld d 2

/-- The 20 µs of R66 from the command have passed. -/
def State.pairsLate (s : State) (d : Door) : Bool := decide (s.drv[d.1].pairsAt + 20000 ≤ s.ns)

/-- ISOLATION_PAIR_CONDUCTING (R66). -/
def execIsolationPairConducting (t : Nat) (d : Door) (phases : BitVec 3) (s : State) : Out :=
  let s := s.at t
  if s.drv[d.1].pairsCmd || phases = 0 || !s.pairsLate d then .next s else .next (s.pairConducting d phases)

/-- ISOLATION_PAIR_TIMEOUT (R66): commanded closed and not conducting is a Major fault; commanded open and conducting is cause 2. -/
def execIsolationPairTimeout (t : Nat) (d : Door) (phases : BitVec 3) (s : State) : Out :=
  let s := s.at t
  if phases = 0 || !s.pairsLate d then .next s
  else if !s.drv[d.1].pairsCmd then .next (s.pairConducting d phases)
  else if s.drv[d.1].pairsSensed then .next s
  else
    let s := s.modDrv d fun x => { x with isoFlt := true, isoFaulted := true, bridgeOn := false }
    .next (((s.bump (0x21 + d.1) 13).doorEvent d 29 4 1 (phases.setWidth 32) 0 0).faultHeld d 2)

/-- ISOLATION_PAIRS_SENSED_CLOSED (R65): CUR enables bridge switching, and a leg whose current lies outside its band follows (R52). -/
def execIsolationPairsSensedClosed (t : Nat) (d : Door) (s : State) : Out :=
  let s := s.at t
  if s.drv[d.1].pairsCmd && !s.drv[d.1].isoFaulted then
    .next ((s.modDrv d fun x => { x with pairsSensed := true, bridgeOn := x.weir.trip.isNone }).followLegs d)
  else .next s

/-- Every pair commanded open senses open; a braking path that waits for it turns on (R65, R68). -/
def State.pairsOpened (s : State) : State :=
  s.eachDoor fun s d => s.modDrv d fun x =>
    if x.pairsCmd || x.isoBlocked then x
    else { x with pairsSensed := false, brakeAsked := false
                  brake := if x.brakeAsked then some (s.ns + ms s.cfg.pers.brakeHoldMs) else x.brake }

/-- ISOLATION_PAIRS_SENSED_OPEN (R304): with every pair open a releasing module releases TOK-OUT and turns off its outputs. -/
def execIsolationPairsSensedOpen (t : Nat) (s : State) : Out := .next (s.at t).pairsOpened.tryRelease

/-! ## Braking (R67, R68) -/

/-- BRAKE_LIMIT_EXCEEDED (R67): the low sides turn off for one minimum dwell. -/
def execBrakeLimitExceeded (t : Nat) (d : Door) (ma : Nat) (s : State) : Out :=
  let s := (s.at t).outputsDue d
  let x := s.drv[d.1]
  if x.lowBrk && x.lowOff.isNone && s.cfg.door[d.1].drive.brakeLimitMa < ma then
    .next (s.modDrv d fun x => { x with
      lowOff := some (s.ns + s.cfg.door[d.1].drive.dwellNs), legs := x.legs.map LegSt.off })
  else .next s

/-- BRAKE_PATH_HOLD_EXPIRY (R68). -/
def execBrakePathHoldExpiry (t : Nat) (d : Door) (s : State) : Out :=
  let s := s.at t
  if due s.drv[d.1].brake s.ns then .next ((s.dropBrake d).settlePairs d) else .next s

/-- Miller releases the braking path at stand-still, not after a heartbeat loss (R68). -/
def State.releaseBrake (s : State) (d : Door) : State :=
  if !s.maint.failed && (s.drv[d.1].brake.isSome || s.drv[d.1].brakeAsked) && s.enc[d.ch.1].still && !s.drv[d.1].brakeSluice then
    (s.dropBrake d).settlePairs d
  else s

/-! ## Weir (R70-R73) -/

/-- Weir's record of the bridge of a channel. -/
def State.weirOf (s : State) (c : Ch) : Weir := if c.isStep then s.drv[c.door.1].sweir else s.drv[c.door.1].weir

def State.modWeir (s : State) (c : Ch) (f : Weir → Weir) : State :=
  s.modDrv c.door fun x => if c.isStep then { x with sweir := f x.sweir } else { x with weir := f x.weir }

/-- Over-current threshold and auto-clear limit of a channel's bridge. -/
def State.weirOc (s : State) (c : Ch) : Nat :=
  if c.isStep then s.cfg.step[c.door.1].drive.weirOcMa else s.cfg.door[c.door.1].drive.weirOcMa
def State.autoClearMax (s : State) (c : Ch) : Nat :=
  if c.isStep then s.cfg.step[c.door.1].drive.autoClearMax else s.cfg.door[c.door.1].drive.autoClearMax

/-- Cause bits of event index 28. -/
def tripCauseWord (c : Ch) (x : TripCause) (extra : Nat) : Nat := TripCause.code x + 16 * c.isStep.toNat + extra

/-- WEIR_TRIP (R70-R73): latched until cleared; a trip while one is latched finds the bridge off already. The channel's set-points are
zero, the doorway's pairs open, its lock solenoid is off, and a door leaf that was moving is braked by the braking path. Both channels are
Stopped by the trip (R93), and what they had reserved is released (R79). -/
def execWeirTrip (t : Nat) (c : Ch) (cause : TripCause) (ma : Nat) (s : State) : Out :=
  let s := s.at t
  let d := c.door
  if !s.chFitted c || (s.weirOf c).trip.isSome || (cause == .overCurrent && ma ≤ s.weirOc c) then .next s
  else
    let moving := s.leafMoving c
    let leaf := s.leafMoving d.ch
    let times := (s.ns :: (s.weirOf c).times).filter fun x => s.ns < x + ms 10000
    let limit := decide (s.autoClearMax c ≤ times.length)
    let s := (s.modWeir c fun w => { w with
      trip := some cause, ma := ma, times := times, held := limit, requested := false, firstClear := none
      clearAt := if limit || moving then none else some (s.ns + ms 100) }).bridgeOff c
    let s := s.zeroOutputs c
    let s := s.bump (0x21 + d.1) ((if c.isStep then 9 else 6) + (TripCause.code cause - 1))
    let s := s.doorEvent d 28 4 (tripCauseWord c cause (if limit then 64 else 0)) (BitVec.ofNat 32 ma) 0 0
    let s := ((((s.endCaptureOn d).releaseGov d.ch).releaseGov d.step).solOff d).settlePairs d
    let s := if leaf then s.askBrake d else s
    .next (if limit then s.faultHeld d 1 else s)

/-- A tripped channel that has come to stand-still has its clear requested 100 ms later (R73 step 3). -/
def State.scheduleClear (s : State) (c : Ch) : State :=
  let w := s.weirOf c
  if w.trip.isSome && !w.held && !w.requested && w.clearAt.isNone && w.firstClear.isNone && s.enc[c.1].still then
    s.modWeir c fun w => { w with clearAt := some (s.ns + ms 100) }
  else s

/-- TRIP_CLEAR_REQUEST (R73) by a Miller that runs (R383): a request stands until the edge; still refused 1 s after the first request is
FAULT_HELD. -/
def execTripClearRequest (t : Nat) (c : Ch) (s : State) : Out :=
  let s := s.at t
  let w := s.weirOf c
  match w.trip with
  | none => .next s
  | some cause =>
    if s.maint.failed || w.held || !due w.clearAt s.ns then .next s
    else if due (w.firstClear.map (· + ms 1000)) s.ns then
      let s := s.modWeir c fun w => { w with held := true, clearAt := none }
      .next ((s.doorEvent c.door 28 4 (tripCauseWord c cause 32) (BitVec.ofNat 32 w.ma) 0 0).faultHeld c.door 1)
    else .next (s.modWeir c fun w => { w with requested := true, clearAt := none, firstClear := some (w.firstClear.getD s.ns) })

/-- WEIR_CLEAR_EDGE (R72): cleared if every cause is absent, else refused and counted, to be requested again 100 ms later. -/
def execWeirClearEdge (t : Nat) (c : Ch) (sense : WeirSense) (s : State) : Out :=
  let s := s.at t
  let w := s.weirOf c
  if w.trip.isNone || !w.requested then .next s
  else if decide (sense.ma * 10 < 9 * s.weirOc c) && sense.switchesOff && sense.gateOk then
    let s := s.modWeir c fun w => { w with trip := none, requested := false, clearAt := none, firstClear := none }
    .next (s.settlePairs c.door)
  else
    let s := s.modWeir c fun w => { w with requested := false, ma := sense.ma, clearAt := some (s.ns + ms 100) }
    .next ((s.modDrv c.door fun x => { x with clrRef := true }).bump (0x21 + c.door.1) 12)

/-! ## DV supplies (R74) -/

/-- A channel of a failing supply is taken to low-side braking, from the next latch until it is at rest (log 17). -/
def State.dvStop (s : State) (c : Ch) : State :=
  if !s.chFitted c then s
  else
    (s.releaseGov c).modDrv c.door fun x =>
      if c.isStep then { x with dvBrakeStep := some s.tick } else { x with dvBrake := some s.tick }

/-- The supply's bridges of a doorway are stopped once neither channel is braking any more. -/
def State.dvSettle (s : State) (d : Door) : State :=
  let x := s.drv[d.1]
  if s.sup[(supplyOf d).1].uv && x.dvBrake.isNone && x.dvBrakeStep.isNone && !x.dvStopped then
    (s.modDrv d fun x => { x with dvStopped := true }).settlePairs d
  else s

/-- Doorways on a supply. -/
def onSupply (p : Fin 2) (d : Door) : Bool := supplyOf d == p

/-- DV_UNDERVOLTAGE (R74): below 60 V for more than 10 ms. -/
def execDvUndervoltage (t : Nat) (supply : Fin 2) (dv : Nat) (s : State) : Out :=
  let s := s.at t
  if 600 ≤ dv || s.sup[supply.1].uv then .next s
  else
    let s := { s with sup := s.sup.set supply.1 { uv := true, low := true } }
    let s := s.event 0x302 4 (supply.1 + 1) (BitVec.ofNat 32 dv) 0 0
    .next (s.eachDoor fun s d => if onSupply supply d then ((s.dvStop d.ch).dvStop d.step) else s)

/-- The brake of a failing supply has been in force for a period and its channel is at rest. -/
def State.dvRested (s : State) (c : Ch) (since : Option Nat) : Bool :=
  match since with | some k => decide (k + 2 ≤ s.tick) && s.enc[c.1].still | none => false

/-- What a tick does to a channel braked by its supply: stopped once at rest. -/
def State.dvTick (s : State) (d : Door) : State :=
  let x := s.drv[d.1]
  let s := if s.dvRested d.ch x.dvBrake then
      (s.modDrv d fun x => { x with dvBrake := none }).request d.ch .stopped 0 else s
  let s := if s.dvRested d.step x.dvBrakeStep then
      (s.modDrv d fun x => { x with dvBrakeStep := none }).request d.step .stopped 0 else s
  s.dvSettle d

/-- DV_RECOVERED (R74): above 70 V for 100 ms. -/
def execDvRecovered (t : Nat) (supply : Fin 2) (s : State) : Out :=
  let s := s.at t
  let s := { s with sup := s.sup.set supply.1 {} }
  .next (s.eachDoor fun s d =>
    if onSupply supply d then (s.modDrv d fun x => { x with dvStopped := false, dvBrake := none, dvBrakeStep := none }).settlePairs d
    else s)

/-- DV_CLAMP_ACTIVE (R74): active for more than 100 ms in a second. -/
def execDvClampActive (t : Nat) (supply : Fin 2) (dv : Nat) (s : State) : Out :=
  let s := s.at t
  let s := s.eachDoor fun s d => if onSupply supply d then s.modDrv d fun x => { x with clamp := true } else s
  .next (s.event 0x303 3 (supply.1 + 1) (BitVec.ofNat 32 dv) 0 0)

end Sys2Proof.Machine
end

