-- ==== Sys2Proof/Machine/Obstacle.lean ====
section
/-!
DEFINITION. Sys2Proof/Machine/Obstacle.lean: the force observer, detection, bias tracker, plausibility supervisor, step stall
supervisor and sensitive-edge path (05_obstacle_detection, R119-R140).
-/
namespace Sys2Proof.Machine

/-- Absolute value of a rational. -/
def ratAbs (r : Rat) : Rat := if r < 0 then -r else r

/-- Obstacle parameters of a doorway. -/
def State.obsCfg (s : State) (d : Door) : ObsCfg := s.cfg.door[d.1].obs

/-! ## Direction of a mode -/

/-- Travel-close, or Jog towards closed. -/
def Mode.closing (m : Mode) (arg : Int) : Bool := m == .travelClose || (m == .jog && decide (arg < 0))

/-- The direction a mode looks for obstacles in, true opening: the travels, the speed phase of Reverse, and Jog (R122). -/
def Slot.watches (x : Slot) : Option Bool :=
  match x.mode with
  | .travelClose => some false
  | .travelOpen => some true
  | .reverse => if x.rphase then some true else none
  | .jog => if x.arg < 0 then some false else if 0 < x.arg then some true else none
  | _ => none

/-- The tracked bias of a direction (R134). -/
def Obs.bias (o : Obs) (opening : Bool) : Rat := if opening then o.bOpen else o.bClose

/-- Travel-sense residual x (R121). -/
def Obs.residual (o : Obs) (opening : Bool) : Rat := if opening then -o.fHat else o.fHat

/-! ## Motions (R120, R134-R139) -/

/-- A travel motion starts; from Stopped or Hold the estimate and the confirmation count start at 0 (R120), and no deceleration start has
been delivered in it (R134). -/
def State.motionStart (s : State) (d : Door) (fresh : Bool) : State :=
  (s.modCmp d fun m => { m with decel := false }).modObs d fun o => { o with
    fHat := if fresh then 0 else o.fHat, confirm := if fresh then 0 else o.confirm
    sumX := 0, nX := 0, spoilt := o.latch, motionAt := s.ns, moving := true, plausRun := 0, plausRaised := false }

/-- A travel motion that a takeover finds running: what came before is unknown, so its end updates no bias and counts as skipped
(R135). -/
def State.motionTaken (s : State) (d : Door) : State :=
  let on := (s.slot[d.ch.1].mode.travel).isSome
  s.modObs d fun o => { o with sumX := 0, nX := 0, spoilt := on, motionAt := s.ns, moving := on, plausRun := 0, plausRaised := false }

/-- Store both biases in the calibration partition (R137). -/
def State.storeBias (s : State) (d : Door) : State :=
  { s with nv := { s.nv with bias := s.nv.bias.set d.1 (s.nv.bias[d.1].put (s.obs[d.1].bClose, s.obs[d.1].bOpen)) } }

/-- The bias update at the end of a motion (R135, R136). -/
def State.updateBias (s : State) (d : Door) (opening : Bool) : State :=
  let o := s.obs[d.1]
  let g := s.obsCfg d
  if o.nX < g.minPeriods || o.spoilt || o.noCal then s.bump (0x51 + d.1) 6
  else
    let b := o.bias opening
    let step : Rat := (g.biasStep : Rat) / 10
    let new := b + clampRat (-step) step (o.sumX / o.nX - b)
    let clamped := decide (40 < ratAbs new)
    let v : Rat := if new < -40 then -40 else if 40 < new then 40 else new
    let s := s.modObs d fun o => if opening then { o with bOpen := v } else { o with bClose := v }
    let s := if clamped && !o.drift then
        (s.modObs d fun o => { o with drift := true }).doorEvent d 20 3 opening.toNat (word (tenthN v)) 0 0
      else s
    (s.storeBias d).bump (0x51 + d.1) 5

/-- A travel motion ends: the bias update, and the run of clean motions that clears PLAUSSC (R135, R139). DESIGN CHOICE: every motion that
has ended counts as completed, one cut short too (log 53). -/
def State.motionEnd (s : State) (d : Door) (opening : Bool) : State :=
  if !s.obs[d.1].moving then s
  else
    let s := s.updateBias d opening
    s.modObs d fun o =>
      let clean := if o.plausRaised then 0 else o.plausClean + 1
      { o with moving := false, plausClean := clean, plausSc := o.plausSc && decide (clean < 10) }

/-! ## The observer (R119-R127) -/

/-- What a retired door slot hands to the observer: measured quadrature current (mA), reference in force while it was measured,
learned cogging at the angle (mA), acceleration (m/s²), filtered speed and set-point (0.1 mm/s), whether the DV link is below
70 V. -/
structure DoorMeas where
  iqM : Rat
  iqRef : Rat
  cog : Rat
  a : Rat
  vf : Rat
  vset : Rat
  dvLow : Bool

/-- The force the motor delivers, N (R119). -/
def State.motorForce (s : State) (d : Door) (m : DoorMeas) : Rat := (m.iqM - m.cog) * s.cfg.door[d.1].ctl.kf / 1000000

/-- Bin of the friction tables: the last one, as at full open, while the doorway is unreferenced (R38, R99, R119). -/
def State.fricBin (s : State) (d : Door) : Nat :=
  let e := s.enc[d.ch.1]
  if !e.ref then 255 else (clampInt 0 255 (e.stroke * 256 / ((s.cfg.door[d.1].enc.openSc : Int) + 1))).toNat

/-- Learned friction of a direction in N; zero without a valid record (R149). -/
def State.friction (s : State) (d : Door) (opening : Bool) : Rat :=
  if s.obs[d.1].noCal then 0
  else
    let t := if opening then s.obs[d.1].cal.fricOpen else s.obs[d.1].cal.fricClose
    ((t[s.fricBin d]?.getD 0 : Int) : Rat) / 10

/-- Friction direction: that of the speed, below min_speed that of the set-point (R119). -/
def fricDir (minSpeed : Nat) (m : DoorMeas) : Option Bool :=
  let v := if (minSpeed : Rat) ≤ ratAbs m.vf then m.vf else m.vset
  if 0 < v then some true else if v < 0 then some false else none

/-- Residual r of the force model, N. -/
def State.modelResidual (s : State) (d : Door) (m : DoorMeas) (opening : Bool) : Rat :=
  let c := s.obs[d.1].cal
  (c.mass : Rat) / 10 * m.a - s.motorForce d m + (s.friction d opening + (c.viscous : Rat) / 10 * (m.vf / 10000))

/-- The estimate of a retired slot (R119); held without a valid record (R149). -/
def State.estimate (s : State) (d : Door) (m : DoorMeas) : State :=
  if s.obs[d.1].noCal then s
  else match fricDir (s.obsCfg d).minSpeed m with
    | none => s
    | some dir =>
      let r := s.modelResidual d m dir
      s.modObs d fun o => { o with fHat := o.fHat + ((s.obsCfg d).alpha : Rat) / 65536 * (r - o.fHat) }

/-- The conditions under which detection is armed (R122). -/
def State.obsArmed (s : State) (d : Door) : Bool :=
  (s.obsCfg d).enable && !s.obs[d.1].noCal && s.cmp[d.1].window && (s.slot[d.ch.1].watches).isSome && s.enc[d.ch.1].ref

/-- Peak and mean of the observer force in the cycle record (R127). -/
def CycleRec.observe (c : CycleRec) (opening : Bool) (x : Rat) : CycleRec :=
  let peak := fun (p : Option Rat) => match p with | some y => some (max x y) | none => some x
  if opening then { c with peakOpen := peak c.peakOpen, sumOpen := c.sumOpen + x, nOpen := c.nOpen + 1 }
  else { c with peakClose := peak c.peakClose, sumClose := c.sumClose + x, nClose := c.nClose + 1 }

/-- An obstacle is detected in this period (R123, R124). -/
def State.detected (s : State) (d : Door) (opening : Bool) : State :=
  let o := s.obs[d.1]
  let s := s.modObs d fun o => { o with
    confirm := 0, spoilt := true, detClose := !opening, detOpen := opening
    obsDet := o.obsDet || !opening, openDet := o.openDet || opening }
  (s.bump (0x51 + d.1) opening.toNat).tracedEvent d 0 14 2 opening.toNat s.enc[d.ch.1].strokeWord
    (word (tenthN o.fHat)) (word (tenthN (o.bias opening)))

/-- Detection of a retired slot (R122, R123, R126, R127). -/
def State.detect (s : State) (d : Door) : State :=
  let armed := s.obsArmed d
  let s := s.modObs d fun o => { o with armed := armed }
  match s.slot[d.ch.1].watches with
  | none => s.modObs d fun o => { o with confirm := 0 }
  | some opening =>
    if !armed then s.modObs d fun o => { o with confirm := 0 }
    else
      let o := s.obs[d.1]
      let x := o.residual opening - min (o.bias opening) 0
      let thr := if opening then (s.obsCfg d).openThreshold else (s.obsCfg d).closeThreshold
      let s := s.modRec d fun c => c.observe opening x
      if (thr : Rat) < x then
        (if (s.obsCfg d).confirm ≤ o.confirm + 1 then s.detected d opening
         else s.modObs d fun o => { o with confirm := o.confirm + 1 })
      else s.modObs d fun o => { o with confirm := 0 }

/-! ## Bias tracker and plausibility supervisor (R121, R134, R139) -/

/-- A period is out of regulation (R121). -/
def State.outOfRegulation (s : State) (d : Door) (m : DoorMeas) : Bool :=
  decide (2 * (s.cfg.door[d.1].drive.bandMa : Rat) < ratAbs (m.iqRef - m.iqM)) || m.dvLow

/-- The period qualifies for the bias tracker (R134). -/
def State.biasQualifies (s : State) (d : Door) (m : DoorMeas) : Bool :=
  let o := s.obs[d.1]
  !s.cmp[d.1].window && !s.cmp[d.1].decel && decide (o.motionAt + ms 100 ≤ s.ns) && decide (ratAbs m.a < 1 / 2) &&
  decide (((s.obsCfg d).minSpeed : Rat) ≤ ratAbs m.vf) && !s.outOfRegulation d m && !o.latch

/-- Bias sums of a retired slot. -/
def State.trackBias (s : State) (d : Door) (m : DoorMeas) : State :=
  match s.slot[d.ch.1].mode.travel with
  | none => s
  | some opening =>
    if s.obs[d.1].noCal || !s.biasQualifies d m then s
    else s.modObs d fun o => { o with sumX := o.sumX + o.residual opening, nX := o.nX + 1 }

/-- A plausibility fault, each one counted (R379), at most one event per motion. DESIGN CHOICE: a fault sets the run count to 0
(log 53). -/
def State.plausFault (s : State) (d : Door) (y : Rat) : State :=
  let again := s.obs[d.1].plausRaised
  let s := s.modObs d fun o => { o with plaus := true, plausSc := true, plausRaised := true, plausClean := 0, plausRun := 0 }
  let s := s.bump (0x51 + d.1) 4
  if again then s
  else s.tracedEvent d 2 18 4 0 (word (tenthN y)) s.enc[d.ch.1].strokeWord 0

/-- The supervisor's run count in a retired slot (R139, R149). -/
def State.supervise (s : State) (d : Door) (m : DoorMeas) : State :=
  match s.slot[d.ch.1].mode.travel with
  | none => s
  | some opening =>
    let o := s.obs[d.1]
    let g := s.obsCfg d
    if o.noCal || s.outOfRegulation d m || o.confirm ≠ 0 || o.latch || !decide ((g.minSpeed : Rat) ≤ ratAbs m.vf) then s
    else
      let y := o.residual opening - o.bias opening
      if decide ((g.plausN : Rat) < ratAbs y) then
        (if g.plausPeriods ≤ o.plausRun + 1 then s.plausFault d y else s.modObs d fun o => { o with plausRun := o.plausRun + 1 })
      else s.modObs d fun o => { o with plausRun := 0 }

/-- The observer stages of a retired door slot, in the order of Table 4-2. -/
def State.observer (s : State) (d : Door) (m : DoorMeas) : State :=
  let out := s.outOfRegulation d m
  let s := s.modObs d fun o => { o with outReg := out, oor := o.oor || out }
  let s := s.bumpIf out (0x51 + d.1) 7
  ((((s.estimate d m).detect d).supervise d m).trackBias d m)

/-! ## Step stall (R140) -/

/-- The stall condition of a retired step slot; an unreferenced step counts as at its end stop (R38, R41). -/
def State.stallWatch (s : State) (d : Door) (iStep vf : Rat) : State :=
  let g := s.cfg.step[d.1]
  let e := s.enc[d.step.1]
  let zone : Int := g.cyc.endZone
  let cond := (s.slot[d.step.1].mode.travel).isSome && decide ((g.ctl.currentLimit : Rat) * 9 / 10 ≤ ratAbs iStep) &&
    decide (ratAbs vf < (g.cyc.stallSpeed : Rat)) && e.ref && decide (zone < e.stroke) && decide (e.stroke < g.enc.openSc - zone)
  s.modObs d fun o => { o with stallAt := if cond then some (o.stallAt.getD s.ns) else none }

/-! ## Sensitive edges (R129-R133) -/

/-- A channel's reversal request: the edge actuated while the closed switches are not both closed (R129, R131). -/
def State.edgeRequest (s : State) (ch : SafetyCh) (d : Door) : Bool := s.fitted d && s.edgeIn ch d && !s.closedIn ch d

/-- A request line changes; EDGE latches within 1 µs (R130). DESIGN CHOICE: the edge actuation that spoils a motion's bias update (R135) is
a latched request; one whose closed switches both read closed makes none and spoils nothing (log 53). -/
def State.setEdgeLine (s : State) (ch : SafetyCh) (d : Door) (v : Bool) : State :=
  s.modObs d fun o =>
    let o := match ch with
      | .runner => { o with reqRunner := v }
      | .bedstone => { o with reqBed := v }
    if v && s.engineRuns d 5 then { o with latch := true, spoilt := true } else o

/-- The latch at a phase 0 latch, under the resolved mode (R130). -/
def State.edgeLatchTick (s : State) (d : Door) : State :=
  let x := s.slot[d.ch.1]
  s.modObs d fun o => { o with latch := o.latch && (o.reqRunner || o.reqBed || x.mode.closing x.arg) }

/-- Edge discrepancy time of a channel, ms (R133, R233). -/
def State.edgeDiscMs (s : State) (ch : SafetyCh) (d : Door) : Nat :=
  match ch with
  | .runner => (s.obsCfg d).edgeDiscMs
  | .bedstone => s.cfg.bedstone.edgeDisc[d.1]

/-- A channel's edge fault. -/
def State.setEdgeFlt (s : State) (ch : SafetyCh) (d : Door) (v : Bool) : State :=
  s.modObs d fun o => match ch with
    | .runner => { o with edgeFltR := v }
    | .bedstone => { o with edgeFltB := v }

def State.edgeFltOf (s : State) (ch : SafetyCh) (d : Door) : Bool :=
  match ch with | .runner => s.obs[d.1].edgeFltR | .bedstone => s.obs[d.1].edgeFltB

/-- Bit 7 of a cause: Bedstone made the finding (R377). -/
def chBit (ch : SafetyCh) : Nat := match ch with | .runner => 0 | .bedstone => 0x80

/-- EDGE_FAULT (R133): the contacts have disagreed in the channel for longer than its discrepancy time. -/
def execEdgeFault (t : Nat) (d : Door) (ch : SafetyCh) (s : State) : Out :=
  let s := s.at t
  match (s.chan ch).edgeDisc[d.1] with
  | none => .next s
  | some since =>
    if s.edgeFltOf ch d || !decide (since + ms (s.edgeDiscMs ch d) < s.ns) then .next s
    else
      let alone := if s.reads ch d 4 then 2 else 1
      .next (((s.setEdgeFlt ch d true).bump (0x51 + d.1) 3).doorEvent d 17 4 (alone + chBit ch) 0 0 0)

/-- EDGE_FAULT_CLEAR (R133): both contacts closed together for 1 s with the leaf not in a closing mode. -/
def execEdgeFaultClear (t : Nat) (d : Door) (ch : SafetyCh) (s : State) : Out :=
  let s := s.at t
  let x := s.slot[d.ch.1]
  match (s.chan ch).edgeOkAt[d.1] with
  | none => .next s
  | some since =>
    if since + ms 1000 ≤ s.ns && !x.mode.closing x.arg then .next (s.setEdgeFlt ch d false) else .next s

end Sys2Proof.Machine
end

