-- ==== Sys2Proof/Machine/Interlock.lean ====
section
/-!
DEFINITION. Sys2Proof/Machine/Interlock.lean: the safety functions (07_safety): input filters with their test-pulse checks, the
channels' counts, the loop decision, feedback, output tests, discrepancies, evidence of a reversal and the safety reset.
-/
namespace Sys2Proof.Machine

/-! ## Samples on the pulse grid (R213, R214, R240, R241) -/

/-- Sample number 0-199 in the 20 ms round. -/
def State.gridPos (s : State) : Nat := (s.ns - s.safety.gridOrigin) / 100000 % 200

/-- The counter filter of R240; it becomes valid with its L + 4th sample. -/
def SFilt.count (f : SFilt) (limit : Nat) (on : Bool) (now : Nat) : SFilt :=
  let c := if on then min (f.c + 1) limit else f.c - 1
  let v := if c = limit then true else if c = 0 then false else f.filtered
  { f with c := c, filtered := v, given := f.given + 1,
           since := if f.given + 1 = limit + 4 || (v != f.filtered && limit + 4 ≤ f.given) then now else f.since }

/-- A sample lies in the own window of a source: +100, +200 and +300 µs from its dark edge. -/
def ownWindow (src : Src) (p : Nat) : Bool := 50 * src.1 + 1 ≤ p && p ≤ 50 * src.1 + 3

/-- The two checked samples of a source's window, noted. -/
def SFilt.note (f : SFilt) (own : Src) (p : Nat) (on : Bool) : SFilt :=
  let k := srcOf (p / 50)
  if p % 50 = 1 ∨ p % 50 = 2 then
    (if on then f else if k = own then { f with ownDark := true } else { f with dark := f.dark.set k.1 (f.dark[k.1] + 1) })
  else f

/-- A source's window is over: the round's result for it, of an input that reads lit. -/
def SFilt.judge (f : SFilt) (own : Src) (p now : Nat) : SFilt :=
  if p % 50 ≠ 2 then f
  else
    let k := srcOf (p / 50)
    if k = own then
      let fail := f.filtered && !f.ownDark
      { f with ownDark := false, missRun := if fail then min 2 (f.missRun + 1) else 0, badAt := if fail then now else f.badAt }
    else
      let fail := f.filtered && f.dark[k.1] == 2
      { f with dark := f.dark.set k.1 0, crossRun := f.crossRun.set k.1 (if fail then min 2 (f.crossRun[k.1] + 1) else 0)
               badAt := if fail then now else f.badAt }

/-- The latches of R214. A missing pulse is not declared while another source may still prove a cross-short in the same two
rounds. -/
def SFilt.latch (f : SFilt) : SFilt :=
  match f.cross, (List.finRange 4).find? fun k => f.crossRun[k.1] == 2 with
  | none, some k => { f with cross := some k }
  | none, none => if f.missRun = 2 ∧ f.crossRun.toList.all (· == 0) then { f with missing := true } else f
  | some _, _ => f

/-- One sample of a tagged input. -/
def SFilt.sample (f : SFilt) (limit : Nat) (own : Src) (p now : Nat) (on : Bool) : SFilt :=
  let f := if ownWindow own p then f else f.count limit on now
  ((f.note own p on).judge own p now).latch

/-- Counter place of a safety input in its doorway's field inputs (Table 13-4). -/
def inputPos (k : Fin 10) : Fin 12 := if h : k.1 < 8 then ⟨k.1, by omega⟩ else ⟨k.1 + 2, by omega⟩

/-- Counter k of a field input: five each from instance 0x90. -/
def State.bumpFi (s : State) (n : Fi) (k : Nat) : State := s.bump (0x90 + n.1 / 16) (n.1 % 16 * 5 + k)
/-- Counter k of TL01-TL16, DL1-FB and DL2-FB. -/
def State.bumpTl (s : State) (n k : Nat) : State := s.bump 0xA0 (n * 5 + k)

/-- A pulse fault newly latched on a safety input of a doorway. -/
def State.inputFault (s : State) (ch : SafetyCh) (d : Door) (k : Fin 10) (old new : SFilt) : State :=
  let n := d.fi (inputPos k)
  let crossed := new.cross.isSome && old.cross.isNone
  let missed := new.missing && !old.missing
  let s := if crossed || missed then s.modGrp (s.group d) fun g => { g with xshort := true } else s
  let s := if crossed then
      (s.bumpFi n 1).doorEvent d 34 4 (2 + chBit ch) (BitVec.ofNat 32 (n.1 + 1)) (BitVec.ofNat 32 (match new.cross with | some k => k.1 + 1 | none => 0)) 0
    else s
  if missed then (s.bumpFi n 0).doorEvent d 34 4 (1 + chBit ch) (BitVec.ofNat 32 (n.1 + 1)) 0 0 else s

/-- A pulse fault newly latched on DLn-FB (R214, event 0x328). -/
def State.fbInputFault (s : State) (ch : SafetyCh) (g : Group) (old new : SFilt) : State :=
  let crossed := new.cross.isSome && old.cross.isNone
  let missed := new.missing && !old.missing
  let s := if crossed || missed then s.modGrp g fun g => { g with xshort := true } else s
  let s := if crossed then
      (s.bumpTl (16 + g.1) 1).event 0x328 4 (2 + chBit ch) (word (g.1 + 1)) (BitVec.ofNat 32 (match new.cross with | some k => k.1 + 1 | none => 0)) 0
    else s
  if missed then (s.bumpTl (16 + g.1) 0).event 0x328 4 (1 + chBit ch) (word (g.1 + 1)) 0 0 else s

/-- One input set sampled in a channel, tagged inputs only on a locked grid (R213). -/
def State.sampleInputs (s : State) (ch : SafetyCh) (x : SafetySample) : State :=
  let c := s.chan ch
  let p := s.gridPos
  let lim := s.cfg.bedstone.filterLimit
  let inp' : Vector (Vector SFilt 10) 16 := Vector.ofFn fun d => Vector.ofFn fun k =>
    if s.fitted d then (c.inp[d.1])[k.1].sample (s.safeLimit d k) (s.tagOf d k) p s.ns (x.fi[d.1].getLsbD k.1) else (c.inp[d.1])[k.1]
  let fb' : Vector SFilt 2 := Vector.ofFn fun g => c.fb[g.1].sample lim (s.fbSrc g) p s.ns (x.fb.getLsbD g.1)
  let c' := { c with rst := c.rst.count lim x.rst s.ns, tl := c.tl.count lim x.tl s.ns }
  if s.safety.gridLocked then
    let s := s.setChan ch { c' with inp := inp', fb := fb' }
    let s := (List.finRange 2).foldl (fun s g => s.fbInputFault ch g c.fb[g.1] fb'[g.1]) s
    s.eachDoor fun s d => (List.finRange 10).foldl (fun s k => s.inputFault ch d k (c.inp[d.1])[k.1] (inp'[d.1])[k.1]) s
  else s.setChan ch c'

/-! ## The reset inputs (R222, R223) -/

/-- Reset source 0 is RST-L, 1 the reset train line. -/
def resetIdx : ResetInput → Fin 2 | .local => 0 | .trainLine => 1

/-- A source is enabled by safety.reset.options. -/
def State.resetEnabled (s : State) (r : ResetInput) : Bool :=
  match r with | .local => s.cfg.bedstone.resetLocal | .trainLine => s.cfg.bedstone.resetTlOn

/-- A channel's filter of a reset source. -/
def SafeChan.reset (c : SafeChan) (r : ResetInput) : SFilt := match r with | .local => c.rst | .trainLine => c.tl

/-- A rising edge of a valid filtered value after at least 100 ms inactive. -/
def risingEdge (limit : Nat) (old new : SFilt) (now : Nat) : Bool :=
  limit + 4 ≤ old.given && !old.filtered && new.filtered && decide (old.since + ms 100 ≤ now)

/-- Note the edges that a sample gave. -/
def State.resetEdges (s : State) (old : State) (r : ResetInput) : State :=
  let lim := s.cfg.bedstone.filterLimit
  let e := fun (ch : SafetyCh) => s.resetEnabled r && risingEdge lim ((old.chan ch).reset r) ((s.chan ch).reset r) s.ns
  let x := s.safety.rst[(resetIdx r).1]
  let x' := { x with edgeR := x.edgeR || e .runner, edgeB := x.edgeB || e .bedstone }
  { s with safety := { s.safety with rst := s.safety.rst.set (resetIdx r).1 x' } }

/-! ## Pairs and edges (R133, R218) -/

/-- What a switch pair reads: closed, open, or discrepant. -/
inductive PairRead where | closed | open | discrepant
deriving DecidableEq, Repr

/-- A pair as a channel reads it (R218). The step pair's members disagree when both read closed: both open is a step between
its ends. -/
def State.pairRead (s : State) (ch : SafetyCh) (d : Door) : SwitchPair → PairRead
  | .lock => if s.reads ch d 0 = s.reads ch d 1 then .discrepant else if s.reads ch d 0 then .closed else .open
  | .closed => if s.reads ch d 2 ≠ s.reads ch d 3 then .discrepant else if s.reads ch d 2 then .closed else .open
  | .step => if s.reads ch d 8 && s.reads ch d 9 then .discrepant else if s.reads ch d 8 then .closed else .open

/-- Index of a pair. -/
def pairIdx : SwitchPair → Fin 3 | .lock => 0 | .closed => 1 | .step => 2

/-- The watch of a pair: a latched fault clears when the pair has read open and then closed. -/
def PairWatch.follow (w : PairWatch) (r : PairRead) (now : Nat) : PairWatch :=
  match r with
  | .discrepant => { w with since := some (w.since.getD now) }
  | .open => { w with since := none, sawOpen := w.fault }
  | .closed => if w.fault && w.sawOpen then {} else { w with since := none }

/-- Follow the pairs of every fitted doorway in a channel. -/
def State.watchPairs (s : State) (ch : SafetyCh) : State :=
  let c := s.chan ch
  let f := fun (d : Door) (p : SwitchPair) =>
    let w := (c.pairs[d.1])[(pairIdx p).1]
    if s.fitted d && (p != .step || s.stepFitted d) then w.follow (s.pairRead ch d p) s.ns else w
  s.setChan ch { c with pairs := Vector.ofFn fun d => #v[f d .lock, f d .closed, f d .step] }

/-- Follow the edge contacts of every fitted doorway in a channel (R133). -/
def State.watchEdges (s : State) (ch : SafetyCh) : State :=
  let c := s.chan ch
  let disc := fun (d : Door) => s.fitted d && s.reads ch d 4 != s.reads ch d 5
  let good := fun (d : Door) =>
    s.reads ch d 4 && s.reads ch d 5 && !s.slot[d.ch.1].mode.closing s.slot[d.ch.1].arg
  s.setChan ch { c with
    edgeDisc := Vector.ofFn fun d => if disc d then some (c.edgeDisc[d.1].getD s.ns) else none
    edgeOkAt := Vector.ofFn fun d => if good d then some (c.edgeOkAt[d.1].getD s.ns) else none }

/-- A reversal request line goes to a level; a request asserted in a closing mode is watched (R220). -/
def State.requestLine (s : State) (ch : SafetyCh) (d : Door) (v : Bool) : State :=
  let was := match ch with | .runner => s.obs[d.1].reqRunner | .bedstone => s.obs[d.1].reqBed
  if was = v then s
  else
    let s := s.setEdgeLine ch d v
    if v && s.slot[d.ch.1].mode.closing s.slot[d.ch.1].arg then
      let c := s.chan ch
      s.setChan ch { c with watch := c.watch.set d.1 (some { since := s.ns, ext := s.enc[d.ch.1].ext }) }
    else s

/-! ## Counts (R203-R205) -/

/-- No pair discrepancy fault is latched on the doorway in the channel. -/
def State.noPairFault (s : State) (ch : SafetyCh) (d : Door) : Bool := (s.chan ch).pairs[d.1].toList.all fun w => !w.fault

/-- The conditions of Table 7-2 on switches and handle. -/
def State.switchesOk (s : State) (ch : SafetyCh) (d : Door) : Bool :=
  s.closedIn ch d && s.lockedIn ch d && s.reads ch d 6 && (!s.stepFitted d || (s.reads ch d 8 && !s.reads ch d 9)) &&
  s.noPairFault ch d

/-- A bit per fitted doorway. -/
def State.doorBits (s : State) (f : Door → Bool) : BitVec 16 :=
  (List.finRange 16).foldl (fun (w : BitVec 16) d => if s.fitted d && f d then w ||| ((1#16) <<< d.1) else w) 0

/-- Runner's evaluation in force: a cycle's result stands one cycle after it began (Table 7-6). -/
def SafeChan.evalNow (c : SafeChan) (now : Nat) : RunnerEval := if c.evalAt + ms 1 ≤ now then c.eval else c.evalPrev

/-- Take both channels' counts: switches alone, and with PROVEN and the stroke window unless the key is operated in the channel
(R203, R204). A stopped Runner counts nothing. -/
def State.takeCounts (s : State) : State :=
  let e := s.safety.runner.evalNow s.ns
  let proven := s.doorBits fun d => s.cyc[d.1].proven
  let sw := if s.safety.running then e.switches else 0
  let b := if s.safety.blockOk then s.doorBits (s.switchesOk .bedstone) else 0
  { s with safety := { s.safety with
    runner := { s.safety.runner with onSwitches := sw, counted := sw &&& (e.key ||| (proven &&& e.window)) }
    bedstone := { s.safety.bedstone with onSwitches := b, counted := b } } }

/-- Runner drops its count of a doorway in the mill tick in which PROVEN falls (R202). -/
def State.dropCounts (s : State) : State :=
  let e := s.safety.runner.evalNow s.ns
  let proven := s.doorBits fun d => s.cyc[d.1].proven
  { s with safety := { s.safety with runner := { s.safety.runner with
    counted := s.safety.runner.counted &&& (e.key ||| (proven &&& e.window)) } } }

/-- How long the counts on switches have differed, per doorway (R219). -/
def State.watchCounts (s : State) : State :=
  let s := s.takeCounts
  let diff := s.safety.runner.onSwitches ^^^ s.safety.bedstone.onSwitches
  let live := s.safety.running && s.safety.blockOk
  (List.finRange 2).foldl (fun s g => s.modGrp g fun x => { x with
    chanDisc := Vector.ofFn fun d => if live && diff.getLsbD d.1 && s.group d == g then some (x.chanDisc[d.1].getD s.ns) else none }) s

/-! ## Feedback (R209, R210) -/

/-- The feedback of a channel shows the wrong state. -/
def State.fbMismatch (s : State) (ch : SafetyCh) (g : Group) : Bool :=
  s.safety.gridLocked && s.fbValid ch g && s.fbDropped ch g == s.safety.grp[g.1].on

/-- Follow the feedback in both channels. -/
def State.watchFb (s : State) : State :=
  let f := fun (s : State) (ch : SafetyCh) =>
    let c := s.chan ch
    s.setChan ch { c with fbWrong := Vector.ofFn fun g => if s.fbMismatch ch g then some (c.fbWrong[g.1].getD s.ns) else none }
  f (f s .runner) .bedstone

/-- Time a group has to show the matching feedback after its filter: 30 ms + 400 µs + L × 100 µs. -/
def State.fbTime (s : State) : Nat := 30400000 + s.cfg.bedstone.filterLimit * 100000

/-- FEEDBACK_FAULT (R210): de-energised in both channels, locked out until a safety reset. -/
def execFeedbackFault (t : Nat) (g : Group) (ch : SafetyCh) (s : State) : Out :=
  let s := s.at t
  let c := s.chan ch
  let x := s.safety.grp[g.1]
  match c.fbWrong[g.1] with
  | none => .next s
  | some since =>
    let end_ := x.changedAt + s.fbTime
    if c.fbLock.getLsbD g.1 || s.ns < end_ || !(decide (since ≤ end_) || decide (since + ms 30 ≤ s.ns)) then .next s
    else
      let s := s.setChan ch { c with fbLock := c.fbLock ||| ((1#2) <<< g.1) }
      let s := ((s.dropEnable .runner g).dropEnable .bedstone g).groupOff g
      let s := s.modGrp g fun x => { x with fbFlt := true }
      .next ((s.bump (0x71 + g.1) 2).event 0x321 5 (chBit ch) (word (g.1 + 1)) 0 0)

/-! ## The loop decision (R206, R207, R227) -/

/-- Fitted doorways of a group. -/
def State.groupDoors (s : State) (g : Group) : BitVec 16 := s.doorBits fun d => s.group d == g

/-- A group is locked out for any cause. -/
def State.barred (s : State) (g : Group) : Bool := s.lockedOut g || s.safety.grp[g.1].lockRestart || s.sluice.safe

/-- A channel takes part in the decision: Runner while it runs, Bedstone once its block has passed its check (R9, R201). -/
def State.chanLive (s : State) : SafetyCh → Bool
  | .runner => s.safety.running
  | .bedstone => s.safety.blockOk

/-- A channel's decision for a group. -/
def State.wantsEnable (s : State) (ch : SafetyCh) (g : Group) : Bool :=
  let doors := s.groupDoors g
  let x := s.safety.grp[g.1]
  s.maint.configured && s.chanLive ch && doors != 0 && (doors &&& (s.chan ch).counted) == doors && !s.barred g &&
  (x.on || (decide (x.changedAt + ms s.cfg.runner.minOffMs ≤ s.ns) && s.fbDropped ch g))

/-- Both enables are given: the start-up test runs first, then the group energises (R227). -/
def State.energise (s : State) (g : Group) : State :=
  let x := s.safety.grp[g.1]
  if x.on then s
  else if !x.tested then s.modGrp g fun x => if x.startTest.isSome then x else { x with startTest := some s.ns, startP := false }
  else
    ((s.modGrp g fun x => { x with p := true, m := true, on := true, changedAt := s.ns, lastTest := s.ns, testAt := s.ns + ms 1000, testLow := false }).bump (0x71 + g.1) 0).event
      0x320 1 1 (word (g.1 + 1)) 0 0

/-- One group's decision at a mill tick. -/
def State.decideGroup (s : State) (g : Group) : State :=
  let r := s.wantsEnable .runner g
  let b := s.wantsEnable .bedstone g
  let put := fun (s : State) (ch : SafetyCh) (v : Bool) =>
    if v then s.setChan ch { s.chan ch with enable := (s.chan ch).enable ||| ((1#2) <<< g.1) } else s.dropEnable ch g
  let s := put (put s .runner r) .bedstone b
  if r && b then s.energise g else s.groupOff g

/-- The loop decisions of a mill tick boundary. -/
def State.loopTick (s : State) : State := ((s.watchCounts.decideGroup 0).decideGroup 1).watchFb

/-! ## Commands: Runner and the inputs -/

/-- Runner's evaluation of its filtered inputs now. -/
def State.evaluate (s : State) : RunnerEval := {
  switches := s.doorBits (s.switchesOk .runner), key := s.doorBits fun d => s.reads .runner d 7
  window := s.doorBits s.strokeWindow, edge := s.doorBits (s.edgeRequest .runner) }

/-- The mode check of R220: at the second cycle after a request. -/
def EdgeWatch.cycle (w : EdgeWatch) (closing : Bool) : EdgeWatch :=
  { w with cycles := w.cycles + 1, modeBad := w.modeBad || (w.cycles == 1 && closing) }

/-- RUNNER_CYCLE (R201, R129, R220): at mill clock multiples of 1 ms while Runner runs. The request lines follow the evaluation
that the last cycle began. -/
def execRunnerCycle (t : Nat) (s : State) : Out :=
  let s := s.at t
  if s.ns % 1000000 ≠ 0 || !s.safety.running then .next s
  else
    let s := { s with safety := { s.safety with alive := !s.safety.alive, toggledAt := s.ns } }
    let s := s.setChan .runner { s.safety.runner with
      watch := Vector.ofFn fun (d : Door) => (s.safety.runner.watch[d.1]).map fun (w : EdgeWatch) =>
        w.cycle (s.slot[d.ch.1].mode.closing s.slot[d.ch.1].arg) }
    let s := (s.watchPairs .runner).watchEdges .runner
    let s := s.eachDoor fun s d => if s.fitted d then s.requestLine .runner d (s.safety.runner.eval.edge.getLsbD d.1) else s
    let s := s.setChan .runner { s.safety.runner with eval := s.evaluate, evalPrev := s.safety.runner.eval, evalAt := s.ns }
    .next s.watchCounts

/-- Cause of event 0x323. -/
def RunnerStopCause.code : RunnerStopCause → Nat
  | .lockstep => 2 | .overrun => 3 | .romRam => 4

/-- RUNNER_STOP (R201): all enables and reversal requests of Runner drop. -/
def execRunnerStop (t : Nat) (cause : RunnerStopCause) (s : State) : Out :=
  let s := s.at t
  if !s.safety.running then .next s
  else
    let s := { s with safety := { s.safety with running := false } }
    let s := ((s.dropEnable .runner 0).dropEnable .runner 1).watchCounts
    let s := s.eachDoor fun s d => s.requestLine .runner d false
    .next (((s.groupOff 0).groupOff 1).event 0x323 5 (RunnerStopCause.code cause) 0 0 0)

/-- RUNNER_ALIVE_LOST (R201): no toggle for 3 ms; both groups locked out until a restart. -/
def execRunnerAliveLost (t : Nat) (s : State) : Out :=
  let s := s.at t
  if !s.safety.blockLatched || s.safety.runnerDead || s.ns < s.safety.toggledAt + ms 3 then .next s
  else
    let s := { s with safety := { s.safety with runnerDead := true } }
    let s := (List.finRange 2).foldl (fun (s : State) g =>
      ((s.dropEnable .bedstone g).groupOff g).modGrp g fun x => { x with lockRestart := true, runDead := true }) s
    .next (s.event 0x323 5 1 0 0 0)

/-- A dark pulse ends 300 µs after it began (Table 7-3). -/
def State.endDark (s : State) : State :=
  { s with safety := { s.safety with src := s.safety.src.map fun x => if due (x.dark.map (· + 300000)) s.ns then { x with dark := none } else x } }

/-- SAFETY_INPUT_SAMPLE (R200, R129, R213, R214): one sample in both channels; Bedstone's logic follows at once. -/
def execSafetyInputSample (t : Nat) (runner bedstone : SafetySample) (s : State) : Out :=
  let s := (s.at t).endDark
  let old := s
  let s := (s.sampleInputs .runner runner).sampleInputs .bedstone bedstone
  let s := (s.resetEdges old .local).resetEdges old .trainLine
  let s := (s.watchPairs .bedstone).watchEdges .bedstone
  let s := s.eachDoor fun s d => if s.fitted d then s.requestLine .bedstone d (s.edgeRequest .bedstone d) else s
  .next s.watchCounts.watchFb

/-! ## Test-pulse sources (R213, R216) -/

def State.modSrc (s : State) (k : Src) (f : SrcSt → SrcSt) : State :=
  { s with safety := { s.safety with src := s.safety.src.set k.1 (f s.safety.src[k.1]) k.2 } }

/-- A digital output supply of the variant is good (R393). -/
def State.anyVdo (s : State) : Bool := (List.finRange 4).any fun k => s.half 4 k.1 && !s.io.vdo.getLsbD k.1

/-- TEST_PULSE (R213): the token holder's source goes dark at its place in the round, while at least one supply carries it (R393). -/
def execTestPulse (t : Nat) (src : Src) (s : State) : Out :=
  let s := (s.at t).endDark
  if s.anyVdo && s.pair.token && s.safety.gridLocked && s.safety.src[src.1].on && s.gridPos = 50 * src.1 then
    .next (s.modSrc src fun x => { x with dark := some s.ns })
  else .next s

/-- PULSE_GRID_LOCK (R213): at a round's start as read back from the driving partner. -/
def execPulseGridLock (t : Nat) (s : State) : Out :=
  let s := s.at t
  if s.pair.token then .next s
  else .next { s with safety := { s.safety with gridLocked := true, gridOrigin := s.ns } }

/-- Groups with an input fed from a source. -/
def State.usesSource (s : State) (g : Group) (src : Src) : Bool :=
  s.fbSrc g == src || (List.finRange 16).any fun d => s.fitted d && s.group d == g && (List.finRange 10).any fun k => s.tagOf d k == src

/-- SOURCE_FAULT (R216): the source goes off; the channel latches the fault for itself. -/
def execSourceFault (t : Nat) (src : Src) (ch : SafetyCh) (s : State) : Out :=
  let s := s.at t
  if !s.pair.token then .next s
  else
    let s := s.modSrc src fun x => { x with on := false, offSince := some (x.offSince.getD s.ns) }
    let c := s.chan ch
    if c.srcFault[src.1] then .next s
    else
      let s := s.setChan ch { c with srcFault := c.srcFault.set src.1 true }
      let s := (List.finRange 2).foldl (fun (s : State) g =>
        if s.usesSource g src then s.modGrp g fun x => { x with srcFlt := true } else s) s
      .next (s.event 0x324 4 (chBit ch) (word (src.1 + 1)) 0 0)

/-- SOURCE_RETRY (R216). -/
def execSourceRetry (t : Nat) (src : Src) (s : State) : Out :=
  let s := s.at t
  let x := s.safety.src[src.1]
  if !x.on && due (x.offSince.map (· + ms 1000)) s.ns then
    .next (s.modSrc src fun x => { x with on := true, offSince := none, runSince := s.ns })
  else .next s

/-! ## Output tests (R211, R212, R227) -/

/-- An output stuck on: the other one goes off, the group is locked out until a restart. -/
def State.stuckOn (s : State) (g : Group) (lowSide : Bool) : State :=
  let s := ((s.dropEnable .bedstone g).groupOff g).modGrp g fun x => { x with lockRestart := true, outFlt := true, startTest := none }
  let s := s.modGrp g fun x => if lowSide then { x with m := true, stuckM := true } else { x with p := true, stuckP := true }
  s.event 0x322 5 (if lowSide then 2 else 1) (word (g.1 + 1)) 0 0

/-- The feedback of a group reads dropped out in both channels (R227). -/
def State.fbOff (s : State) (g : Group) : Bool :=
  s.fbValid .runner g && s.fbValid .bedstone g && s.fbDropped .runner g && s.fbDropped .bedstone g

/-- The end of the start-up test (R227): the group is tested, or locked out where its feedback does not read dropped out. DESIGN CHOICE: the
event then names neither output, cause 0 (log 28). -/
def State.startTestEnd (s : State) (g : Group) : State :=
  if s.fbOff g then s.modGrp g fun x => { x with tested := true, startTest := none }
  else
    let s := (((s.dropEnable .runner g).dropEnable .bedstone g).groupOff g).modGrp g fun x => { x with
      lockRestart := true, outFlt := true, startTest := none }
    s.event 0x322 5 0 (word (g.1 + 1)) 0 0

/-- OUTPUT_TEST (R211, R227): Bedstone pulses one output and reads it back: DLn-P once every second of an energised group, from one second
after it was energised (log 28), and DLn-M half a second later. Of a group that is not energised it is the start-up test, DLn-P first. -/
def execOutputTest (t : Nat) (g : Group) (lowSide reachedOff : Bool) (s : State) : Out :=
  let s := s.at t
  let x := s.safety.grp[g.1]
  if x.on then
    if s.ns < x.testAt || lowSide != x.testLow then .next s
    else
      let s := (s.modGrp g fun x => { x with lastTest := s.ns, testAt := s.ns + ms 500, testLow := !x.testLow }).bump (0x71 + g.1) 3
      .next (if reachedOff then s else s.stuckOn g lowSide)
  else if x.startTest.isNone then .next s
  else
    let s := s.bump (0x71 + g.1) 3
    if !reachedOff then .next (s.stuckOn g lowSide)
    else if !lowSide then .next (s.modGrp g fun x => { x with startP := true })
    else if x.startP then .next (s.startTestEnd g)
    else .next s

/-- OUTPUT_TEST_MISSING (R212): Runner sees no test on an energised group for 3 s. -/
def execOutputTestMissing (t : Nat) (g : Group) (s : State) : Out :=
  let s := s.at t
  let x := s.safety.grp[g.1]
  if !x.on || !s.safety.running || s.ns < x.lastTest + ms 3000 then .next s
  else
    let s := ((s.dropEnable .runner g).groupOff g).modGrp g fun x => { x with lockRestart := true, outFlt := true }
    .next (s.event 0x322 5 3 (word (g.1 + 1)) 0 0)

/-! ## Discrepancies (R218, R219) -/

/-- Cause of event index 35. -/
def pairCause : SwitchPair → Nat | .lock => 1 | .closed => 2 | .step => 3

/-- PAIR_DISCREPANCY (R218). -/
def execPairDiscrepancy (t : Nat) (d : Door) (pair : SwitchPair) (ch : SafetyCh) (s : State) : Out :=
  let s := s.at t
  let c := s.chan ch
  let w := (c.pairs[d.1])[(pairIdx pair).1]
  match w.since with
  | none => .next s
  | some since =>
    if w.fault || s.ns ≤ since + ms s.cfg.bedstone.pairDiscMs then .next s
    else
      let row := c.pairs[d.1].set (pairIdx pair).1 { w with fault := true, sawOpen := false }
      let s := s.setChan ch { c with pairs := c.pairs.set d.1 row }
      let s := s.modGrp (s.group d) fun x => { x with pairDisc := true }
      .next (s.doorEvent d 35 4 (pairCause pair + chBit ch) 0 0 0).watchCounts

/-- CHANNEL_DISCREPANCY (R219): both channels de-energise the group and latch the lockout. -/
def execChannelDiscrepancy (t : Nat) (d : Door) (s : State) : Out :=
  let s := s.at t
  let g := s.group d
  match s.safety.grp[g.1].chanDisc[d.1] with
  | none => .next s
  | some since =>
    if s.ns ≤ since + ms s.cfg.bedstone.channelDiscMs || s.safety.runner.discLock.getLsbD g.1 then .next s
    else
      let lock := fun (s : State) (ch : SafetyCh) =>
        s.setChan ch { s.chan ch with discLock := (s.chan ch).discLock ||| ((1#2) <<< g.1) }
      let s := lock (lock s .runner) .bedstone
      let s := (((s.dropEnable .runner g).dropEnable .bedstone g).groupOff g).modGrp g fun x => { x with chDisc := true }
      .next (s.doorEvent d 36 5 0 (word (g.1 + 1)) (BitVec.ofNat 32 ((s.ns - since) / 1000000)) 0)

/-! ## Evidence of a reversal (R220, R221) -/

/-- What a check finds wrong: the overrun in sc where it does. -/
def State.notEvidenced (s : State) (d : Door) (check : EvidenceCheck) (ch : SafetyCh) : Option Int :=
  match (s.chan ch).watch[d.1] with
  | none => none
  | some w =>
    let moved := (w.ext - s.enc[d.ch.1].ext).toInt
    match check with
    | .readback =>
      let line := match ch with | .runner => s.obs[d.1].reqRunner | .bedstone => s.obs[d.1].reqBed
      if w.since + 100000 ≤ s.ns && line && !s.obs[d.1].latch then some moved else none
    | .mode => if ch = .runner ∧ w.modeBad then some moved else none
    | .overrun =>
      if ch = .runner ∧ s.ns ≤ w.since + ms s.cfg.runner.evidenceMs ∧ (s.cfg.runner.overrunSc : Int) < moved then some moved else none

/-- Check code of event index 37. -/
def EvidenceCheck.code : EvidenceCheck → Nat | .readback => 1 | .mode => 2 | .overrun => 3

/-- REVERSAL_NOT_EVIDENCED (R220, R221): the channel asserts its safe-state request line. -/
def execReversalNotEvidenced (t : Nat) (d : Door) (check : EvidenceCheck) (ch : SafetyCh) (s : State) : Out :=
  let s := s.at t
  match s.notEvidenced d check ch with
  | none => .next s
  | some moved =>
    let c := s.chan ch
    let line : BitVec 2 := match ch with | .runner => 1 | .bedstone => 2
    let s := s.setChan ch { c with watch := c.watch.set d.1 none }
    let s := { s with safety := { s.safety with reqLine := s.safety.reqLine ||| line } }
    let s := s.modGrp (s.group d) fun x => { x with noEvid := true }
    .next (s.doorEvent d 37 5 (EvidenceCheck.code check + chBit ch) (word moved) 0 0)

/-! ## Safety reset (R222-R225) -/

/-- A pulse fault's cause has gone: 1 s without fault. -/
def SFilt.cleared (f : SFilt) (now : Nat) : SFilt :=
  if f.badAt + ms 1000 ≤ now then { f with missing := false, cross := none } else f

/-- An input has a latched pulse fault. -/
def SFilt.faulty (f : SFilt) : Bool := f.missing || f.cross.isSome

/-- A channel clears those of its own latches whose cause has gone: pulse and source faults, and then the discrepancies of pairs
that agree as their inputs now read. -/
def State.clearLatches (s : State) (ch : SafetyCh) : SafeChan :=
  let run := fun (k : Src) => s.safety.src[k.1].on && decide (s.safety.src[k.1].runSince + ms 1000 ≤ s.ns)
  let c := s.chan ch
  let c := { c with
    inp := c.inp.map fun r => r.map fun f => f.cleared s.ns
    fb := c.fb.map fun f => f.cleared s.ns
    srcFault := Vector.ofFn fun k => c.srcFault[k.1] && !run k }
  let s := s.setChan ch c
  let agree := fun (d : Door) (p : SwitchPair) =>
    let w := (c.pairs[d.1])[(pairIdx p).1]
    if w.fault && s.pairRead ch d p != .discrepant then {} else w
  let bits := fun (f : Group → Bool) => (if f 0 then (1#2) else 0) ||| (if f 1 then (2#2) else 0)
  { c with
    pairs := Vector.ofFn fun d => #v[agree d .lock, agree d .closed, agree d .step]
    fbLock := c.fbLock &&& bits fun g => c.fbWrong[g.1].isSome
    discLock := c.discLock &&& bits fun g => s.safety.grp[g.1].chanDisc.toList.any Option.isSome }

/-- Latches a channel holds: pulse faults, source faults, pair discrepancies, lockouts. -/
def SafeChan.latches (c : SafeChan) : Bool × Bool × Bool × Bool :=
  (c.inp.toList.any (fun r => r.toList.any SFilt.faulty) || c.fb.toList.any SFilt.faulty, c.srcFault.toList.any id,
   c.pairs.toList.any (fun r => r.toList.any PairWatch.fault), c.fbLock != 0 || c.discLock != 0)

/-- Any latch. -/
def anyLatch (x : Bool × Bool × Bool × Bool) : Bool := x.1 || x.2.1 || x.2.2.1 || x.2.2.2

/-- Bit mask as byte 0x01 of Table 7-10: XSHORT, SRCFLT and PAIRDISC. -/
def clearedMask (a b : Bool × Bool × Bool × Bool) : Nat :=
  (a.1 && !b.1).toNat + 2 * (a.2.1 && !b.2.1).toNat + 16 * (a.2.2.1 && !b.2.2.1).toNat

/-- A lockout that only a restart clears is in force (R225). -/
def State.restartLatch (s : State) : Bool :=
  s.safety.grp[0].lockRestart || s.safety.grp[1].lockRestart || s.sluice.safe || !s.safety.blockOk

/-- A reset is refused (R224): counted per code, event 0x327. -/
def State.resetRefused (s : State) (code : Nat) : State := (s.bump 0x80 (7 + code - 0xA0)).event 0x327 1 code 0 0 0

/-- SAFETY_RESET (R222-R225): acts on the edges that the channels have detected. -/
def execSafetyReset (t : Nat) (src : ResetInput) (s : State) : Out :=
  let s := s.at t
  let x := s.safety.rst[(resetIdx src).1]
  if !x.edgeR && !x.edgeB then .next s
  else
    let s := { s with safety := { s.safety with
      rst := s.safety.rst.set (resetIdx src).1 { x with edgeR := false, edgeB := false } } }
    if s.safety.rst[0].jammed || s.safety.rst[1].jammed then .next (s.resetRefused 0xA0)
    else
      let was := s
      let s := if x.edgeR then s.setChan .runner (was.clearLatches .runner) else s
      let s := if x.edgeB then s.setChan .bedstone (was.clearLatches .bedstone) else s
      let s := s.watchCounts.watchFb
      let left := (x.edgeR && anyLatch s.safety.runner.latches) || (x.edgeB && anyLatch s.safety.bedstone.latches)
      let mask := clearedMask was.safety.runner.latches s.safety.runner.latches |||
        clearedMask was.safety.bedstone.latches s.safety.bedstone.latches
      if s.restartLatch then .next (s.resetRefused 0xA2)
      else if left then .next (s.resetRefused 0xA1)
      else .next ((s.bump 0x80 (5 + (resetIdx src).1)).event 0x326 2 ((resetIdx src).1 + 1) (BitVec.ofNat 32 mask) 0 0)

/-- A reset source has read active, or inactive, in a channel for a time. -/
def State.resetHeld (s : State) (ch : SafetyCh) (src : ResetInput) (v : Bool) (n : Nat) : Bool :=
  let f := (s.chan ch).reset src
  decide (s.cfg.bedstone.filterLimit + 4 ≤ f.given) && f.filtered == v && decide (f.since + n ≤ s.ns)

/-- RESET_SOURCE_JAMMED (R223): an enabled source active for longer than 10 s. -/
def execResetSourceJammed (t : Nat) (src : ResetInput) (s : State) : Out :=
  let s := s.at t
  let x := s.safety.rst[(resetIdx src).1]
  let long := s.resetHeld .runner src true (ms 10000 + 1) || s.resetHeld .bedstone src true (ms 10000 + 1)
  if x.jammed || !s.resetEnabled src || !long then .next s
  else
    let s := { s with safety := { s.safety with rst := s.safety.rst.set (resetIdx src).1 { x with jammed := true } } }
    .next (s.event 0x325 4 ((resetIdx src).1 + 1) 0 0 0)

/-- RESET_SOURCE_UNJAMMED (R223): inactive for 100 ms in both channels. -/
def execResetSourceUnjammed (t : Nat) (src : ResetInput) (s : State) : Out :=
  let s := s.at t
  let x := s.safety.rst[(resetIdx src).1]
  if s.resetHeld .runner src false (ms 100) && s.resetHeld .bedstone src false (ms 100) then
    .next { s with safety := { s.safety with rst := s.safety.rst.set (resetIdx src).1 { x with jammed := false } } }
  else .next s

end Sys2Proof.Machine
end

