-- ==== Sys2Proof/Machine/FieldIo.lean ====
section
/-!
DEFINITION. Sys2Proof/Machine/FieldIo.lean: field inputs, train lines, time-stamps, digital outputs and load switches (08_field_io),
and the release state (R287), which follows the train lines as well as the telegrams.
-/
namespace Sys2Proof.Machine

/-! ## Release state (R287, Table 9-6b) -/

/-- Release state of a side: its telegram bit and its train line (function 1 left, 2 right). -/
def State.releaseState (s : State) (right : Bool) : Bool :=
  let bitSet := if right then s.tele.bitR else s.tele.bitL
  let line := s.tlOn (if right then 2 else 1)
  match s.cfg.bus.releaseMode with
  | 0 => line
  | 1 => bitSet && line
  | _ => bitSet && (!s.tele.single || line)

/-- Take the release state of both sides. -/
def State.updateRelease (s : State) : State :=
  { s with tele := { s.tele with relL := s.releaseState false, relR := s.releaseState true } }

/-! ## The input filter (R240, R241, R243) -/

/-- Safety input of a field input's place, none for the pushbuttons. -/
def safetyPos (k : Fin 12) : Option (Fin 10) :=
  if h : k.1 < 8 then some ⟨k.1, by omega⟩ else if h : 10 ≤ k.1 then some ⟨k.1 - 2, by omega⟩ else none

/-- Test-pulse source of a field input on Miller's path, none where it has no tag. -/
def State.fiTag (s : State) (n : Fi) : Option Src :=
  if s.cfg.io.fi[n.1].general then none else (safetyPos n.pos).map fun k => s.tagOf n.door k

/-- Band of a sink current in µA (Table 8-2). -/
def bandOf (paired : Bool) (ua : Nat) : Band :=
  let k := if paired then 2 * ua else ua
  if k < 300 then .wireBreak else if k < 1000 then .degraded else if k < 1800 then .open
  else if k < 4000 then .indeterminate else .closed

/-- The counter filter of R240. -/
def InSt.count (x : InSt) (limit : Nat) (on : Bool) : InSt :=
  let c := if on then min (x.c + 1) limit else x.c - 1
  { x with c := c, given := x.given + 1, filtered := if c = limit then true else if c = 0 then false else x.filtered }

/-- A sample classified by current: the band's run, and 1 s in a good band (R244). -/
def InSt.inBand (x : InSt) (b : Band) (now : Nat) : InSt :=
  { x with
    band := some b, bandAt := if x.band = some b then x.bandAt else now
    goodAt := if b = .open ∨ b = .closed then some (x.goodAt.getD now) else none }

/-- The IN engine of a field input runs: IN-1 for the first six of its doorway, IN-2 for the rest (R240, R382). -/
def State.inRuns (s : State) (n : Fi) : Bool := s.engineRuns n.door (if n.pos.1 < 6 then 7 else 8)

/-- One sample of a field input, and whether it was indeterminate. -/
def State.fiSample (s : State) (v : FieldSample) (n : Fi) : InSt × Bool :=
  let x := s.io.fi[n.1]
  let g := s.cfg.io.fi[n.1]
  let skip := match s.fiTag n with | some k => s.safety.gridLocked && ownWindow k s.gridPos | none => false
  if !s.half 192 n.1 || !s.inRuns n || skip then (x, false)
  else if g.wireBreak then
    let b := match v.ua.find? fun (p : Fi × Nat) => p.1 == n with
      | some p => bandOf s.io.pairSink p.2
      | none => if v.fi.getLsbD n.1 then .closed else .open
    let x := x.inBand b s.ns
    if b = .indeterminate then (x, true) else (x.count g.limit (b == .closed), false)
  else (x.count g.limit (v.fi.getLsbD n.1), false)

/-- Loss of the zero-speed train line (R185). -/
def State.zeroSpeedLost (s : State) : State :=
  s.eachDoor fun s d =>
    if s.fitted d && s.cyc[d.1].state != .closedLocked && s.cyc[d.1].state != .isolated then
      s.doorEvent d 11 4 0 (BitVec.ofNat 32 s.cyc[d.1].state.code) 0 0
    else s

/-- An input at a phase 0 latch (R240, R242): a value that has become valid is its starting level, and rises only after it. -/
def InSt.latch (x : InSt) (limit : Nat) : InSt :=
  { x with value := x.filtered, valid := decide (limit + 4 ≤ x.given), edge := x.valid && !x.value && x.filtered }

/-- Miller's inputs at the phase 0 latch: release and zero speed follow them. -/
def State.latchInputs (s : State) : State :=
  let zero := s.zeroSpeed
  let s := { s with io := { s.io with
    fi := Vector.ofFn fun n => s.io.fi[n.1].latch s.cfg.io.fi[n.1].limit
    tl := Vector.ofFn fun n => s.io.tl[n.1].latch s.cfg.io.tl[n.1].limit } }.updateRelease
  if zero && !s.zeroSpeed && s.maint.configured then s.zeroSpeedLost else s

/-- INPUT_SAMPLE (R240, R243, R248): IN-1, IN-2 and the train lines. -/
def execInputSample (t : Nat) (x : FieldSample) (s : State) : Out :=
  let s := s.at t
  let r : Vector (InSt × Bool) 192 := Vector.ofFn fun n => s.fiSample x n
  let tl : Vector InSt 16 := Vector.ofFn fun n => s.io.tl[n.1].count s.cfg.io.tl[n.1].limit (x.tl.getLsbD n.1)
  let s := { s with io := { s.io with fi := r.map Prod.fst, tl := tl } }
  .next ((List.finRange 192).foldl (fun (s : State) (n : Fi) =>
    if r[n.1].2 then
      let s := s.bumpFi n 3
      { s with io := { s.io with indet := s.io.indet ||| ((1#16) <<< n.door.1) } }
    else s) s)

/-- The input has been in a band for 100 ms. -/
def State.inBand100 (s : State) (n : Fi) (b : Band) : Bool :=
  s.inRuns n && s.io.fi[n.1].band == some b && decide (s.io.fi[n.1].bandAt + ms 100 ≤ s.ns)

/-- WIRE_BREAK (R244). -/
def execWireBreak (t : Nat) (n : Fi) (s : State) : Out :=
  let s := s.at t
  if !s.inBand100 n .wireBreak || s.io.fi[n.1].wbrk then .next s
  else
    let s := (s.modFi n fun x => { x with wbrk := true }).bumpFi n 2
    let s := { s with io := { s.io with wbrk := s.io.wbrk ||| ((1#16) <<< n.door.1) } }
    .next (s.doorEvent n.door 38 3 1 (BitVec.ofNat 32 (n.1 + 1)) 0 0)

/-- DEGRADED_RESISTOR (R244). -/
def execDegradedResistor (t : Nat) (n : Fi) (s : State) : Out :=
  let s := s.at t
  if !s.inBand100 n .degraded || s.io.fi[n.1].wdeg then .next s
  else
    let s := s.modFi n fun x => { x with wdeg := true }
    let s := { s with io := { s.io with wdeg := s.io.wdeg ||| ((1#16) <<< n.door.1) } }
    .next (s.doorEvent n.door 38 3 2 (BitVec.ofNat 32 (n.1 + 1)) 0 0)

/-- WIRE_BREAK_CLEAR (R244): 1 s of samples in the open or closed band. -/
def execWireBreakClear (t : Nat) (n : Fi) (s : State) : Out :=
  let s := s.at t
  if s.inRuns n && due (s.io.fi[n.1].goodAt.map (· + ms 1000)) s.ns then .next (s.modFi n fun x => { x with wbrk := false, wdeg := false })
  else .next s

/-! ## Time-stamps (R245-R247) -/

/-- State of a stamped input. -/
def State.stampSt (s : State) : StampInput → InSt
  | .fi n => s.io.fi[n.1]
  | .tl n => s.io.tl[n.1]

def State.modStamp (s : State) (i : StampInput) (f : InSt → InSt) : State :=
  match i with
  | .fi n => s.modFi n f
  | .tl n => { s with io := { s.io with tl := s.io.tl.set n.1 (f s.io.tl[n.1]) } }

/-- Stamping is enabled on the input, and the CAP engine that samples a field input runs (R245, R382). -/
def State.stamps (s : State) : StampInput → Bool
  | .fi n => s.cfg.io.fi[n.1].stamp && s.half 192 n.1 && s.engineRuns n.door 11
  | .tl n => s.cfg.io.tl[n.1].stamp

/-- A tagged input is not stamped for 400 µs from the start of its own source's dark pulse. -/
def State.stampMasked (s : State) : StampInput → Bool
  | .fi n => match s.fiTag n with
    | some k => s.safety.gridLocked && decide ((s.ns - s.safety.gridOrigin + 20000000 - 5000000 * k.1) % 20000000 < 400000)
    | none => false
  | .tl _ => false

/-- Order of stamps of one microsecond: field inputs by number, then train lines. -/
def Stamp.key (e : Stamp) : Nat := e.mill * 1024 + (if e.tl then 512 else 0) + e.input

/-- Insert a stamp in FIFO order; the stamp numbers stay in that order. -/
def insertStamp (e : Stamp) : List Stamp → List Stamp
  | [] => [e]
  | x :: r => if e.key < x.key then { e with seq := x.seq } :: insertStamp { x with seq := e.seq } r else x :: insertStamp e r

/-- Input number of a stamp. -/
def StampInput.number : StampInput → Nat | .fi n => n.1 + 1 | .tl n => n.1 + 1
def StampInput.isTl : StampInput → Bool | .fi _ => false | .tl _ => true

/-- Write a stamp, or drop and count it where the FIFO of 1,024 is full. A hold-off follows. -/
def State.writeStamp (s : State) (i : StampInput) (level settle : Bool) (mill : Nat) : State :=
  let x := s.stampSt i
  let s := s.modStamp i fun x => { x with
    stampLevel := level, holdoff := some (s.ns + 1000 * s.cfg.io.holdoffUs), suppressed := 0 }
  if 1024 ≤ s.io.stamps.length then
    let lost := min 65535 (s.io.stampLost + 1)
    let s := { s with io := { s.io with stampLost := lost, stLost := true } }
    (s.bump 0x80 3).event 0x352 2 0 (BitVec.ofNat 32 lost) 0 0
  else
    let e : Stamp := { mill, input := StampInput.number i, level, tl := StampInput.isTl i, settle, seq := s.io.stampSeq
                       lost := s.io.stampLost, suppressed := min 65535 x.suppressed }
    { s with io := { s.io with stamps := insertStamp e s.io.stamps, stampSeq := s.io.stampSeq + 1, stampLost := 0 } }

/-- Count a suppressed stamp. -/
def State.countSuppressed (s : State) : StampInput → State
  | .fi n => s.bumpFi n 4
  | .tl n => s.bumpTl n.1 4

/-- INPUT_EDGE_STAMP (R245, R246). -/
def execInputEdgeStamp (t : Nat) (i : StampInput) (level : Bool) (s : State) : Out :=
  let s := s.at t
  let x := s.stampSt i
  if !s.stamps i || s.stampMasked i || x.level == level then .next s
  else
    let s := s.modStamp i fun x => { x with level := level }
    if x.holdoff.isSome then .next ((s.modStamp i fun x => { x with suppressed := x.suppressed + 1 }).countSuppressed i)
    else .next (s.writeStamp i level false s.mill)

/-- STAMP_HOLDOFF_END (R246): a level that differs from the last stamped one is stamped with SETTLE. -/
def execStampHoldoffEnd (t : Nat) (i : StampInput) (s : State) : Out :=
  let s := s.at t
  let x := s.stampSt i
  match x.holdoff with
  | none => .next s
  | some e =>
    if s.ns < e || !s.stamps i then .next s
    else
      let s := s.modStamp i fun x => { x with holdoff := none }
      .next (if x.level != x.stampLevel then s.writeStamp i x.level true (e / 1000) else s)

/-! ## Digital outputs (R250-R252) -/

/-- Connector X12-X15 of a doorway (R388). -/
def connOf (d : Door) : Fin 4 := ⟨d.1 / 4, by omega⟩

/-- Encoder supplies of a VDO's doorways fail or return, as this module's own outputs show them (R32, R393). -/
def State.vdoSupply (s : State) (conn : Fin 4) (bad : Bool) : State :=
  s.eachCh fun s c =>
    if !s.chFitted c || connOf c.door ≠ conn || (!bad && !s.enc[c.1].supplyBad) then s
    else
      let s := s.encCondition c
      if bad then (s.modEnc c fun e => { e with supply := true, supplyBad := true }).encoderFault c 4
      else s.modEnc c fun e => { e with supplyBad := false }

/-- VDO_FAULT (R250): below 18 V for 10 ms. -/
def execVdoFault (t : Nat) (conn : Fin 4) (s : State) : Out :=
  let s := s.at t
  if s.io.vdo.getLsbD conn.1 then .next s
  else
    let b : BitVec 4 := (1#4) <<< conn.1
    let s := { s with io := { s.io with vdo := s.io.vdo ||| b, vdoSticky := s.io.vdoSticky ||| b } }
    .next ((s.event 0x350 4 0 (BitVec.ofNat 32 (12 + conn.1)) 0 0).vdoSupply conn true)

/-- VDO_FAULT_END (R250): at 19.2 V or more for 100 ms; the readback check resumes with its blanking. -/
def execVdoFaultEnd (t : Nat) (conn : Fin 4) (s : State) : Out :=
  let s := s.at t
  if !s.io.vdo.getLsbD conn.1 then .next s
  else
    let s := { s with io := { s.io with vdo := s.io.vdo &&& ~~~((1#4) <<< conn.1) } }
    let s := (List.finRange 32).foldl (fun (s : State) n =>
      if connOf n.door = conn then s.modDout n fun x => { x with blank := s.ns + 500000, mismatch := none } else s) s
    .next (s.vdoSupply conn false)

/-- One output against its readback: compared while it is driven, past the blanking, its VDO good, the token held and the DO engine running
(R251, R263, R382). -/
def State.readbackOne (s : State) (r : BitVec 32) (n : Dout) : State :=
  s.modDout n fun x =>
    if x.pin = .z ∨ s.ns < x.blank ∨ s.io.vdo.getLsbD (connOf n.door).1 ∨ !s.pair.token ∨ !s.engineRuns n.door 10 then { x with mismatch := none }
    else
      let high := r.getLsbD n.1
      if high = x.pin.level then { x with mismatch := none }
      else { x with mismatch := some (x.mismatch.getD s.ns), readHigh := high }

/-- DO_READBACK_CHECK (R251): every 100 µs. -/
def execDoReadbackCheck (t : Nat) (readback : BitVec 32) (s : State) : Out :=
  let s := s.at t
  .next ((List.finRange 32).foldl (fun s n => s.readbackOne readback n) s)

/-- DO_FAULT (R251): the mismatch has lasted its time; the output goes high-impedance until cleared. -/
def execDoFault (t : Nat) (n : Dout) (s : State) : Out :=
  let s := s.at t
  let x := s.io.dout[n.1]
  if x.fault || !due (x.mismatch.map (· + ms s.cfg.io.dout[n.1].mismatchMs)) s.ns then .next s
  else
    let s := s.modDout n fun x => { x with fault := true, faultSticky := true, pin := .z, mismatch := none }
    let s := s.bump (0xA1 + n.1 / 16) (n.1 % 16)
    .next (s.doorEvent n.door 39 3 (if x.readHigh then 1 else 2) (BitVec.ofNat 32 (n.1 + 1)) 0 0)

/-- Door-state function of an output (Table 8-4). Function 5 blinks at 1 Hz, its on-phase starting at acceptance. -/
def State.doFunction (s : State) (n : Dout) : Bool :=
  let d := n.door
  let y := s.cyc[d.1]
  match s.cfg.io.dout[n.1].function with
  | 1 => y.state == .closedLocked || y.state == .released
  | 2 => s.released d
  | 3 => y.state.moving
  | 4 => y.state == .faultHeld || y.state == .isolated
  | 5 => y.closeCmd && (match y.closeTick with | some k => decide ((s.tick - k) % 8000 < 4000) | none => false)
  | _ => false

/-- Miller applies the door-state functions (R252), at every tick. -/
def State.functionTick (s : State) : State :=
  (List.finRange 32).foldl (fun (s : State) n =>
    if s.doSource n = 0 then
      let v := s.doFunction n
      if s.io.dout[n.1].cmd = v then s else (s.modDout n fun x => { x with cmd := v }).driveDo n
    else s) s

/-! ## Load switches (R253-R260) -/

/-- Counter k of a load switch: five each from instance 0xA3. -/
def State.bumpLs (s : State) (n : Ls) (k : Nat) : State := s.bump (0xA3 + n.1 / 16) (n.1 % 16 * 5 + k)

/-- Pause before retry k: 8 ms doubled each time, at most 4,096 ms from retry 10 on (R255). -/
def retryPause (k : Nat) : Nat := ms (min 4096 (8 * 2 ^ (k - 1)))

/-- Limit time accumulated with a spell of `us` µs that ends now: 10 ms on without limit before it have returned it to zero (R254). -/
def LsSt.limitWith (x : LsSt) (us now : Nat) : Nat := (if ms 10 ≤ x.cleanNs (now - 1000 * us) then 0 else x.limitUs) + us

/-- LS_OVERCURRENT (R254, R255): a switch that is on has been in current limit up to now, or has reached thermal shutdown. At 1 ms of
accumulated limit time it is off, with a retry or the latch to follow. Under Sluice the retry schedule does not run (R262). -/
def execLsOvercurrent (t : Nat) (x : LimitSpell) (s : State) : Out :=
  let s := s.at t
  let n := x.n
  let y := s.io.ls[n.1]
  if !y.on then .next s
  else if y.limitWith x.us s.ns < 1000 && !x.thermal then
    .next (s.modLs n fun z => { z with limitUs := y.limitWith x.us s.ns, limitAt := s.ns, clean := 0, cleanAt := s.ns })
  else
    let num := BitVec.ofNat 32 (n.1 + 1)
    let s := (s.modLs n fun x => { x with on := false, active := 0, limitUs := 0, limitAt := s.ns, clean := 0, cleanAt := s.ns }).bumpLs n 0
    let s := s.doorEvent n.door 40 1 0 num (BitVec.ofNat 32 y.tries) 0
    if s.sluice.safe then .next s
    else if y.tries < s.cfg.ls.maxTries then
      .next (s.modLs n fun x => { x with pause := some (s.ns + retryPause (y.tries + 1)), ended := false })
    else .next (((s.modLs n fun x => { x with latched := true }).bumpLs n 1).doorEvent n.door 41 4 0 num 0 0)

/-- LS_RETRY (R255, R257), by the LS engine while it runs (R382): the pause is over; the pin follows its command. An ended sequence, or a
shed switch (R260), counts no try. -/
def execLsRetry (t : Nat) (n : Ls) (s : State) : Out :=
  let s := s.at t
  let x := s.io.ls[n.1]
  if !due x.pause s.ns || s.sluice.safe || !s.engineRuns n.door 9 then .next s
  else
    let counts := x.cmd && !x.ended && !x.shed
    .next ((s.modLs n fun x => { x with
      pause := none, ended := false, tries := if counts then x.tries + 1 else x.tries }).driveLs n)

/-- LS_TRY_COUNT_RESET (R255): 10 s of continuous on-time without current limit. -/
def execLsTryCountReset (t : Nat) (n : Ls) (s : State) : Out :=
  let s := s.at t
  let x := s.io.ls[n.1]
  if x.on && s.engineRuns n.door 9 && max x.onAt x.limitAt + ms 10000 ≤ s.ns then .next (s.modLs n fun x => { x with tries := 0 }) else .next s

/-- Duty that the copy at a period start finds: a write in the same 5 ns clock counts as after it (R258). -/
def LsSt.shadowNow (x : LsSt) (now : Nat) : Nat := if x.shadowAt + 5 ≤ now then x.shadow else x.shadowPrev

/-- LS_PWM_PERIOD_START (R258, R259): the duty is copied; an on-time below 50 µs is dropped and counted; below 10 % no open-load
sample is taken and the skip is counted. A stopped LS engine does none of it (R382). -/
def execLsPwmPeriodStart (t : Nat) (n : Ls) (s : State) : Out :=
  let s := s.at t
  if s.ns % 5000000 ≠ n.1 * 100000 || !s.half 48 n.1 || !s.engineRuns n.door 9 || s.sluice.safe || s.cyc[n.door.1].restarting then .next s
  else
    let duty := s.io.ls[n.1].shadowNow s.ns
    let dropped := s.io.ls[n.1].on && decide (0 < duty) && decide (duty < 10)
    let skipped := s.io.ls[n.1].on && decide (0 < duty) && decide (duty < 100) && s.cfg.ls.sw[n.1].olRange != 0
    let s := s.modLs n fun x => { x.settle s.ns with active := if dropped || !x.on then 0 else duty }
    let s := if dropped then s.bumpLs n 3 else s
    .next (if skipped then s.bumpLs n 4 else s)

/-- Open-load threshold in 0.1 mA (Table 8-9). -/
def State.olThreshold (s : State) (n : Ls) : Nat :=
  let g := s.cfg.ls.sw[n.1]
  if g.olRange = 2 then 5 * g.olThreshold else 10 * g.olThreshold

/-- OPEN_LOAD (R259): every sample of openload_ms lay below the threshold; `mean` is in 0.1 mA. -/
def execOpenLoad (t : Nat) (n : Ls) (mean : Nat) (s : State) : Out :=
  let s := s.at t
  let x := s.io.ls[n.1]
  if s.cfg.ls.sw[n.1].olRange = 0 || !x.on || !s.engineRuns n.door 9 || x.active < 100 || x.openCond || s.ns < x.onAt + ms s.cfg.ls.openLoadMs ||
     s.olThreshold n ≤ mean then .next s
  else
    let s := (s.modLs n fun x => { x with openCond := true, openAt := s.ns, openLd := true }).bumpLs n 2
    .next (s.doorEvent n.door 42 3 0 (BitVec.ofNat 32 (n.1 + 1)) (BitVec.ofNat 32 mean) 0)

/-- OPEN_LOAD_CLEAR (R259): for 1 s of samples the least lay above 1.25 times the threshold. -/
def execOpenLoadClear (t : Nat) (x : LeastSample) (s : State) : Out :=
  let s := s.at t
  let n := x.n
  let y := s.io.ls[n.1]
  if y.on && s.engineRuns n.door 9 && 100 ≤ y.active && max y.onAt y.openAt + ms 1000 ≤ s.ns && 5 * s.olThreshold n < 4 * x.least then
    .next (s.modLs n fun x => { x with openCond := false })
  else .next s

/-- Supply of a load switch (R253). -/
def State.lsSupply (s : State) (n : Ls) : Fin 2 := if n.1 < (if s.nv.is2216 then 24 else 12) then 0 else 1

def State.modLsSup (s : State) (k : Fin 2) (f : LsSupply → LsSupply) : State :=
  { s with io := { s.io with lsSup := s.io.lsSup.set k.1 (f s.io.lsSup[k.1]) k.2 } }

/-- LS_SUPPLY_OVER_LIMIT (R260). -/
def execLsSupplyOverLimit (t : Nat) (supply : Fin 2) (ma : Nat) (s : State) : Out :=
  let s := s.at t
  if ma ≤ s.cfg.ls.supplyLimitMa || s.io.lsSup[supply.1].shedding then .next s
  else
    let s := s.modLsSup supply fun x => { x with shedding := true, shedAt := s.ns }
    let s := { s with io := { s.io with lsOvl := s.io.lsOvl ||| ((1#2) <<< supply.1) } }
    .next ((s.bump 0x80 4).event 0x351 3 (supply.1 + 1) (BitVec.ofNat 32 ma) 0 0)

/-- LS_SHED_STEP (R260): the highest switch that may be shed goes off, one per 100 ms, until the average is below 90 % of the
limit. -/
def execLsShedStep (t : Nat) (supply : Fin 2) (ma : Nat) (s : State) : Out :=
  let s := s.at t
  let x := s.io.lsSup[supply.1]
  if !x.shedding || s.ns < x.shedAt then .next s
  else if 10 * ma < 9 * s.cfg.ls.supplyLimitMa then .next (s.modLsSup supply fun x => { x with shedding := false, shedAt := s.ns })
  else
    let next := (List.finRange 48).reverse.find? fun n =>
      s.lsSupply n == supply && s.cfg.ls.sw[n.1].shed && s.io.ls[n.1].on && !s.io.ls[n.1].shed
    let s := s.modLsSup supply fun x => { x with shedAt := s.ns + ms 100 }
    match next with
    | some n => .next ((s.modLs n fun x => { x with shed := true }).driveLs n)
    | none => .next s

/-- LS_SHED_RESTORE (R260): the peak is that of the last 10 s. Below 75 % of the limit, with shedding ended for as long, the shed
switches return together. -/
def execLsShedRestore (t : Nat) (x : SupplyPeak) (s : State) : Out :=
  let s := s.at t
  let supply := x.supply
  let y := s.io.lsSup[supply.1]
  if y.shedding || s.ns < y.shedAt + ms 10000 || 3 * s.cfg.ls.supplyLimitMa ≤ 4 * x.ma then .next s
  else
    .next ((List.finRange 48).foldl (fun (s : State) n =>
      if s.lsSupply n = supply && s.io.ls[n.1].shed then (s.modLs n fun x => { x with shed := false }).driveLs n else s) s)

end Sys2Proof.Machine
end

