-- ==== Sys2Proof/Machine/Bus.lean ====
section
/-!
DEFINITION. Sys2Proof/Machine/Bus.lean: the two buses, Hopper, safe telegrams, output commands and what the module sends
(09_buses_and_time, R269-R293).
-/
namespace Sys2Proof.Machine

/-! ## Establishing the bit rate (R271-R275) -/

/-- Cause of a bus event: 1 Bus A, 2 Bus B. -/
def busCause (b : BusId) : Nat := b.1 + 1

/-- Configuration of a bus. -/
def State.busCfg (s : State) (b : BusId) : BusBlkCfg := s.cfg.bus.bus[b.1]

/-- The bus takes a timing; a classical-only one is a Major event (R273). Permanently listen-only stays so (R275). -/
def State.establish (s : State) (b : BusId) (st : BState) (cand : Nat) (g : TimingCfg) : State :=
  let s := s.modBus b fun x => { x with
    bstate := st, prior := st, timing := g, adopted := cand, listen := (s.busCfg b).listenOnly }
  if g.data = 0 then s.event 0x374 4 (busCause b) 0 0 0 else s

/-- First used candidate from an index on. -/
def usedFrom (l : Vector TimingCfg 8) (k : Nat) : Option (Fin 8) := (List.finRange 8).find? fun i => k ≤ i.1 && l[i.1].nominal != 0

/-- Detection starts: listen-only, from the first used candidate. -/
def State.startDetection (s : State) (b : BusId) : State :=
  let first : Nat := match usedFrom (s.busCfg b).candidates 0 with | some k => k.1 | none => 0
  s.modBus b fun x => { x with
    started := true, bstate := .detecting, err := .active, tecN := 0, recN := 0, listen := true, cand := first
    candAt := s.ns, detectAt := s.ns, sawTraffic := false, okRun := 0, adopted := 15 }

/-- Step 7 on a bus: detection, or the configured timing at once (R271, R272). -/
def State.startBus (s : State) (b : BusId) : State :=
  let s := s.startDetection b
  if (s.busCfg b).autodetect then s else s.establish b .configured 15 (s.busCfg b).timing

/-- The bus is detecting its rate. -/
def BusSt.detects (x : BusSt) : Bool := x.started && x.bstate == .detecting

/-- BUS_CANDIDATE_TIMEOUT (R271): 250 ms on a candidate; a whole round without adoption is an event. -/
def execBusCandidateTimeout (t : Nat) (b : BusId) (s : State) : Out :=
  let s := s.at t
  let x := s.bus[b.1]
  if !x.detects || s.ns < x.candAt + ms 250 then .next s
  else
    let l := (s.busCfg b).candidates
    match usedFrom l (x.cand + 1), usedFrom l 0 with
    | some k, _ => .next (s.modBus b fun x => { x with cand := k.1, candAt := s.ns, okRun := 0 })
    | none, some k =>
      .next ((s.modBus b fun x => { x with cand := k.1, candAt := s.ns, okRun := 0 }).event 0x372 3 (busCause b) 0 0 0)
    | none, none => .next s

/-- BUS_RATE_ADOPTED (R271): four consecutive frames without error. -/
def execBusRateAdopted (t : Nat) (b : BusId) (s : State) : Out :=
  let s := s.at t
  let x := s.bus[b.1]
  if x.detects && 4 ≤ x.okRun then
    .next (s.establish b .detected x.cand ((s.busCfg b).candidates[x.cand]?.getD {}))
  else .next s

/-- BUS_FALLBACK_TIMING (R272): no dominant bit for 2 s from the start of detection. -/
def execBusFallbackTiming (t : Nat) (b : BusId) (s : State) : Out :=
  let s := s.at t
  let x := s.bus[b.1]
  if !x.detects || x.sawTraffic || s.ns < x.detectAt + ms 2000 then .next s
  else
    let s := (s.modBus b fun x => { x with noTraf := true }).event 0x373 2 (busCause b) 0 0 0
    .next (s.establish b .fallback 15 (s.busCfg b).timing)

/-! ## Error confinement (R276) -/

/-- The error counters take new values; entry to error passive is an event. A bus that is off stays off. -/
def State.setErrors (s : State) (b : BusId) (tec rec_ : Nat) : State :=
  let x := s.bus[b.1]
  let passive := 127 < tec || 127 < rec_
  let s := s.modBus b fun x => { x with
    tecN := tec, recN := rec_, err := if x.err = .off then .off else if passive then .passive else .active }
  if passive && x.err == .active then s.event 0x371 2 (busCause b) (BitVec.ofNat 32 tec) (BitVec.ofNat 32 rec_) 0 else s

/-- BUS_ERROR (R271, R276): an error on reception or transmission; the detection count starts again. -/
def execBusError (t : Nat) (b : BusId) (tec rec_ : Nat) (s : State) : Out :=
  let s := (s.at t).modBus b fun x => { x with okRun := 0, sawTraffic := true }
  .next ((s.bump (0x81 + b.1) 2).setErrors b tec rec_)

/-- A bus goes bus off (R272, R276): one on fall-back timing returns to detection. -/
def State.goBusOff (s : State) (b : BusId) : State :=
  let x := s.bus[b.1]
  let s := (s.modBus b fun x => { x with busOff := true, err := .off }).bump (0x81 + b.1) 3
  let s := s.event 0x370 3 (busCause b) 0 0 0
  if x.bstate = .fallback then (s.event 0x373 2 (busCause b + 16) 0 0 0).startDetection b
  else s.modBus b fun x => { x with prior := x.bstate, bstate := .recovery }

/-- BUS_OFF (R276). -/
def execBusOff (t : Nat) (b : BusId) (s : State) : Out :=
  let s := s.at t
  let x := s.bus[b.1]
  if !x.established || x.err = .off then .next s else .next (s.goBusOff b)

/-! ## Hopper (R278, R279) -/

/-- Receive group of an identifier: first object, none where no receive object matches (R278, R280). -/
def State.rxGroup (s : State) (f : Frame) : Option Nat :=
  let g := s.cfg.bus
  let id := f.id.toNat
  if f.ext then none
  else if id = 0x080 + g.vcuNode then some 0
  else if id = 0x010 + g.timeMaster then some 4
  else if id = 0x180 + g.vcuNode then some 8
  else none

/-- Object of a group that a frame enters: a free one, else the oldest unread. -/
def rxPlace (h : Vector HObj 128) (base : Nat) : Fin 128 × Bool :=
  let l := (List.finRange 128).filter fun k => base ≤ k.1 && k.1 < base + 4
  match l.find? fun k => !h[k.1].new with
  | some k => (k, false)
  | none =>
    (l.foldl (fun (a : Fin 128) k => if h[k.1].time < h[a.1].time then k else a) ⟨base % 128, Nat.mod_lt _ (by decide)⟩, true)

/-- A frame can be received: a bus established classical-only takes no FD frame (R273). -/
def State.canReceive (s : State) (b : BusId) (f : Frame) : Bool :=
  let x := s.bus[b.1]
  x.started && x.err != .off && !(x.established && f.fd && x.timing.data == 0)

/-- FRAME_RECEIVED (R269, R271, R278): counted, and stored or ignored; while the rate is being detected it only counts towards the
adoption. -/
def execFrameReceived (t : Nat) (b : BusId) (f : Frame) (s : State) : Out :=
  let s := s.at t
  let x := s.bus[b.1]
  if !s.canReceive b f then .next s
  else
    let s := (s.modBus b fun x => { x with sawTraffic := true, okRun := x.okRun + 1 }).bump (0x81 + b.1) 0
    let rec' := if 127 < x.recN then 119 + (Config.freeValue s.free).toNat % 9 else x.recN - 1
    let s := if 127 < x.recN then { s with free := s.free + 1 } else s
    let s := s.setErrors b x.tecN rec'
    if !x.established then .next s
    else match s.rxGroup f with
      | none => .next (s.bump (0x81 + b.1) 5)
      | some base =>
        let p := rxPlace s.bus[b.1].hopper base
        let o : HObj := { id := f.id, fd := f.fd, brs := f.brs, data := f.data, new := true, ovr := p.2, time := s.mill }
        let s := s.bumpIf p.2 (0x81 + b.1) 6
        .next (s.modBus b fun x => { x with hopper := x.hopper.set p.1.1 o })

/-- An object with a double-bit error is discarded: a Major event, and ECC is set (R278). -/
def State.discardObject (s : State) (b : BusId) (k : Fin 128) : State :=
  let s := s.modBus b fun x => { x with ecc := true, hopper := x.hopper.set k.1 {} }
  (s.bump (0x81 + b.1) 11).event 0x37B 4 (busCause b) (BitVec.ofNat 32 k.1) 0 0

/-- Read a receive object (R279): none where NEW is 0. Failed tries are counted; after four the object is not read and its frame stays,
else the copy is whole and NEW is cleared. -/
def State.readObject (s : State) (b : BusId) (k : Fin 128) (x : HopRead) : Option HObj × State :=
  let o := s.bus[b.1].hopper[k.1]
  if !o.new then (none, s)
  else if x.ecc = .uncorrectable then (none, s.discardObject b k)
  else
    let s := s.bumpIf (x.ecc == .corrected) (0x81 + b.1) 10
    let tries := x.failed.take 4
    let s := tries.foldl (fun (s : State) e => s.bumpIf (e == .parity) (0x81 + b.1) 12) s
    if 4 ≤ tries.length then (none, s.bump (0x81 + b.1) 7)
    else (some o, s.modBus b fun y => { y with hopper := y.hopper.set k.1 { o with new := false } })

/-- The oldest unread object of a receive group, which is read as a FIFO (R278). -/
def oldestNew (h : Vector HObj 128) (base : Nat) : Option (Fin 128) :=
  ((List.finRange 128).filter fun k => base ≤ k.1 && k.1 < base + 4 && h[k.1].new).foldl (fun (a : Option (Fin 128)) k =>
    match a with
    | some j => if h[k.1].time < h[j.1].time then some k else some j
    | none => some k) none

/-- Miller reads the oldest unread object of a receive group (R278, R279), whichever place in the group a command names. -/
def State.readGroup (s : State) (b : BusId) (base : Nat) (x : HopRead) : Option HObj × State :=
  match oldestNew s.bus[b.1].hopper base with
  | some k => s.readObject b k x
  | none => (none, s)

/-! ## Transmission (R274, R277) -/

/-- An object goes before another: lower identifier, then lower index. -/
def HObj.before (a b : HObj) (i j : Nat) : Bool := a.id.toNat < b.id.toNat || (a.id == b.id && i ≤ j)

/-- An object is pending and the bus can carry it: a classical-only one carries no FD frame (R273). -/
def BusSt.sendable (x : BusSt) (k : Fin 128) : Bool := x.hopper[k.1].txPend && !(x.hopper[k.1].fd && x.timing.data == 0)

/-- The object is the next one to be sent. -/
def BusSt.isNext (x : BusSt) (k : Fin 128) : Bool :=
  x.sendable k && (List.finRange 128).all fun j => !x.sendable j || x.hopper[k.1].before x.hopper[j.1] k.1 j.1

/-- The bus can transmit: established, not bus off, not listen-only. -/
def BusSt.canSend (x : BusSt) : Bool := x.established && x.err != .off && !x.listen

/-- An error on transmission: the transmit error counter rises by 8, above 255 the bus goes off (R276). -/
def State.txError (s : State) (b : BusId) : State :=
  if !s.bus[b.1].canSend then s
  else
    let s := (s.bump (0x81 + b.1) 2).setErrors b (s.bus[b.1].tecN + 8) s.bus[b.1].recN
    if 255 < s.bus[b.1].tecN then s.goBusOff b else s

/-- Lost arbitrations and errors, each retried (R277). -/
def State.txTries (s : State) (b : BusId) (lost errors : Nat) : State :=
  let s := (List.replicate lost ()).foldl (fun (s : State) _ => s.bump (0x81 + b.1) 4) s
  (List.replicate errors ()).foldl (fun (s : State) _ => s.txError b) s

/-- FRAME_TRANSMITTED (R277): the next pending object is sent, after lost arbitrations and errors retried; it stays pending where they
take the bus off. -/
def execFrameTransmitted (t : Nat) (b : BusId) (x : HopSent) (lost errors : Nat) (s : State) : Out :=
  let s := s.at t
  let y := s.bus[b.1]
  if !y.canSend || !y.isNext x.obj || due y.hopper[x.obj.1].deadline s.ns then .next s
  else if x.ecc = .uncorrectable then .next (s.discardObject b x.obj)
  else
    let s := (s.bumpIf (x.ecc == .corrected) (0x81 + b.1) 10).txTries b lost errors
    if !s.bus[b.1].canSend then .next s
    else
      let s := s.modBus b fun y => { y with hopper := y.hopper.set x.obj.1 { y.hopper[x.obj.1] with txPend := false } }
      .next ((s.bump (0x81 + b.1) 1).setErrors b (s.bus[b.1].tecN - 1) s.bus[b.1].recN)

/-- OBJECT_WITHDRAWN (R274, R277): in every bus state. -/
def execObjectWithdrawn (t : Nat) (b : BusId) (obj : Fin 128) (s : State) : Out :=
  let s := s.at t
  let o := s.bus[b.1].hopper[obj.1]
  if !o.txPend || !due o.deadline s.ns then .next s
  else .next (s.dropObject b obj)

/-! ## Safe telegrams (R281-R285) -/

/-- A door command telegram's fields (Tables 9-5, 9-6). -/
structure DoorTelegram where
  safeId : Nat
  seq : BitVec 16
  time : BitVec 32
  close : BitVec 16
  open_ : BitVec 16
  reset : BitVec 16
  cmdNo : BitVec 8
  relL : Bool
  relR : Bool

/-- Parse a telegram of 24 bytes. -/
def DoorTelegram.ofBytes (l : List Byte) : DoorTelegram := {
  safeId := beAt l 0 2, seq := BitVec.ofNat 16 (beAt l 2 2), time := BitVec.ofNat 32 (beAt l 4 4)
  close := BitVec.ofNat 16 (beAt l 8 2), open_ := BitVec.ofNat 16 (beAt l 10 2), reset := BitVec.ofNat 16 (beAt l 12 2)
  cmdNo := BitVec.ofNat 8 (beAt l 14 1), relL := beAt l 15 1 % 2 == 1, relR := beAt l 15 1 / 2 % 2 == 1 }

/-- A valid copy: type, source, destination and CRC (R282). -/
def State.copyValid (s : State) (o : HObj) : Bool :=
  let l := o.data
  l.length == 24 && o.id.toNat == 0x080 + s.cfg.bus.vcuNode &&
  (beAt l 0 2 == 0x1000 + s.cfg.bus.vcuNode * 256 + s.cfg.bus.node || beAt l 0 2 == 0x1000 + s.cfg.bus.vcuNode * 256 + 0xFF) &&
  BitVec.ofNat 32 (beAt l 20 4) == crc32c (l.take 20)

/-- The telegram is addressed to all nodes. -/
def DoorTelegram.toAll (x : DoorTelegram) : Bool := x.safeId % 256 == 0xFF

/-- References of its safe ID. -/
def State.safeRef (s : State) (x : DoorTelegram) : SafeId := if x.toAll then s.tele.all else s.tele.own

/-- Difference of two 32-bit times as a signed number (R17). -/
def diff32 (a b : BitVec 32) : Int := (a - b).toInt

/-- What the checks of sequence and freshness find (R282, R283, R285). -/
inductive TeleVerdict where | accept | duplicate | sequence | freshness
deriving DecidableEq, Repr

def State.judgeTelegram (s : State) (x : DoorTelegram) (arrival : Nat) : TeleVerdict :=
  let r := s.safeRef x
  if !r.valid then .accept
  else
    let d := (x.seq - r.seq).toNat
    if d = 0 then .duplicate
    else if 32767 < d then .sequence
    else if s.tele.baseline then .accept
    else
      let dt := x.time - r.time
      let da := BitVec.ofNat 32 arrival - BitVec.ofNat 32 r.arrival
      if (diff32 dt da).natAbs ≤ 20000 then .accept else .freshness

/-- Take the release bits of an accepted telegram; a bit refused for want of its train line is counted with code 0x80 (R287). -/
def State.takeRelease (s : State) (l r : Bool) : State :=
  let s := { s with tele := { s.tele with bitL := l, bitR := r } }.updateRelease
  let short := fun (v : Bool) (st : Bool) => s.cfg.bus.releaseMode != 0 && v && !st
  (s.bumpIf (short l s.tele.relL) 0x80 11).bumpIf (short r s.tele.relR) 0x80 11

/-- Masks of a telegram. -/
def DoorTelegram.masks (x : DoorTelegram) : BitVec 16 := x.close ||| x.open_ ||| x.reset

/-- The commands of a telegram wait for their decision, and its answer is begun (R286, R288). -/
def State.beginCommands (s : State) (x : DoorTelegram) : State :=
  { s with tele := { s.tele with
    close := x.close, open_ := x.open_, reset := x.reset
    ans := some { kind := 1, cmdNo := x.cmdNo, open_ := x.masks, answered := 0 } } }

/-- A telegram taken as baseline: every doorway set in it is answered with code 0x84 (R285). -/
def State.answerBaseline (s : State) (x : DoorTelegram) : State :=
  let m := x.masks
  let s := { s with tele := { s.tele with
    ans := some { kind := 1, cmdNo := x.cmdNo, open_ := 0, answered := m
                  reason := Vector.ofFn fun d => if m.getLsbD d.1 then 0x84 else 0 } } }
  (s.bump 0x80 15).finishAnswer

/-- Counter block of a safe ID: that of the telegrams to this node is 0x83; that of those to all nodes is kept apart, and Table 13-4 gives
it no address (R281, log 35). -/
def safeBlock (toAll : Bool) : Nat := if toAll then 0x183 else 0x83

/-- A telegram is accepted (R285-R287); a module that tracks keeps its sequence and command numbers from the stream (R318). Its commands
are decided by the token holder of a pair, or by a module alone; with both buses permanently listen-only they are counted with code 0x81
and not acted on (R275). -/
def State.acceptTelegram (s : State) (x : DoorTelegram) (arrival : Nat) : State :=
  let r : SafeId := { seq := x.seq, time := x.time, arrival := arrival, valid := true }
  let base := s.tele.baseline
  let fresh := s.tele.cmdNo != some x.cmdNo
  let tracks := s.pair.formed && !s.pair.token
  let own := if tracks then { r with seq := s.tele.own.seq } else r
  let s := { s with tele := if x.toAll then { s.tele with all := r } else { s.tele with own := own } }
  let s := { s with tele := { s.tele with
    lastAccept := s.ns, baseline := false, lost := false, cmdNo := if tracks then s.tele.cmdNo else some x.cmdNo } }
  let s := (s.bump (safeBlock x.toAll) 0).takeRelease x.relL x.relR
  if x.masks = 0 || !s.decides then s
  else if s.busesMute then s.bumpIf (base || fresh) 0x80 12
  else if base then s.answerBaseline x
  else if fresh then s.beginCommands x else s

/-- Decide a telegram (R282, R283). -/
def State.decideTelegram (s : State) (l : List Byte) (arrival : Nat) : State :=
  let x := DoorTelegram.ofBytes l
  let ev := fun (c : Nat) => (s.bump (safeBlock x.toAll) 4).event 0x378 3 c (BitVec.ofNat 32 x.safeId) (x.seq.setWidth 32) 0
  match s.judgeTelegram x arrival with
  | .accept => s.acceptTelegram x arrival
  | .duplicate => s.bump (safeBlock x.toAll) 1
  | .sequence => ev 1
  | .freshness => ev 2

/-- Two arrivals lie within 20 ms. -/
def within20 (a b : Nat) : Bool := decide (a ≤ b + 20000) && decide (b ≤ a + 20000)

/-- Copies of the same safe ID and sequence number. -/
def sameTelegram (a b : List Byte) : Bool := slice a 0 4 == slice b 0 4

/-- The verdict on a telegram is to accept it. -/
def State.wouldAccept (s : State) (l : List Byte) (arrival : Nat) : Bool := s.judgeTelegram (DoorTelegram.ofBytes l) arrival == .accept

/-- Both buses have delivered agreeing copies of an accepted telegram (R284). -/
def State.copiesAgree (s : State) : State := { s with tele := { s.tele with agreeAt := some (s.tele.agreeAt.getD s.ns) } }

/-- The copies of an accepted telegram do not agree, or one is missing: the second of R284 starts again. -/
def State.copiesDiffer (s : State) : State := { s with tele := { s.tele with agreeAt := none } }

/-- A valid copy on a bus (R282-R284): with its partner copy it is decided, or discarded where they disagree; alone it waits, and
in single-bus mode it is decided at its arrival, once for both copies. Only accepted telegrams count towards the end of single-bus
mode. -/
def State.takeCopy (s : State) (b : BusId) (l : List Byte) (arrival : Nat) : State :=
  let s := s.modBus b fun x => { x with copyAt := some s.ns }
  let o : BusId := 1 - b
  let drop := fun (s : State) (c : TeleCopy) => s.modBus o fun x => { x with copies := x.copies.erase c }
  let near := s.bus[o.1].copies.filter fun c => within20 c.arrival arrival
  match near.find? fun c => c.bytes == l with
  | some c =>
    let s := drop s c
    if c.decided then (if c.accepted then s.copiesAgree else s)
    else
      let s := if s.wouldAccept l (min c.arrival arrival) then s.copiesAgree else s
      s.decideTelegram l (min c.arrival arrival)
  | none =>
    match near.find? fun c => sameTelegram c.bytes l with
    | some c =>
      let x := DoorTelegram.ofBytes l
      let s := if c.accepted then (drop s c).copiesDiffer else drop s c
      (s.bump (safeBlock x.toAll) 3).event 0x377 4 0 (BitVec.ofNat 32 x.safeId) (x.seq.setWidth 32) 0
    | none =>
      let ok := s.tele.single && s.wouldAccept l arrival
      let c : TeleCopy := { bytes := l, arrival := arrival, decided := s.tele.single, accepted := ok }
      let s := s.modBus b fun x => { x with copies := x.copies ++ [c] }
      if s.tele.single then s.decideTelegram l arrival else s

/-- SAFE_TELEGRAM_COPY (R281, R282). -/
def execSafeTelegramCopy (t : Nat) (b : BusId) (x : HopAt 4) (s : State) : Out :=
  let s := s.at t
  if !s.millerRuns || !s.bus[b.1].established then .next s
  else
    let r := s.readGroup b 0 x.read
    match r.1 with
    | some o => .next (if s.copyValid o then r.2.takeCopy b o.data o.time else r.2)
    | none => .next r.2

/-- TELEGRAM_COPY_TIMEOUT (R282): 20 ms without the partner copy. -/
def execTelegramCopyTimeout (t : Nat) (b : BusId) (s : State) : Out :=
  let s := s.at t
  if !s.millerRuns then .next s
  else
  let late := s.bus[b.1].copies.filter fun c => decide (c.arrival + 20000 < s.mill)
  let s := s.modBus b fun x => { x with copies := x.copies.filter fun c => !decide (c.arrival + 20000 < s.mill) }
  let s := if late.any TeleCopy.accepted then s.copiesDiffer else s
  .next ((late.filter fun c => !c.decided).foldl (fun (s : State) c => s.bump (safeBlock (DoorTelegram.ofBytes c.bytes).toAll) 2) s)

/-- COMMAND_TELEGRAMS_LOST (R285): three cycles without an accepted telegram, from the start as well; recorded once. -/
def execCommandTelegramsLost (t : Nat) (s : State) : Out :=
  let s := s.at t
  if s.tele.lost || !s.millerRuns || s.ns < s.tele.lastAccept + ms (3 * s.cfg.bus.safeCycleMs) then .next s
  else
    let s := { s with tele := { s.tele with bitL := false, bitR := false, baseline := true, lost := true } }.updateRelease
    .next (s.event 0x379 4 0 (BitVec.ofNat 32 ((s.ns - s.tele.lastAccept) / 1000000)) 0 0)

/-- SINGLE_BUS_MODE_ENTER (R284): exactly one bus is delivering, and the event names it. -/
def execSingleBusModeEnter (t : Nat) (s : State) : Out :=
  let s := s.at t
  let a := s.delivering 0
  let b := s.delivering 1
  if s.tele.single || a == b || !s.millerRuns then .next s
  else
    let cause := if a then 1 else 2
    let s := { s with tele := { s.tele with single := true, singleBus := cause, agreeAt := none } }.updateRelease
    .next (s.event 0x375 4 cause 0 0 0)

/-- SINGLE_BUS_MODE_LEAVE (R284): agreeing copies of every accepted telegram for 1 s. DEDUCED: its event names the bus that the mode ran
on, as the entry's does (log 35). -/
def execSingleBusModeLeave (t : Nat) (s : State) : Out :=
  let s := s.at t
  if s.millerRuns && s.tele.single && s.delivering 0 && s.delivering 1 && due (s.tele.agreeAt.map (· + ms 1000)) s.ns then
    .next ({ s with tele := { s.tele with single := false, agreeAt := none } }.updateRelease.event 0x376 2 s.tele.singleBus 0 0 0)
  else .next s

/-! ## Output commands (R290) -/

/-- Outputs and switches that the buses may command. -/
def State.doByBus (s : State) (n : Dout) : Bool := s.half 32 n.1 && s.doSource n == 2
def State.lsByBus (s : State) (n : Ls) : Bool := s.half 48 n.1 && 2 ≤ s.cfg.ls.sw[n.1].role && s.cfg.ls.sw[n.1].role ≤ 4

/-- Set the outputs of an accepted command. -/
def State.setOutputs (s : State) (dv dst : BitVec 32) (lv lst : BitVec 48) : State :=
  let s := (List.finRange 32).foldl (fun (s : State) (n : Dout) =>
    if dv.getLsbD n.1 then (s.modDout n fun x => { x with busCmd := dst.getLsbD n.1 }).driveDo n else s) s
  (List.finRange 48).foldl (fun (s : State) (n : Ls) =>
    if lv.getLsbD n.1 then s.commandLs n (lst.getLsbD n.1) s.cfg.ls.sw[n.1].duty else s) s

/-- The answer to an output command (Table 9-7). -/
def State.answerOutput (s : State) (cmdNo : BitVec 8) (code : Nat) : State :=
  let a : Answer := { kind := 2, cmdNo := cmdNo, open_ := 0, answered := 0, reason := (Vector.replicate 16 0).set 0 code }
  let seq := s.tele.ansSeq
  let s := { s with tele := { s.tele with ansSeq := seq + 1 }, maint := { s.maint with reason := code } }
  s.sendFrame (16, 4) (0x100 + s.cfg.bus.node) (a.bytes seq) (some (s.ns + ms 100))

/-- Code of an output command (R20, R290): the general ones, then 0x82. -/
def State.outputCode (s : State) (l : List Byte) : Nat :=
  let dv := BitVec.ofNat 32 (beAt l 2 4)
  let lv := BitVec.ofNat 48 (beAt l 10 6)
  if l.length ≠ 24 then 0x01
  else if s.sluice.safe then 0x08
  else if !s.pair.token then 0x03
  else if ((List.finRange 32).all fun n => !dv.getLsbD n.1 || s.doByBus n) &&
      ((List.finRange 48).all fun n => !lv.getLsbD n.1 || s.lsByBus n) then 0
  else 0x82

/-- OUTPUT_COMMAND (R290): accepted as a whole or refused; decided by the token holder of a pair, or by a module alone. -/
def execOutputCommand (t : Nat) (b : BusId) (x : HopAt 4) (s : State) : Out :=
  let s := s.at t
  if !s.millerRuns || !s.bus[b.1].established then .next s
  else
    let r := s.readGroup b 8 x.read
    let s := r.2
    match r.1 with
    | none => .next s
    | some o =>
      if !s.decides then .next s
      else if s.busesMute then .next (s.bump 0x80 12)
      else
        let f := fun (off n : Nat) => beAt o.data off n
        let no := BitVec.ofNat 8 (f 0 1)
        match s.outputCode o.data with
        | 0 => .next ((s.setOutputs (BitVec.ofNat 32 (f 2 4)) (BitVec.ofNat 32 (f 6 4)) (BitVec.ofNat 48 (f 10 6))
            (BitVec.ofNat 48 (f 16 6))).answerOutput no 0)
        | c => .next ((s.bumpIf (c == 0x82) 0x80 13).answerOutput no c)

/-! ## What the module sends (R289, R291) -/

/-- Bit d − 1 for the doorways of a kind. -/
def State.doorMask (s : State) (f : Door → Bool) : Nat := (s.doorBits f).toNat

/-- Group status payload (Table 9-8). -/
def State.groupStatus (s : State) : List Byte :=
  let st := fun (d : Door) => s.cyc[d.1].state
  toBe 2 (s.doorMask fun d => (st d == .closedLocked || st d == .released) && s.cyc[d.1].proven) ++
  toBe 2 ((s.countedBoth 0).toNat ||| (s.countedBoth 1).toNat) ++
  toBe 1 ((s.safetyWord 0).toNat % 256) ++ toBe 1 ((s.safetyWord 1).toNat % 256) ++
  toBe 2 (s.doorMask fun d => st d == .faultHeld || st d == .isolated) ++
  toBe 2 (s.doorMask fun d => (st d).moving) ++
  toBe 2 (s.tele.relL.toNat + 2 * s.tele.relR.toNat + 4 * s.tele.single.toNat)

/-- A safe telegram from the module: header, payload, CRC (Table 9-5), stamped on the pair clock (R317). -/
def State.safeTelegram (s : State) (seq : BitVec 16) (payload : List Byte) : List Byte :=
  let l := toBe 2 (0x2000 + s.cfg.bus.node * 256 + 0xFF) ++ toBe 2 seq.toNat ++ toBe 4 (s.pairClock % 2 ^ 32) ++ payload
  l ++ toBe 4 (crc32c l).toNat

/-- The module makes its own frames: alone, or as the token holder of a pair (R292, R316). -/
def State.sends (s : State) : Bool := s.millerRuns && (!s.pair.formed || s.pair.token)

/-- GROUP_STATUS_TELEGRAM (R289): each cycle, and on a change, never more often than once per 10 ms. -/
def execGroupStatusTelegram (t : Nat) (s : State) : Out :=
  let s := s.at t
  let p := s.groupStatus
  let cycle := match s.tele.gsAt with | some x => decide (x + ms s.cfg.bus.safeCycleMs ≤ s.ns) | none => true
  let change := p != s.tele.gsSent && due (s.tele.gsAt.map (· + ms 10)) s.ns
  if !s.sends || !(cycle || change) then .next s
  else
    let seq := s.tele.gsSeq
    let l := s.safeTelegram seq p
    let s := { s with tele := { s.tele with gsSeq := seq + 1, gsAt := some s.ns, gsSent := p } }
    .next (s.sendFrame (12, 4) (0x090 + s.cfg.bus.node) l (some (s.mill * 1000 + ms 20)))

/-- Word of a status page (R291): kind and channel of the page. -/
def State.pageWord (s : State) (kind : Nat) (d : Door) : BitVec 32 :=
  match kind with
  | 0 => s.cycleWord d
  | 1 => s.obstacleWord d
  | 2 => s.driveWord d
  | 3 => s.positionWord d.ch
  | 4 => s.millstoneWord d.ch
  | 5 => s.ioWord d
  | 6 => s.enc[d.ch.1].strokeWord
  | _ => s.positionWord d.step

/-- A status page (Table 9-10). -/
def State.statusPage (s : State) (page : Fin 16) : List Byte :=
  toBe 2 (s.tele.pageSeq[page.1]).toNat ++ toBe 1 page.1 ++ [0] ++
  ((List.finRange 8).flatMap fun k => toBe 4 (s.pageWord (page.1 / 2) ⟨8 * (page.1 % 2) + k.1, by omega⟩).toNat) ++
  List.replicate 12 0

/-- The module page (Table 9-11). -/
def State.modulePage (s : State) : List Byte :=
  let us := s.cal.now s.ns
  toBe 2 (s.tele.pageSeq[16]).toNat ++ toBe 1 0x10 ++ [0] ++ toBe 4 (s.safetyWord 0).toNat ++ toBe 4 (s.safetyWord 1).toNat ++
  toBe 4 s.moduleIoWord.toNat ++ toBe 4 (s.busWord 0).toNat ++ toBe 4 (s.busWord 1).toNat ++ toBe 4 s.timeWord.toNat ++
  toBe 4 (us / 1000000) ++ toBe 4 (us % 1000000) ++ toBe 4 (s.mill % 2 ^ 32) ++ List.replicate 8 0

/-- Load a page on both buses. -/
def State.sendPage (s : State) (k : Fin 17) (id : Nat) (l : List Byte) : State :=
  let s := s.sendFrame (20 + k.1, 1) id l none
  { s with tele := { s.tele with pageSeq := s.tele.pageSeq.set k.1 (s.tele.pageSeq[k.1] + 1) } }

/-- STATUS_PAGE_SEND (R291): every bus.status_ms; the Umurn 2208 sends the even pages. -/
def execStatusPageSend (t : Nat) (s : State) : Out :=
  let s := s.at t
  let now := match s.tele.pageAt with | some x => decide (x + ms s.cfg.bus.statusMs ≤ s.ns) | none => true
  if !s.sends || !now then .next s
  else
    let s := { s with tele := { s.tele with pageAt := some s.ns } }
    let s := (List.finRange 16).foldl (fun (s : State) (k : Fin 16) =>
      if s.nv.is2216 || k.1 % 2 = 0 then
        s.sendPage ⟨k.1, by omega⟩ (0x200 + 16 * k.1 + s.cfg.bus.node) (s.statusPage k) else s) s
    .next (s.sendPage 16 (0x300 + s.cfg.bus.node) s.modulePage)

end Sys2Proof.Machine
end

