-- ==== Sys2Proof/Machine/Millstone.lean ====
section
/-!
DEFINITION. Sys2Proof/Machine/Millstone.lean: the Millstone slots (04_millstone): inputs, mode resolution, speed measurement,
control laws with their hand-overs, commutation, slot accounting, the output transfer, live writes, injection and capture.
-/
namespace Sys2Proof.Machine

/-! ## Latched inputs (R55) -/

/-- Mean over the completed conversions of the last five; none where fewer than three completed. -/
def bankMean (bank : List (Option Sample)) (f : Sample → Option Int) : Option Rat :=
  let l : List Int := (bank.take 5).filterMap fun (x : Option Sample) => x.bind f
  if l.length < 3 then none else some ((l.sum : Int) / (l.length : Rat))

/-- The currents of a doorway at the latch. -/
structure Currents where
  ia : Rat
  ib : Rat
  ic : Rat
  istep : Rat

/-- Latched currents, none where the doorway's inputs are not ready (R55, R88): too few conversions, or an encoder engine that
gives no valid count. -/
def State.currents (s : State) (d : Door) : Option Currents :=
  let b := s.drv[d.1].bank
  match bankMean b Sample.ia, bankMean b Sample.ib, bankMean b Sample.ic,
        (if s.stepFitted d then bankMean b Sample.istep else some 0) with
  | some a, some b, some c, some st => some { ia := a, ib := b, ic := c, istep := st }
  | _, _, _, _ => none

/-- A slot's inputs are ready at the phase 0 latch (R88). -/
def State.ready (s : State) (c : Ch) : Bool := (s.currents c.door).isSome && s.engineRuns c.door (if c.isStep then 1 else 0)

/-! ## Live coefficients (R108, R109) -/

/-- Coefficients of the image (R110). -/
def State.imageCoef (s : State) (c : Ch) : LiveCoef :=
  if c.isStep then
    let g := s.cfg.step[c.door.1].ctl
    { g0 := g.kpV, g1 := g.kiV, g2 := g.kpI, g3 := g.kiI, alpha := g.alpha, aw := g.awGain }
  else
    let g := s.cfg.door[c.door.1].ctl
    { g0 := g.kp0, g1 := g.ki0, g2 := g.kp1, g3 := g.ki1, alpha := g.alpha, ffEnable := g.ffEnable, cogEnable := g.cogEnable }

/-- Fields marked L by their offset in Table 4-4 or 4-6: lowest and highest value and the value in the image. -/
def State.liveField (s : State) (c : Ch) (offset : Nat) : Option (Nat × Nat × Nat) :=
  let g := s.imageCoef c
  let q := fun (n : Nat) => n * 65536
  if c.isStep then
    match offset with
    | 0x00 => some (0, q 1000, g.g0) | 0x04 => some (0, q 100, g.g1) | 0x08 => some (0, q 100, g.g2)
    | 0x0C => some (0, q 10, g.g3) | 0x10 => some (0, 65535, g.aw) | 0x14 => some (1, 65535, g.alpha) | _ => none
  else
    match offset with
    | 0x00 => some (0, q 100, g.g0) | 0x04 => some (0, q 10, g.g1) | 0x08 => some (0, q 100, g.g2)
    | 0x0C => some (0, q 10, g.g3) | 0x1C => some (1, 65535, g.alpha)
    | 0x21 => some (0, 3, g.ffEnable.toNat + 2 * g.cogEnable.toNat) | _ => none

/-- A value is within a quarter to four times the image's. -/
def nearImage (image v : Nat) : Bool := decide (image ≤ 4 * v) && decide (v ≤ 4 * image)

/-- A value is within R108: in the field's range and within a quarter to four times the image's value. The byte at offset 0x21 holds two
fields of one bit, each bounded by itself. -/
def State.liveValueOk (s : State) (c : Ch) (offset : Nat) (v : Nat) : Bool :=
  match s.liveField c offset with
  | none => false
  | some (lo, hi, image) =>
    decide (lo ≤ v) && decide (v ≤ hi) &&
    (if !c.isStep && offset == 0x21 then nearImage (image % 2) (v % 2) && nearImage (image / 2) (v / 2) else nearImage image v)

/-- Apply one write. -/
def LiveCoef.write (g : LiveCoef) (c : Ch) (offset v : Nat) : LiveCoef :=
  match offset with
  | 0x00 => { g with g0 := v } | 0x04 => { g with g1 := v } | 0x08 => { g with g2 := v } | 0x0C => { g with g3 := v }
  | 0x10 => if c.isStep then { g with aw := v } else g
  | 0x14 => if c.isStep then { g with alpha := v } else g
  | 0x1C => if c.isStep then g else { g with alpha := v }
  | 0x21 => if c.isStep then g else { g with ffEnable := v % 2 == 1, cogEnable := v / 2 % 2 == 1 }
  | _ => g

/-- The pair clock in ticks (R317); the mill tick of a module that runs alone. -/
def State.pairTick (s : State) : Nat := (((s.ns : Int) + s.pair.offset) / 125000).toNat

/-- The oldest pending write is applied at the start of the slot, in a pair not before its apply tick (R109, R110). -/
def State.applyPending (s : State) (c : Ch) : State :=
  match s.slot[c.1].pending with
  | [] => s
  | w :: rest =>
    if (match w.applyAt with | some k => decide (k ≤ s.ns) | none => true) then
      s.modSlot c fun x => { x with pending := rest, coef := x.coef.write c w.offset w.value.toNat }
    else s

/-! ## Electrical angle (R100, R101) -/

/-- Fraction of a turn. -/
def fracTurn (x : Rat) : Rat := x - (x.floor : Rat)

/-- Counts as electrical turns. -/
def State.elTurns (s : State) (d : Door) (n : Int) : Rat :=
  let g := s.cfg.door[d.1]
  (n : Rat) * g.ctl.polePairs / g.enc.countsPerRev

/-- The angle by one source, in turns. -/
def State.angleBy (s : State) (d : Door) (src : Nat) : Rat :=
  let e := s.enc[d.ch.1]
  let x := s.slot[d.ch.1]
  let c := s.obs[d.1].cal
  match src with
  | 3 => fracTurn (s.elTurns d (countDiff e.latched (x.idxCount.getD 0)) + (c.indexAngle.toNat : Rat) / 65536)
  | 2 => fracTurn (s.elTurns d e.stroke + (c.strokeAngle.toNat : Rat) / 65536)
  | 1 => fracTurn (s.elTurns d (countDiff e.latched (x.alignCount.getD 0)))
  | _ => 0

/-- The angle of this period; an angle fault where the first index disagrees with the stroke source by more than 1/12 turn. -/
def State.updateAngle (s : State) (d : Door) : State :=
  let src := s.angSource d
  let th := s.angleBy d src
  let old := s.slot[d.ch.1].angSrc
  let raw := fracTurn (th - s.angleBy d 2)
  let diff := if 1 / 2 ≤ raw then raw - 1 else raw
  let fault := old == 2 && src == 3 && decide (1 / 12 < ratAbs diff)
  let s := s.modSlot d.ch fun x => { x with angSrc := src, theta := th, angFlt := x.angFlt || fault }
  if fault then s.doorEvent d 33 3 0 (word (toField (diff * 65536))) 0 0 else s

/-! ## Mode resolution at the latch (R92, R93) -/

/-- Rule 1: the doorway has a trip latched on either bridge, is stopped, or has its isolation pairs open; this holds for both its
channels. A failed supply's bridges are stopped, and without the token no bridge is driven (log 32). -/
def State.modeStopped (s : State) (c : Ch) : Bool :=
  s.doorStopped c.door || s.slot[c.1].stopped || s.tripped c.door || !s.drv[c.door.1].pairsSensed || s.drv[c.door.1].dvStopped ||
  !s.pair.token

/-- Rule 2: an encoder fault's brake until stand-still, or the starvation brake; with them the brake of a failing supply (R74). -/
def State.modeBraked (s : State) (c : Ch) : Bool :=
  s.enc[c.1].faultBrake || s.slot[c.1].starveBrake ||
  (if c.isStep then s.drv[c.door.1].dvBrakeStep else s.drv[c.door.1].dvBrake).isSome

/-- A mode that drives the motor needs an electrical angle on a door. -/
def Mode.needsAngle : Mode → Bool
  | .stopped | .brake | .align => false
  | _ => true

/-- The mode the sources of R93 give, its argument, and whether a request was superseded: one that stands, or the one whose travel is in
force (R161). -/
def State.resolveMode (s : State) (c : Ch) : Mode × Int × Bool :=
  let x := s.slot[c.1]
  let lost := fun (m : Mode) => match x.req with | some (r, _) => r != m | none => x.mode.travel.isSome && x.mode != m
  let o := s.obs[c.door.1]
  if s.modeStopped c then (.stopped, 0, lost .stopped)
  else if s.modeBraked c then (.brake, 0, lost .brake)
  else if !c.isStep && x.mode.closing x.arg && (o.detClose || o.latch) then (.reverse, 0, lost .reverse)
  else match x.req with
    | none => (x.mode, x.arg, false)
    | some (m, a) => if !c.isStep && m.needsAngle && !s.hasAngle c.door then (.stopped, 0, true) else (m, a, false)

/-- How a mode is entered (R105, R107). -/
def enterKind (old new : Mode) : Incoming :=
  match new with
  | .stopped | .brake | .align | .coast => .none
  | _ => match old with
    | .stopped | .brake | .align | .coast => .startStopped
    | .hold => .startHold
    | _ => .handOver

/-- Commanded direction of travel of a mode (R35, R45). -/
def Mode.direction (m : Mode) (arg : Int) : Option Bool :=
  match m with
  | .travelOpen | .reverse => some true
  | .travelClose => some false
  | .jog => if arg < 0 then some false else if 0 < arg then some true else none
  | _ => none

/-- The decoder's view of the commanded direction (R35): at a change a movement already declared in it counts. -/
def State.commandTravel (s : State) (c : Ch) : State :=
  let x := s.slot[c.1]
  let dir := x.mode.direction x.arg
  s.modEnc c fun e => if e.travel = dir then e else { e with travel := dir, travelMade := e.dirSet && dir == some e.dir }

/-- The compare set a doorway has armed (R45): not while unreferenced, and only in the states R45 names; a set armed in CLOSING
stays through LOCKING. DEDUCED: a service jog towards closed that is being reversed has the opening set armed, as REVERSING has
(log 15). -/
def State.armedSet (s : State) (d : Door) : Option Bool :=
  let x := s.slot[d.ch.1]
  let st := s.cyc[d.1].state
  if !s.enc[d.ch.1].ref then none
  else match x.mode with
    | .travelOpen => if st = .opening then some true else none
    | .reverse => some true
    | .travelClose => if st = .closing || s.cmp[d.1].set == some false then some false else none
    | .jog => if st = .service then x.mode.direction x.arg else none
    | _ => none

/-- Arm or disarm at the latch, then gain set 0 and the deceleration start (R45, rule 5 of R93). -/
def State.armTick (s : State) (d : Door) : State :=
  let want := s.armedSet d
  let g0 := s.slot[d.ch.1].gset
  let s := if s.cmp[d.1].set = want then s
    else match want with
      | some opening => (s.armCmp d opening).modSlot d.ch fun x => { x with gset := false }
      | none => s.disarmCmp d
  let travel := (s.slot[d.ch.1].mode.travel).isSome
  let s := if s.cmp[d.1].decelItem && travel then s.modSlot d.ch fun x => { x with gset := true } else s
  let s := s.modCmp d fun m => { m with decelItem := false }
  if s.slot[d.ch.1].gset != g0 then
    s.modSlot d.ch fun x => if x.incoming = .none then { x with incoming := .handOver, prevMode := x.mode } else x
  else s

/-- The phase 0 latch of a channel's mode: the request is taken or discarded, a motion ends or begins. -/
def State.latchMode (s : State) (c : Ch) : State :=
  let d := c.door
  let old := s.slot[c.1].mode
  let r := s.resolveMode c
  let s := s.modSlot c fun x =>
    let x := { x with req := none, superseded := r.2.2, arg := r.2.1 }
    if r.1 = old then x
    else { x with
      mode := r.1, prevMode := old, incoming := enterKind old r.1, rphase := false, excursion := 0
      entryStroke := s.enc[c.1].pos, alignAt := if r.1 = .align then some s.ns else none }
  if c.isStep then s.commandTravel c
  else
    let o := s.obs[d.1]
    let rev := r.1 == .reverse && old != .reverse
    let s := s.modObs d fun o' => { o' with revObs := rev && o.detClose, revEdge := rev && o.latch, detClose := false, detOpen := false }
    let s := if r.1 = old then s
      else
        let s := match old.travel with | some dir => s.motionEnd d dir | none => s
        match r.1.travel with
        | some _ => s.motionStart d (enterKind old r.1 != .handOver)
        | none => s
    (((s.commandTravel c).edgeLatchTick d).armTick d)

/-! ## Speed measurement (R94) -/

/-- Edge times are in 20 ns units. -/
def unit20 (t : Nat) : Nat := t / 20 * 20

/-- Sign of a rational. -/
def ratSign (r : Rat) : Rat := if 0 < r then 1 else if r < 0 then -1 else 0

/-- Speed v of this period in 0.1 mm/s, and whether it is an unstated value: a changed count whose two edge times fall into one
unit. -/
def speedNow (scale : Nat) (count : BitVec 24) (edge : Option Nat) (x : Slot) (ns free : Nat) : Rat × Bool :=
  match edge with
  | none => (0, false)
  | some e =>
    let te := unit20 e
    let k : Rat := (scale : Rat) * 10000
    if count ≠ x.vCount then
      if te = x.vTime then (((Config.freeValue free).toInt : Rat), true)
      else ((countDiff count x.vCount : Rat) * k / ((te : Int) - x.vTime : Int), false)
    else if e + ms 20 ≤ ns then (0, false)
    else if ns ≤ te then (x.v, false)
    else (ratSign x.v * min (ratAbs x.v) (k / ((ns : Int) - te : Int)), false)

/-- The measurement and filter stage. -/
def State.measureSpeed (s : State) (c : Ch) : State :=
  let e := s.enc[c.1]
  let x := s.slot[c.1]
  let r := speedNow (s.encCfg c).scaleNm e.latched e.edgeAt x s.ns s.free
  let vf := x.vf + (x.coef.alpha : Rat) / 65536 * (r.1 - x.vf)
  let s := if r.2 then { s with free := s.free + 1 } else s
  s.modSlot c fun x => { x with
    v := r.1, vfPrev := x.vf, vf := vf, vCount := e.latched
    vTime := if e.latched ≠ x.vCount then (match e.edgeAt with | some t => unit20 t | none => x.vTime) else x.vTime }

/-! ## Set-points and limits (R92, R95) -/

/-- Profile segment; the last one while unreferenced (R38, R95). -/
def State.segment (s : State) (c : Ch) : Nat :=
  let e := s.enc[c.1]
  if !e.ref then 63 else (clampInt 0 63 (e.stroke * 64 / (((s.encCfg c).openSc : Int) + 1))).toNat

/-- Speed factor q. -/
def Scale.factor : Scale → Rat
  | .full => 1 | .slowClose => 1 / 2 | .referencing => 3 / 10

/-- Speed set-point in 0.1 mm/s, positive towards open. A jog without a reference is cut to 30 % (R38, R184). DEDUCED: a reversal during a
referencing close follows the opening profile without the factor of the referencing close, since R95 gives q to the close and R170 slows
no reversal (log 15). -/
def State.setPoint (s : State) (c : Ch) : Rat :=
  let x := s.slot[c.1]
  let p := fun (opening : Bool) => (((s.profile c opening)[s.segment c]?.getD 0 : Nat) : Rat) * x.stretch / 256
  match x.mode with
  | .travelOpen => p true
  | .travelClose => -(p false * x.scale.factor)
  | .reverse => if x.rphase then p true else 0
  | .jog => if !s.enc[c.1].ref then (x.arg : Rat) * 3 / 10 else x.arg
  | _ => 0

/-- Output limits of a door's mode in N: lower and upper (R92); cut to a quarter without a reference (R38, R184). -/
def State.doorLimits (s : State) (d : Door) : Rat × Rat :=
  let x := s.slot[d.ch.1]
  let g := s.cfg.door[d.1].ctl
  match x.mode with
  | .reverse => (-(g.reverseClose : Rat), g.forceOpen)
  | .jog => if s.enc[d.ch.1].ref then (-(g.jogForce : Rat), g.jogForce) else (-(g.jogForce : Rat) / 4, (g.jogForce : Rat) / 4)
  | .travelClose => if x.scale = .referencing then (-(g.forceClose : Rat) / 4, g.forceOpen) else (-(g.forceClose : Rat), g.forceOpen)
  | _ => (-(g.forceClose : Rat), g.forceOpen)

/-- Current limits of a step in mA; cut to a quarter without a reference (R38, R92, R184). -/
def State.stepLimits (s : State) (d : Door) : Rat × Rat :=
  let l : Rat := s.cfg.step[d.1].ctl.currentLimit
  if s.slot[d.step.1].mode = .jog ∧ !s.enc[d.step.1].ref then (-l / 4, l / 4)
  else if s.slot[d.step.1].mode = .travelClose ∧ s.slot[d.step.1].scale = .referencing then (-l / 4, l) else (-l, l)

/-! ## Laws (R97-R107) -/

/-- What a law leaves: output, next integrator, next force state, saturation, and a bump (cause and first output). -/
structure LawOut where
  out : Rat
  integ : Rat
  force : Rat
  sat : Bool
  bump : Option (Nat × Rat) := none

/-- The speed law of a door (R97, R98, R105-R107). `p` is the proportional term, `ff` feed-forward and bias force. -/
def speedLaw (x : Slot) (lo hi p ff ki e : Rat) : LawOut :=
  let lim := max (ratAbs lo) (ratAbs hi)
  match x.incoming with
  | .handOver =>
    let u := clampRat lo hi x.out
    let raw := u - p - ff
    let i := clampRat (-lim) lim raw
    { out := u, integ := i, force := x.force, sat := u != x.out
      bump := if u ≠ x.out then some (1, u) else if i ≠ raw then some (2, u) else none }
  | k =>
    let i0 : Rat := match k with | .startStopped => 0 | .startHold => x.out | _ => x.integ
    let raw := p + i0 + ff
    let u := clampRat lo hi raw
    let i1 := if raw = u then i0 + ki * e else i0
    { out := u, integ := clampRat (-lim) lim i1, force := x.force, sat := raw != u }

/-- Move towards a target by at most a step. -/
def slewTo (v target step : Rat) : Rat := if v < target then min target (v + step) else max target (v - step)

/-- A force law: Back-drive, or the force phase of Reverse (R103, R104). -/
def forceLaw (x : Slot) (lo hi target slew : Rat) : LawOut :=
  match x.incoming with
  | .handOver =>
    let u := clampRat lo hi x.out
    { out := u, integ := x.integ, force := u, sat := u != x.out, bump := if u ≠ x.out then some (1, u) else none }
  | k =>
    let f0 : Rat := match k with | .startStopped => 0 | .startHold => x.out | _ => x.force
    let f1 := slewTo f0 target slew
    let u := clampRat lo hi f1
    { out := u, integ := x.integ, force := u, sat := u != f1 }

/-- Gains of the set in force. -/
def Slot.gains (x : Slot) : Rat × Rat :=
  if x.gset then ((x.coef.g2 : Rat) / 65536, (x.coef.g3 : Rat) / 65536) else ((x.coef.g0 : Rat) / 65536, (x.coef.g1 : Rat) / 65536)

/-- Friction feed-forward (R99). -/
def State.feedForward (s : State) (d : Door) (vset : Rat) : Rat :=
  if !s.slot[d.ch.1].coef.ffEnable || vset = 0 then 0 else s.friction d (decide (0 < vset))

/-- The law of a door's mode, none for the modes without one. -/
def State.doorLaw (s : State) (d : Door) (vset : Rat) : Option LawOut :=
  let x := s.slot[d.ch.1]
  let g := s.cfg.door[d.1].ctl
  let lim := s.doorLimits d
  let e := (vset - x.vf) / 10
  let speed := fun (ff : Rat) => some (speedLaw x lim.1 lim.2 (x.gains.1 * e) ff x.gains.2 e)
  match x.mode with
  | .hold => speed x.arg
  | .travelOpen | .travelClose | .jog => speed (s.feedForward d vset)
  | .reverse => if x.rphase then speed (s.feedForward d vset) else some (forceLaw x lim.1 lim.2 g.reverseOpen g.slew)
  | .backDrive => some (forceLaw x lim.1 lim.2 x.arg g.slew)
  | _ => none

/-- A bump record (R106), with its sticky bit and trace trigger. -/
def State.bumpRecord (s : State) (c : Ch) (outgoing : Rat) (b : Nat × Rat) : State :=
  let x := s.slot[c.1]
  let modes := x.prevMode.code + 16 * x.mode.code + 256 * c.isStep.toNat
  (s.modSlot c fun x => { x with bump := true }).tracedEvent c.door 4 32 1 b.1
    (word (tenthN outgoing)) (word (tenthN b.2)) (BitVec.ofNat 32 modes)

/-- Reverse enters its speed phase at the hand-over speed (R103). -/
def State.reversePhase (s : State) (d : Door) : State :=
  s.modSlot d.ch fun x =>
    if x.mode = .reverse ∧ ¬ x.rphase ∧ x.incoming ≠ .handOver ∧ (s.cfg.door[d.1].ctl.handoverSpeed : Rat) ≤ x.vf then
      { x with rphase := true, gset := false, incoming := .handOver, prevMode := .reverse }
    else x

/-- Learned cogging in mA at an angle; zero without a valid record (R99, R119, R149). -/
def State.cogAt (s : State) (d : Door) (th : Rat) : Rat :=
  if s.obs[d.1].noCal then 0 else ((s.obs[d.1].cal.cog[(th * 128).floor.toNat % 128]?.getD 0 : Int) : Rat)

/-- Phase references of a quadrature current at an angle (R100). -/
def phaseRefs (iq th : Rat) : Rat × Rat × Rat :=
  (-(iq * Config.sinTurn th), -(iq * Config.sinTurn (th - 1 / 3)), -(iq * Config.sinTurn (th + 1 / 3)))

/-- Measured quadrature current (R119). -/
def qCurrent (i : Currents) (th : Rat) : Rat :=
  -(2 / 3) * (i.ia * Config.sinTurn th + i.ib * Config.sinTurn (th - 1 / 3) + i.ic * Config.sinTurn (th + 1 / 3))

/-- The output of a period is written to the staging register (R87, R88). -/
def State.stage (s : State) (c : Ch) (v : Staged) : State := s.modSlot c fun x => { x with staging := some v }

/-- A reference triple in whole mA. -/
def stagedRefs (r : Rat × Rat × Rat) : Staged := .refs (toField r.1) (toField r.2.1) (toField r.2.2)

/-- A test signal is added on the doorway in this period. -/
def State.injectingOn (s : State) (d : Door) : Bool :=
  s.capture.injecting && (match s.capture.req with | some r => r.door == d | none => false)

/-- The test signal of this period on a doorway (R112). -/
def State.testSignal (s : State) (d : Door) : Rat := if s.injectingOn d then s.capture.signal else 0

/-- Align holds its current on the d-axis at angle 0 (R101): full in phase A, half of it back through B and C. -/
def alignRefs (ma : Nat) : Staged := .refs ma (-((ma : Int) / 2)) (-((ma : Int) / 2))

/-- The computation of a retired door slot, in the order of Table 4-2. A clamp of a sum with a test signal is counted with the doorway's
reference clamps (R112, log 31). -/
def State.doorSlot (s : State) (d : Door) (i : Currents) : State :=
  let c := d.ch
  let s := ((s.measureSpeed c).updateAngle d).reversePhase d
  let vset := s.setPoint c
  let x := s.slot[c.1]
  let g := s.cfg.door[d.1].ctl
  let th := x.theta
  let iqM := match x.stream with | some (_, iq) => iq | none => qCurrent i th
  let cog := s.cogAt d th
  let meas : DoorMeas := {
    iqM := iqM, iqRef := x.iqRef, cog := cog, a := (x.vf - x.vfPrev) * 4 / 5, vf := x.vf, vset := vset
    dvLow := decide (s.drv[d.1].dv < 700) }
  let excursion := if x.mode = .backDrive then max x.excursion (s.enc[c.1].pos - x.entryStroke).natAbs else x.excursion
  let s := s.modSlot c fun x => { x with vSet := vset, iqM := iqM, excursion := excursion }
  match s.doorLaw d vset with
  | none =>
    let s := s.observer d meas
    let s := s.modSlot c fun x => { x with out := 0, iqRef := 0, incoming := .none, sat := false }
    (match x.mode with
     | .brake => s.stage c .lowBrake
     | .align => s.stage c (alignRefs g.alignMa)
     | _ => s.stage c (.refs 0 0 0))
  | some l =>
    let s := s.observer d meas
    let lim := s.doorLimits d
    let toMa := fun (n : Rat) => n * 1000000 / g.kf
    let force := match x.stream with | some (f, _) => f | none => l.out
    let raw := toMa force + (if x.coef.cogEnable then cog else 0) + s.testSignal d
    let iq := clampRat (toMa lim.1) (toMa lim.2) raw
    let s := s.bumpIf (s.injectingOn d && iq != raw) (0x21 + d.1) 0
    let s := match l.bump with | some b => s.bumpRecord c x.out b | none => s
    let s := s.modSlot c fun x => { x with
      out := l.out, integ := l.integ, force := l.force, sat := l.sat || iq != raw, iqRef := iq, incoming := .none
      jogClampAt := if x.mode = .jog ∧ l.sat then some (x.jogClampAt.getD s.ns) else none }
    s.stage c (stagedRefs (phaseRefs iq th))

/-- The step law of R102. -/
def State.stepLaw (s : State) (d : Door) (iStep : Rat) (vset : Rat) : State :=
  let c := d.step
  let x := s.slot[c.1]
  let k := fun (n : Nat) => (n : Rat) / 65536
  let a := k x.coef.aw
  let lim := s.stepLimits d
  let ev := (vset - x.vf) / 10
  let bias : Rat := if x.mode = .hold then x.arg else 0
  let p := k x.coef.g0 * ev
  let first := x.incoming == .handOver
  let i0 : Rat := match x.incoming with
    | .handOver => clampRat lim.1 lim.2 x.out - p - bias
    | .startStopped => 0
    | .startHold => x.out
    | .none => x.integ
  let raw := p + i0 + bias
  let ref := clampRat lim.1 lim.2 raw
  let i1 := if first then i0 else i0 + k x.coef.g1 * ev + a * (ref - raw)
  let vlink : Rat := (s.drv[d.1].dv : Rat) / 10
  let ei := (ref - iStep) / 1000
  let j0 : Rat := if x.incoming = .startStopped then 0 else x.integI
  let wraw := k x.coef.g2 * ei + j0
  let w := match x.stream with | some (v, _) => clampRat (-vlink) vlink v | none => clampRat (-vlink) vlink wraw
  let j1 := j0 + k x.coef.g3 * ei + a * (w - wraw)
  let zero := vlink == 0
  let duty : BitVec 12 := if zero then (Config.freeValue s.free).setWidth 12
    else BitVec.ofNat 12 (min 4095 (ratAbs w * 4096 / vlink).floor.toNat)
  let s := if zero then { s with free := s.free + 1 } else s
  let s := if first ∧ ref ≠ x.out then s.bumpRecord c (x.out) (1, ref) else s
  let s := s.modSlot c fun x => { x with
    out := ref, integ := i1, integI := j1, wOut := w, sat := raw != ref || wraw != w, incoming := .none, vSet := vset
    iqRef := ref }
  s.stage c (.pwm { duty := duty, dir := decide (0 ≤ w), mode := .drive })

/-- The computation of a retired step slot. Stopped gives zero references: duty 0 (log 33). -/
def State.stepSlot (s : State) (d : Door) (i : Currents) : State :=
  let c := d.step
  let s := s.measureSpeed c
  let x := s.slot[c.1]
  let s := (s.modSlot c fun x => { x with iqM := i.istep }).stallWatch d i.istep x.vf
  let none' := fun (m : PwmMode) => (s.modSlot c fun x => { x with out := 0, wOut := 0, iqRef := 0, vSet := 0, incoming := .none, sat := false }).stage c
    (.pwm { duty := 0, dir := false, mode := m })
  match x.mode with
  | .stopped => none' .drive
  | .brake => none' .brake
  | .coast => none' .coast
  | _ => s.stepLaw d i.istep (s.setPoint c)

/-! ## Slot accounting (R85-R91) -/

/-- A channel stopped by Miller in the sense of R85, a trip of its bridge among the causes (R73 step 1). -/
def State.chStopped (s : State) (c : Ch) : Bool := s.doorStopped c.door || s.slot[c.1].stopped || (s.weirOf c).trip.isSome

/-- Cycles a slot uses, wait cycles included (R86, R91). -/
def slotCycles (c : Ch) (x : TickIn) : Nat :=
  if x.aborted.contains c then 600
  else (if c.isStep then 304 else 546) + ((x.wait.filter fun (p : Ch × Nat) => p.1 == c).map Prod.snd).sum

/-- A register parity error (R90): the second within 1 s stops the channel with zero set-points (R73) and holds the doorway; a moving door
leaf is braked by the braking path. The record's register group is a value the command does not carry (log 5). -/
def State.registerParity (s : State) (c : Ch) : State :=
  let again := match s.slot[c.1].parityAt with | some t => decide (s.ns ≤ t + ms 1000) | none => false
  let s := s.modSlot c fun x => { x with parity := true, parityAt := some s.ns }
  if !again || !s.chFitted c then s
  else
    let leaf := s.leafMoving c.door.ch
    let s := ((s.modSlot c fun x => { x with stopped := true }).zeroOutputs c).releaseGov c
    let s := { s with free := s.free + 1 }.doorEvent c.door 31 4 0 (Config.freeValue s.free) 0 0
    let s := s.faultHeld c.door 4
    if leaf then s.askBrake c.door else s

/-- Class of a slot (R88). -/
def State.classify (s : State) (c : Ch) (x : TickIn) : SlotClass :=
  if !s.chFitted c || !s.maint.configured || s.chStopped c || x.parity.contains c || x.aborted.contains c then .wasted
  else if !s.ready c then .starvedFront
  else if s.slot[c.1].owned then .starvedBack
  else .retired

/-- A mode that moves the leaf or step. -/
def Mode.moving : Mode → Bool
  | .travelOpen | .travelClose | .reverse | .jog | .backDrive => true
  | _ => false

/-- Counts of a slot's class, and the starvation brake (R88, R89, R91). -/
def State.account (s : State) (c : Ch) (k : SlotClass) (cycles : Nat) : State :=
  let idx := match k with | .retired => 0 | .wasted => 1 | .starvedFront => 2 | .starvedBack => 3
  let starved := k == .starvedFront || k == .starvedBack
  let s := (s.bump (0x31 + c.1) idx).modSlot c fun x => { x with
    lastClass := k, highWater := max x.highWater cycles, starve := x.starve || starved
    starvedRun := if starved && (x.mode.moving || x.starveBrake) then x.starvedRun + 1 else 0
    retiredRun := if k == .retired then x.retiredRun + 1 else 0 }
  let x := s.slot[c.1]
  if !x.starveBrake && x.mode.moving && 4 ≤ x.starvedRun then
    (s.modSlot c fun x => { x with starveBrake := true }).doorEvent c.door 30 4 1 (if c.isStep then 3 else 2) 0 0
  else if x.starveBrake && 4 ≤ x.retiredRun && s.enc[c.1].still then
    s.modSlot c fun x => { x with starveBrake := false, brakeEnded := true }
  else s

/-- The Brake command of the starvation brake. -/
def brakeCommand (c : Ch) : Staged := if c.isStep then .pwm { mode := PwmMode.brake } else .lowBrake

/-- OBSON of a doorway whose slot computes nothing goes out with a condition of R122; detection sets it in a retired slot. -/
def State.disarm (s : State) (c : Ch) (k : SlotClass) : State :=
  if c.isStep || k == .retired then s
  else s.modObs c.door fun o => { o with armed := o.armed && k != .wasted && s.obsArmed c.door }

/-- One slot of the period. -/
def State.runSlot (x : TickIn) (s : State) (c : Ch) : State :=
  let s := if x.parity.contains c then s.registerParity c else s
  let k := s.classify c x
  let s := s.disarm c k
  let s := s.applyPending c
  let s := match k, s.currents c.door with
    | .retired, some i => if c.isStep then s.stepSlot c.door i else s.doorSlot c.door i
    | .starvedFront, _ | .starvedBack, _ =>
      if s.slot[c.1].starveBrake && s.slot[c.1].mode == Mode.brake then s.stage c (brakeCommand c) else s
    | _, _ => s
  let s := if k == .retired && !c.isStep then s.modSlot c fun y => { y with lastEntry := s.traceEntry c.door } else s
  s.account c k (slotCycles c x)

/-- A register still owned at the latch: eight in a row stop the channel and hold the doorway with cause 3 (R89). -/
def State.ownedTick (s : State) (c : Ch) : State :=
  if !s.chFitted c || s.chStopped c then s
  else if !s.slot[c.1].owned then s.modSlot c fun x => { x with unackRun := 0 }
  else
    let n := s.slot[c.1].unackRun + 1
    let s := s.modSlot c fun x => { x with unackRun := n }
    if n < 8 then s
    else
      let s := (s.modSlot c fun x => { x with stopped := true }).releaseGov c
      (s.doorEvent c.door 30 4 2 (if c.isStep then 3 else 2) 0 0).faultHeld c.door 3

/-! ## Output transfer at phase 110 µs (R10, R51, R87) -/

/-- A reference clamped in CUR (R51). -/
def clampRef (lim : Nat) (v : Int) : Int := clampInt (-(lim : Int)) lim v

/-- Hand one staging register to its bucket engine. A register whose engine found a parity error leaves its previous output
(R90). -/
def State.transfer (x : TickIn) (s : State) (c : Ch) : State :=
  let d := c.door
  match s.slot[c.1].staging with
  | none => s
  | some v =>
    if s.slot[c.1].owned then s
    else
      let s := s.modSlot c fun y => { y with staging := none, owned := true }
      if x.outParity.contains c then (s.bump (0x31 + c.1) 5).modSlot c fun y => { y with parity := true }
      else if !s.engineRuns d (if c.isStep then 3 else 2) then s
      else match v with
        | .refs a b e =>
          let lim := s.cfg.door[d.1].drive.limitMa
          let n := ([a, b, e].filter fun v => clampRef lim v != v).length
          let s := s.modDrv d fun y => { y with
            lowNext := some (false, s.ns + 110000)
            refsPrev := y.refsNow s.ns, refs := #v[clampRef lim a, clampRef lim b, clampRef lim e], refsAt := s.ns + 110000 }
          (List.replicate n ()).foldl (fun s _ => s.bump (0x21 + d.1) 0) s
        | .lowBrake => s.modDrv d fun y => { y with
            lowNext := some (true, s.ns + 110000)
            refsPrev := y.refsNow s.ns, refs := #v[0, 0, 0], refsAt := s.ns + 110000 }
        | .pwm w => s.modDrv d fun y => { y with shadowPrev := y.shadowNow s.ns, shadow := w, shadowAt := s.ns + 110000 }

/-- STAGING_ACKNOWLEDGE (R87): a running bucket engine releases the register. -/
def execStagingAcknowledge (t : Nat) (c : Ch) (s : State) : Out :=
  let s := s.at t
  if s.engineRuns c.door (if c.isStep then 3 else 2) then .next (s.modSlot c fun x => { x with owned := false, unackRun := 0 }) else .next s

/-! ## Injection and capture (R111-R114) -/

/-- A value in a signed 16-bit sample. -/
def sample16 (r : Rat) : BitVec 16 := BitVec.ofInt 16 (clampInt (-32768) 32767 (toField r))

/-- The period's value of a signal code (Table 4-7); a single conversion is 0x8000 until it arrives (R113). -/
def State.captureValue (s : State) (d : Door) (i : Option Currents) (code : Nat) : BitVec 16 :=
  let x := s.slot[d.ch.1]
  let ma := fun (f : Currents → Rat) => match i with | some v => sample16 (f v) | none => 0x8000
  match code with
  | 0x00 => 0
  | 0x01 => BitVec.ofInt 16 s.enc[d.ch.1].stroke
  | 0x02 => sample16 x.vf
  | 0x03 => sample16 x.vSet
  | 0x04 => sample16 (x.out * 10)
  | 0x05 => sample16 (x.integ * 10)
  | 0x06 => sample16 x.iqRef
  | 0x07 => sample16 (s.testSignal d)
  | 0x08 => ma Currents.ia
  | 0x09 => ma Currents.ib
  | 0x0A => ma Currents.ic
  | 0x0B => BitVec.ofNat 16 s.drv[d.1].dv
  | 0x0C => sample16 (s.obs[d.1].fHat * 10)
  | _ => 0x8000

/-- The test signal of injection period n, mA (R112). -/
def testValue (r : InjectReq) (n : Nat) : Rat :=
  let amp : Rat := r.amplitude
  match r.signal with
  | 1 => if n < r.paramA then 0 else amp
  | 2 =>
    let t : Rat := (n : Rat) / 8000
    let f0 : Rat := (r.paramA : Rat) / 10
    let f1 : Rat := (r.paramB : Rat) / 10
    amp * Config.sinTurn (fracTurn (f0 * t + (f1 - f0) * t * t / (2 * ((r.duration : Rat) / 8000))))
  | 3 => if Config.prbsBit r.paramA (n / max 1 r.paramB) then amp else -amp
  | _ => 0

/-- Periods a capture records. -/
def captureLength (r : InjectReq) : Nat := min 8192 (r.lead + r.duration)

/-- Housekeeping prepares the test signal of period n after acceptance. -/
def State.prepareSignal (s : State) (r : InjectReq) (n : Nat) : State :=
  let on := decide (r.lead ≤ n) && decide (n < r.lead + r.duration)
  { s with capture := { s.capture with
    injecting := on && r.signal != 0, signal := if on then testValue r (n - r.lead) else 0 } }

/-- The ends of R114 that the latch finds, before a slot adds the test signal: another mode than Hold, or a stroke beyond the closed
window. -/
def State.captureCheck (s : State) : State :=
  match s.capture.req with
  | none => s
  | some r =>
    if s.slot[r.door.ch.1].mode != .hold || decide (s.cfg.door[r.door.1].enc.closedWindow < s.enc[r.door.ch.1].stroke.natAbs) then
      s.endCapture
    else s

/-- A sample of the period, while fewer than the capture's length are recorded (R113). -/
def State.captureSample (s : State) (r : InjectReq) : State :=
  if s.capture.running && decide (s.capture.period < captureLength r) then
    let i := s.currents r.door
    let e := r.codes.map fun k => s.captureValue r.door i k.toNat
    { s with capture := { s.capture with samples := e :: s.capture.samples, sampleTick := some s.tick } }
  else s

/-- The capture in one period, after the slots: a sample, and the next test signal. The injection runs its full duration, also past the
last sample (R112). -/
def State.captureTick (s : State) : State :=
  match s.capture.req with
  | none => s
  | some r =>
    if !s.capture.active then s
    else
      let s := s.captureSample r
      let n := s.capture.period + 1
      { s with capture := { s.capture with
        period := n, active := s.capture.running || decide (n < r.lead + r.duration) } }.prepareSignal r n

/-- CAPTURE_END (R113): the lead and the duration, or 8,192 samples, are recorded. -/
def execCaptureEnd (t : Nat) (s : State) : Out :=
  let s := s.at t
  match s.capture.req with
  | some r =>
    if s.capture.running && captureLength r ≤ s.capture.period then
      .next { s with capture := { s.capture with
        running := false, active := decide (s.capture.period < r.lead + r.duration) } }
    else .next s
  | none => .next s

/-- The ranges of Table 4-7 (R117). -/
def InjectReq.inRange (r : InjectReq) : Bool :=
  decide (r.amplitude ≤ 2000) && decide (8 ≤ r.duration) && decide (r.duration ≤ 8192) && decide (r.lead ≤ 4095) &&
  r.codes.toList.all (fun c => decide (c.toNat ≤ 0x0F)) && decide (r.capPhase ≤ 6249) &&
  (match r.signal with
   | 0 => true
   | 1 => decide (r.paramA ≤ 4095) && r.paramB == 0
   | 2 => decide (10 ≤ r.paramA) && decide (r.paramA ≤ 39990) && decide (10 ≤ r.paramB) && decide (r.paramB ≤ 39990)
   | _ => decide (7 ≤ r.paramA) && decide (r.paramA ≤ 15) && decide (1 ≤ r.paramB) && decide (r.paramB ≤ 16))

/-- The request that a payload of Table 4-7 holds; none where its length, its doorway or a reserved field is not one of the table. -/
def InjectReq.ofBytes (l : List Byte) : Option InjectReq :=
  if h : 1 ≤ leAt l 0 1 ∧ leAt l 0 1 ≤ 16 then
    if l.length ≠ 20 ∨ 4 ≤ leAt l 1 1 ∨ leAt l 0x12 2 ≠ 0 then none
    else some {
      door := ⟨leAt l 0 1 - 1, by omega⟩, signal := leAt l 1 1, amplitude := leAt l 2 2, paramA := leAt l 4 2
      paramB := leAt l 6 2, duration := leAt l 8 2, lead := leAt l 0xA 2
      codes := Vector.ofFn fun k => BitVec.ofNat 8 (leAt l (0xC + k.1) 1), capPhase := leAt l 0x10 2 }
  else none

/-- An injection request that R111 decides. -/
def State.injectDoor (s : State) (m : Msg) (r : InjectReq) : State :=
  let d := r.door
  if s.cyc[d.1].state ≠ .service || !s.closedRead d || !s.lockRead d || s.slot[d.ch.1].mode ≠ .hold then s.reply m 0x60
  else if s.capture.active then s.reply m 0x07
  else
    let s := { s with capture := { req := some r, session := m.session, running := true, active := true } }
    (s.prepareSignal r 0).reply m 0x00

/-- INJECT (R111, R117): a payload outside Table 4-7 is refused 0x01. -/
def execInject (t : Nat) (m : Msg) (payload : List Byte) (s : State) : Out :=
  let s := s.at t
  match InjectReq.ofBytes payload with
  | none => .next (s.tally 0x32 m .configured fun s _ => s.reply m 0x01)
  | some r => .next (s.tallyDoor 0x32 m r.door fun s => if InjectReq.inRange r then s.injectDoor m r else s.reply m 0x01)

/-! ## Live writes (R108-R110) -/

/-- The doorway runs, in the sense R108 asks for. -/
def State.writable (s : State) (c : Ch) : Bool := s.chFitted c && !s.chStopped c

/-- LIVE_WRITE: decided at once, in a formed pair after the standby's check (R110). DESIGN CHOICE: the spec does not say what a write
gets while an earlier one's check is outstanding; it is refused 0x07, the pair's one check being taken (log 31). -/
def execLiveWrite (t : Nat) (m : Msg) (c : Ch) (offset : Nat) (value : BitVec 32) (s : State) : Out :=
  let s := s.at t
  .next (s.tallyDoor 0x31 m c.door fun s =>
    if !s.chFitted c then s.reply m 0x02
    else if s.chStopped c then s.reply m 0x03
    else if !s.liveValueOk c offset value.toNat then s.reply m 0x6C
    else if 8 ≤ s.slot[c.1].pending.length then s.reply m 0x07
    else if s.pair.formed then
      if !s.pair.token then s.reply m 0x69
      else if s.pair.check.isSome then s.reply m 0x07
      else { s with pair := { s.pair with check := some (m, c, { offset, value }, s.ns), checkSeq := none } }.putMsg
        (CesilMsg.liveCheck c offset value)
    else (s.modSlot c fun x => { x with pending := x.pending ++ [{ offset, value }] }).reply m 0x00)

/-- The outstanding check is over; a check message that has not left is withdrawn. -/
def State.endCheck (s : State) : State :=
  { s with pair := { s.pair with
    check := none, checkSeq := none, msgs := s.pair.msgs.filter fun m => match m.msg with | .liveCheck .. => false | _ => true } }

/-- LIVE_WRITE_CHECK_TIMEOUT (R110): no result within 1 ms. -/
def execLiveWriteCheckTimeout (t : Nat) (s : State) : Out :=
  let s := s.at t
  match s.pair.check with
  | some (m, _, _, at_) =>
    if at_ + ms 1 ≤ s.ns && s.millerRuns then .next (s.endCheck.answer 0x31 m 0x07) else .next s
  | none => .next s

/-- The standby's result of a check arrives: accepted with an apply tick three periods ahead, or refused (R110). -/
def State.liveCheckResult (s : State) (ok : Bool) : State :=
  match s.pair.check with
  | none => s
  | some (m, c, w, _) =>
    let s := s.endCheck
    if !ok || 8 ≤ s.slot[c.1].pending.length then s.answer 0x31 m 0x07
    else
      let tick := BitVec.ofNat 32 (s.pairTick + 4)
      let s := s.putMsg (CesilMsg.liveApply c w.offset w.value tick)
      (s.modSlot c fun x => { x with pending := x.pending ++ [{ w with applyAt := some (s.tickNs tick) }] }).answer 0x31 m 0x00

/-! ## Align (R101, R187) -/

/-- ALIGN_COMPLETE: 200 ms of Align have passed; angle 0 is the count of its last period. The Miller that decides goes on with what Align
was run for (R312), an unlocking doorway with its preload (Table 6-1). -/
def execAlignComplete (t : Nat) (d : Door) (s : State) : Out :=
  let s := s.at t
  let x := s.slot[d.ch.1]
  if x.mode ≠ .align || !due (x.alignAt.map (· + ms 200)) s.ns then .next s
  else
    let s := s.modSlot d.ch fun x => { x with alignCount := some s.enc[d.ch.1].latched }
    if !s.decides then .next s
    else
    let s := s.modSlot d.ch fun x => { x with alignAt := none }
    let y := s.cyc[d.1]
    let low := (s.obsCfg d).tenterLow
    match y.state with
    | .unlocking =>
      let s := s.modCyc d fun y => { y with aligning := false }
      .next ((s.preload d).tryOpening d)
    | .unreferenced =>
      let s := s.modCyc d fun y => { y with aligning := false }
      if y.refClosing && y.startTick.isNone then .next (s.beginTravel d.ch false y.startS) else .next (s.holdAt d 0)
    | .service =>
      (match y.svc with
       | .align v => .next ((s.modCyc d fun y => { y with svc := .jog v }).request d.ch .jog v)
       | _ =>
         match s.maint.tenter with
         | some x =>
           if x.door = d ∧ x.step = .align then
             .next ({ s with maint := { s.maint with tenter := some { x with step := .out false } } }.request d.ch .jog low)
           else .next (s.holdAt d 0)
         | none => .next (s.holdAt d 0))
    | _ => .next (s.holdAt d 0)

end Sys2Proof.Machine
end

