-- ==== Sys2Proof/Machine/Calibration.lean ====
section
/-!
DEFINITION. Sys2Proof/Machine/Calibration.lean: calibration records (R145-R149): their bytes, validity, selection at start, commit
and take-up.
-/
namespace Sys2Proof.Machine

/-! ## Layout (Table 5-4) -/

/-- Signed 16-bit fields. -/
def bytes16 (l : List Int) : List Byte := l.flatMap fun i => toLeInt 2 i

/-- Bytes 0x000-0x5FB of a record. -/
def CalRec.body (c : CalRec) : List Byte :=
  toLe 2 c.format.toNat ++ toLe 1 c.doorway.toNat ++ toLe 1 c.valid.toNat ++ toLe 4 c.learnedAt.toNat ++ toLe 4 c.count.toNat ++
  toLe 2 c.fingerprint.toNat ++ toLe 2 c.indexAngle.toNat ++ toLe 2 c.strokeAngle.toNat ++ toLe 2 c.mass ++ toLe 2 c.viscous ++
  toLe 2 c.rms ++ toLe 2 c.speedLow ++ toLe 2 c.speedHigh ++ List.replicate 4 0 ++
  bytes16 c.fricOpen.toList ++ bytes16 c.fricClose.toList ++ bytes16 c.cog.toList ++ List.replicate 220 0

/-- A record with its CRC-32C, 1,536 bytes. -/
def CalRec.bytes (c : CalRec) : List Byte :=
  let b := c.body
  b ++ toLe 4 (if c.crcOk then crc32c b else ~~~(crc32c b)).toNat

/-- Signed 16-bit field at an offset. -/
def s16At (l : List Byte) (off : Nat) : Int := signed 16 (leAt l off 2)

/-- The record that 1,536 bytes hold. -/
def CalRec.ofBytes (l : List Byte) : CalRec :=
  { format := BitVec.ofNat 16 (leAt l 0x000 2), doorway := BitVec.ofNat 8 (leAt l 0x002 1), valid := leAt l 0x003 1 % 2 == 1
    learnedAt := BitVec.ofNat 32 (leAt l 0x004 4), count := BitVec.ofNat 32 (leAt l 0x008 4)
    fingerprint := BitVec.ofNat 16 (leAt l 0x00C 2), indexAngle := BitVec.ofNat 16 (leAt l 0x00E 2)
    strokeAngle := BitVec.ofNat 16 (leAt l 0x010 2), mass := leAt l 0x012 2, viscous := leAt l 0x014 2, rms := leAt l 0x016 2
    speedLow := leAt l 0x018 2, speedHigh := leAt l 0x01A 2
    fricOpen := Vector.ofFn fun k => s16At l (0x020 + 2 * k.1)
    fricClose := Vector.ofFn fun k => s16At l (0x220 + 2 * k.1)
    cog := Vector.ofFn fun k => s16At l (0x420 + 2 * k.1)
    crcOk := leAt l 0x5FC 4 == (crc32c (l.take 0x5FC)).toNat }

/-! ## Validity (R148) -/

/-- Fingerprint of a doorway's running parameters (Table 5-4). -/
def DoorCfg.fingerprint (g : DoorCfg) : BitVec 16 :=
  crc16 (toLe 2 g.ctl.kf ++ toLe 1 g.ctl.polePairs ++ toLe 2 g.enc.countsPerRev ++
    toLe 1 (g.enc.invert.toNat + 2 * g.enc.indexGate.toNat + 4 * g.enc.indexCheck.toNat) ++
    toLe 4 g.enc.scaleNm ++ toLe 4 g.enc.openSc)

/-- Why a copy is not valid for a doorway, in the codes of event index 19; none where it is valid. -/
def calReason (g : DoorCfg) (d : Door) (c : Option CalRec) : Option Nat :=
  match c with
  | none => some 6
  | some c =>
    if !c.crcOk then some 1
    else if c.format ≠ 1 then some 2
    else if !c.valid then some 3
    else if c.doorway.toNat ≠ d.1 + 1 then some 4
    else if c.fingerprint ≠ g.fingerprint then some 5
    else none

/-- Place of a doorway's record in the mirror (Table 12-2). -/
def mirrorAt (d : Door) : Nat := 0x1800000 + d.1 * 0x10000

/-- The mirror copy; no record where the place reads all 0xFF or no plug is present. -/
def State.mirrorCal (s : State) (d : Door) : Option CalRec :=
  if !s.maint.plugPresent then none
  else
    let l := Memory.bytes s.nv.plug (mirrorAt d) 1536
    if l.all (· == 0xFF) then none else some (CalRec.ofBytes l)

/-- Plug writes are possible (R361). -/
def State.plugWritable (s : State) : Bool := s.maint.plugPresent && !s.maint.plugDiffers

/-- Places of the refresh scratch and journal sectors (Table 12-2). -/
def scratchAt : Nat := 0x1D00000
def journalAt : Nat := 0x1D10000

/-- The open journal entry of a refresh: the place of its sector, none where the journal sector is erased. DESIGN CHOICE: the entry is that
place in four bytes, little-endian; the spec gives it no form (log 4). -/
def State.journal (s : State) : Option Nat :=
  let v := ofLe (Memory.bytes s.nv.plug journalAt 4)
  if v = 0xFFFFFFFF then none else some v

/-- Stages 3 and 4 of a refresh (R367): the sector is erased and programmed from the scratch sector, and the journal is cleared. -/
def State.finishJournal (s : State) : State :=
  match s.journal with
  | none => s
  | some off =>
    let l := Memory.bytes s.nv.plug scratchAt 0x10000
    let m := Memory.writeBytes (Memory.erase s.nv.plug off 0x10000) off l
    { s with nv := { s.nv with plug := Memory.erase m journalAt 0x10000 } }

/-- The sector whose journal entry this module has opened is completed and counted. Every other write to the plug waits for it. -/
def State.programSector (s : State) : State :=
  if s.maint.refresh.opened.isNone then s
  else
    let s := { s with maint := { s.maint with refresh := { s.maint.refresh with opened := none } } }
    if s.plugWritable then s.finishJournal.bump 0x80 21 else s

/-- Write a record to the mirror: its sector is erased and programmed. -/
def State.writeMirror (s : State) (d : Door) (c : CalRec) : State :=
  let s := s.programSector
  if s.plugWritable then
    let m := Memory.writeBytes (Memory.erase s.nv.plug (mirrorAt d) 0x10000) (mirrorAt d) c.bytes
    { s with nv := { s.nv with plug := m } }
  else s

/-- Write a record to the calibration partition, as the older copy (R339). -/
def State.writeBookCal (s : State) (d : Door) (c : CalRec) : State :=
  { s with nv := { s.nv with cal := s.nv.cal.set d.1 (s.nv.cal[d.1].put c) } }

/-- No valid record: NOCAL (R149). -/
def State.withoutCal (s : State) (d : Door) : State := s.modObs d fun o => { o with noCal := true, fHat := 0, confirm := 0 }

/-- Selection at start and at a doorway restart (R148, R149). -/
def State.selectCal (s : State) (d : Door) : State :=
  let g := s.cfg.door[d.1]
  let book := s.nv.cal[d.1].value
  let mirror := s.mirrorCal d
  let use := fun (c : CalRec) => s.modObs d fun o => { o with cal := c, noCal := false }
  match calReason g d book, calReason g d mirror, book, mirror with
  | none, none, some a, some b =>
    if a.count.toNat < b.count.toNat then (use b).writeBookCal d b
    else if b.count.toNat < a.count.toNat then (use a).writeMirror d a
    else use a
  | none, some _, some a, _ => (use a).writeMirror d a
  | some _, none, _, some b => (use b).writeBookCal d b
  | r1, r2, _, _ => (s.withoutCal d).doorEvent d 19 4 (r1.getD 0) (BitVec.ofNat 32 (r2.getD 0)) 0 0

/-! ## Commit and take-up (R145, R146) -/

/-- The new tables come into force at a latch: both biases 0, DRIFT, PLAUSSC and NOCAL clear. -/
def State.takeUpCal (s : State) (d : Door) (c : CalRec) : State :=
  (s.modObs d fun o => { o with
    cal := c, noCal := false, takeUp := none, bClose := 0, bOpen := 0, drift := false, plausSc := false, plausClean := 0 }).storeBias d

/-- The outcome of a learning run: its counter, its event with the computed rms and mass, and the last outcome (R144, R377). -/
def State.tenterOutcome (s : State) (d : Door) (code rms mass : Nat) : State :=
  ((s.bump (0x51 + d.1) (9 + code)).doorEvent d 22 (if code = 0 then 2 else 3) code (BitVec.ofNat 32 rms) (BitVec.ofNat 32 mass)
    0).outcome .tenter code

/-- The last step of a commit: the mirror copy, and with it the outcome, 0x0A where the plug cannot be written (R145). -/
def State.finishCommit (s : State) (d : Door) (c : CalRec) : State :=
  if !s.obs[d.1].commit then s
  else
    let code := if s.plugWritable then 0x00 else 0x0A
    ((s.writeMirror d c).modObs d fun o => { o with commit := false }).tenterOutcome d code c.rms c.mass

/-- What a phase 0 latch takes up: at once, or at the first latch from the tick of the take-up message. A module that no longer leads a
pair stops waiting for its chunks (log 27). -/
def State.takeUpTick (s : State) (d : Door) : State :=
  match s.obs[d.1].sending with
  | some c => if s.pair.formed && s.pair.token then s
      else ((s.modObs d fun o => { o with sending := none }).takeUpCal d c).finishCommit d c
  | none => match s.obs[d.1].takeUp with
    | some (c, none) => (s.takeUpCal d c).finishCommit d c
    | some (c, some k) => if k ≤ s.ns then (s.takeUpCal d c).finishCommit d c else s
    | none => s

/-- The sixteen chunks of a record, 96 bytes each (Table 10-6). -/
def CalRec.chunk (c : CalRec) (k : Fin 16) : List Byte := slice c.bytes (96 * k.1) 96

/-- A record is committed (R145, R147): the Millbook copy at once, with the time of the commit; then the take-up, alone at the next latch,
in a pair at a tick that is set once every chunk has been sent (R21); the mirror copy comes last. -/
def State.commitCal (s : State) (d : Door) (c : CalRec) : State :=
  let c := { c with learnedAt := BitVec.ofNat 32 s.calS }
  let s := s.writeBookCal d c
  if s.pair.formed && s.pair.token then
    let s := (List.finRange 16).foldl (fun (s : State) k => s.putMsg (CesilMsg.calChunk d k (c.chunk k))) s
    s.modObs d fun o => { o with sending := some c, commit := true }
  else s.modObs d fun o => { o with takeUp := some (c, none), commit := true }

end Sys2Proof.Machine
end

