-- ==== Sys2Proof/Machine/Recorder.lean ====
section
/-!
DEFINITION. Sys2Proof/Machine/Recorder.lean: Millbook's intake, flush engine, partitions and traces, the Millpond, power failure, and
what a module restart keeps (11_millbook).
-/
namespace Sys2Proof.Machine

/-! ## Partitions (R329, R338) -/

/-- Partition of a record by its format: 0 cycle, 1 event, 2 trace. -/
def RecBody.part : RecBody → Nat
  | .cycle _ => 0 | .event .. => 1 | .trace _ => 2

/-- Capacity in records (Table 11-1). -/
def partCapacity (p : Nat) : Nat := if p = 0 then 6160384 else if p = 1 then 1048576 else 7168

/-- Records of a partition, oldest first. -/
def NonVol.part (v : NonVol) (p : Nat) : List Record := if p = 0 then v.cycles else if p = 1 then v.events else v.traces
def NonVol.setPart (v : NonVol) (p : Nat) (l : List Record) : NonVol :=
  if p = 0 then { v with cycles := l } else if p = 1 then { v with events := l } else { v with traces := l }

/-- Split off the oldest record whose severity is no higher than the given one. -/
def takeOldest (sev : Nat) : List Record → Option (Record × List Record)
  | [] => none
  | r :: l => if r.severity ≤ sev then some (r, l) else (takeOldest sev l).map fun x => (x.1, r :: x.2)

/-- Write a record to its partition; a full one loses its oldest record of no higher severity, or the new record is dropped. -/
def State.store (s : State) (r : Record) : State :=
  let p := r.body.part
  let l := s.nv.part p
  let put := fun (s : State) (l : List Record) => ({ s with nv := s.nv.setPart p (l ++ [r]) } : State).bump 0x85 (8 * p)
  if l.length < partCapacity p then put s l
  else match takeOldest r.severity l with
    | some (old, rest) => (put s rest).bump 0x85 (8 * p + 1 + old.severity)
    | none =>
      (({ s with book := { s.book with pdrop := true } } : State).bump 0x85 (8 * p + 7)).event 0x3D3 3 (p + 1) 0 0 0

/-- Write records in order. -/
def State.storeAll (s : State) (l : List Record) : State := l.foldl State.store s

/-- What a checkpoint holds now (Table 11-5). DEDUCED: a partition's head is the number of its records, as the spec places no record inside its
partition (log 5). -/
def State.checkpointNow (s : State) : Checkpoint :=
  { nextSeq := s.book.nextSeq, heads := #v[s.nv.cycles.length, s.nv.events.length, s.nv.traces.length], bootCount := s.book.bootCount
    pondTest := s.book.pondTest, acceptedS := s.book.acceptedS }

/-- The checkpoint (R339), and with it the lifetime counters (R379): each as the older copy of its area. -/
def State.checkpoint (s : State) : State :=
  { s with
    nv := { s.nv with checkpoint := s.nv.checkpoint.put s.checkpointNow, counters := s.nv.counters.put s.counters }
    book := { s.book with checkpointAt := s.ns } }

/-! ## Intake (R331, R336) -/

/-- Bytes of records in intake. -/
def recBytes (l : List Record) : Nat := (l.map Record.bytes).sum

/-- Intake uses its reserve: the last 64 entries or the last 64 KiB. -/
def usesReserve (l : List Record) : Bool := decide (1984 < l.length) || decide (983040 < recBytes l)

/-- Space that an item may use: the reserve only from severity Major. -/
def intakeSpace (l : List Record) (r : Record) : Bool :=
  let n := l.length + 1
  let b := recBytes l + r.bytes
  if 4 ≤ r.severity then decide (n ≤ 2048) && decide (b ≤ 1048576) else decide (n ≤ 1984) && decide (b ≤ 983040)

/-- Order of the items offered in one tick: module records, then doorway by doorway in order of creation. -/
def tickOrder (l : List Record) : List Record := (List.range 17).flatMap fun d => l.filter fun r => r.doorway == d

/-- An item is dropped at the staging queue or at intake (event 0x3D2). -/
def State.dropItem (s : State) (cause : Nat) : State :=
  let s := { s with book := if cause = 1 then { s.book with idrop := true } else { s.book with sdrop := true } }
  (s.bump 0x85 (if cause = 1 then 24 else 25)).event 0x3D2 4 cause 0 0 0

/-- The intake high-water mark, kept with the counters. -/
def State.intakeMark (s : State) : State :=
  let n := s.book.intake.length
  if (s.counter 0x85 26).value.toNat < n then
    { s with counters := mapPut (0x85 * 65536 + 26) { s.counter 0x85 26 with value := BitVec.ofNat 48 n } s.counters }
  else s

/-- One item enters intake with the next sequence number; in write-through mode, with intake empty, it goes to the store,
where its write ends within 1 ms (R345). -/
def State.takeIn (s : State) (r : Record) : State :=
  if !intakeSpace s.book.intake r then s.dropItem 1
  else
    let r := { r with seq := s.book.nextSeq }
    let s := { s with book := { s.book with nextSeq := s.book.nextSeq + 1 } }
    if s.book.wthru && s.book.intake.isEmpty then
      ({ s with book := { s.book with writing := some (r.body.part, r.seq, s.ns + ms 1) } } : State).store r
    else ({ s with book := { s.book with intake := s.book.intake ++ [r] } } : State).intakeMark

/-- A record of severity Major or Safety waits in intake. -/
def Book.urgent (b : Book) : Bool := b.intake.any fun r => decide (4 ≤ r.severity)
/-- Data space or index is three-quarters full. -/
def Book.threeQuarters (b : Book) : Bool := decide (786432 ≤ recBytes b.intake) || decide (1536 ≤ b.intake.length)

/-- Counter of a flush by its trigger (Table 13-4). -/
def FlushCause.counter : FlushCause → Option Nat
  | .fill => some 27 | .severity => some 28 | .powerFail => some 29 | .periodic => some 30 | .other => none

/-- A flush starts: it takes every item that is in intake now. -/
def State.startFlush (s : State) (c : FlushCause) : State :=
  let s := { s with book := { s.book with flushing := some (s.book.intake.length, c) } }
  match c.counter with | some k => s.bump 0x85 k | none => s

/-- The triggers of R337 in buffered mode; in write-through mode whatever stands in intake goes to the store at once. -/
def State.flushTrigger (s : State) : State :=
  if s.book.flushing.isSome then s
  else if s.book.wthru then (if s.book.intake.isEmpty then s else s.startFlush .other)
  else if s.book.threeQuarters then s.startFlush .fill
  else if s.book.urgent then s.startFlush .severity
  else s

/-- What a mill tick does with the items offered since the last one: up to 32 enter intake, the rest waits in the staging queue. -/
def State.intakeTick (s : State) : State :=
  let q := s.book.staging ++ tickOrder s.book.offered
  let rest := q.drop 32
  let s := { s with book := { s.book with offered := [], staging := rest.take 256 } }
  let s := (q.take 32).foldl State.takeIn s
  let s := (rest.drop 256).foldl (fun (s : State) _ => s.dropItem 2) s
  let s := { s with book := { s.book with reserve := usesReserve s.book.intake } }
  s.flushTrigger

/-- The first n items of intake go to the store, and the flush ends with a checkpoint. -/
def State.endFlush (s : State) (n : Nat) : State :=
  let l := s.book.intake.take n
  let s := { s with book := { s.book with intake := s.book.intake.drop n, flushing := none, flushEnd := s.ns } }
  let s := (s.storeAll l).checkpoint
  { s with book := { s.book with reserve := usesReserve s.book.intake } }

/-- Everything offered, staged or in intake goes to the store (R365). -/
def State.flushAll (s : State) : State :=
  let l := s.book.staging ++ tickOrder s.book.offered
  let s := { s with book := { s.book with offered := [], staging := [] } }
  let s := l.foldl State.takeIn s
  s.endFlush s.book.intake.length

/-- FLUSH_PERIODIC (R337): rec.flush.period_min since the end of the last flush, in buffered mode. -/
def execFlushPeriodic (t : Nat) (s : State) : Out :=
  let s := s.at t
  if s.book.wthru || s.book.flushing.isSome || s.book.powerFailed ||
     decide (s.ns < s.book.flushEnd + ms (60000 * s.cfg.recorder.flushMin)) then .next s
  else .next (s.startFlush .periodic)

/-- FLUSH_COMPLETE (R337): the items are in the store; items that arrived meanwhile wait for the next flush. -/
def execFlushComplete (t : Nat) (s : State) : Out :=
  let s := s.at t
  match s.book.flushing with
  | none => .next s
  | some (n, _) => .next (s.endFlush n).flushTrigger

/-- CHECKPOINT_WRITE (R339): every 60 s in write-through mode. -/
def execCheckpointWrite (t : Nat) (s : State) : Out :=
  let s := s.at t
  if s.book.wthru && !s.book.powerFailed && decide (s.book.checkpointAt + ms 60000 ≤ s.ns) then .next s.checkpoint else .next s

/-- TOKEN_BUCKET_REFILL (R334): one token returns; the timer stops at a full bucket. -/
def execTokenBucketRefill (t : Nat) (code : Nat) (s : State) : Out :=
  let s := s.at t
  let b := s.bucket code
  if !due b.timer s.ns then .next s
  else
    let n := b.tokens + 1
    let again := b.timer.map (· + ms (1000 * s.cfg.recorder.refillS))
    .next (s.setBucket code { b with tokens := n, timer := if n < s.cfg.recorder.burst then again else none })

/-! ## Traces (R340) -/

/-- Add an entry to a list of at most 1,015. -/
def pushEntry (l : List TraceEntry) (e : TraceEntry) : List TraceEntry := (l ++ [e]).drop (l.length + 1 - 1015)

/-- A triggered trace with an entry more, and one fewer that it still needs. -/
def growTrace (e : TraceEntry) (p : Record × Nat) : Record × Nat :=
  ({ p.1 with body := match p.1.body with | .trace tr => .trace { tr with entries := tr.entries ++ [e] } | b => b }, p.2 - 1)

/-- The entry of the doorway's last retired slot is added to its ring and to its triggered traces; one that has its 247 entries is
offered. -/
def State.traceDoor (s : State) (d : Door) : State :=
  let e := s.slot[d.ch.1].lastEntry
  let ring := s.book.rings[d.1]
  let grown := ring.pending.map (growTrace e)
  let ring := { ring with entries := pushEntry ring.entries e, pending := grown.filter fun p => p.2 ≠ 0 }
  let s := { s with book := { s.book with rings := s.book.rings.set d.1 ring } }
  (grown.filter fun p => p.2 = 0).foldl (fun (s : State) p => s.offer p.1) s

/-- Every fitted doorway's entry at a tick that is a multiple of the interval. -/
def State.traceTick (s : State) : State :=
  if s.tick % s.cfg.recorder.traceInterval ≠ 0 then s
  else s.eachDoor fun s d => if s.fitted d then s.traceDoor d else s

/-! ## Restart (R13, R352, R394) -/

/-- The module is in reset: from power-on reset to the end of step 1, and throughout a module restart (R394). -/
def State.inReset (s : State) : Bool := s.maint.step == 1 && !s.maint.failed

/-- What survives as the module goes into reset: a record whose write-through is under way may be cut off (R348). -/
def State.kept (s : State) : NonVol :=
  match s.book.writing with
  | some (p, q, done) => if s.ns < done then { s.nv with torn := some (p, q) } else s.nv
  | none => s.nv

/-- A module in reset: what does not survive loss of power is at its value at reset. What stands outside the module stays: the
encoder lines, the supplies' state, the partner's token line and the arbiter's lines. A braking path that Sluice turned on runs
out its hold on the new clock (R394). -/
def State.renew (s : State) : State :=
  { State.reset with
    free := s.free, pending := s.pending, nv := s.kept
    enc := s.enc.map fun e => { a := e.a, b := e.b, z := e.z, lineBad := e.lineBad, supplyBad := e.supplyBad }
    drv := s.drv.map fun x => if x.brakeSluice then { brake := x.brake.map (· - s.ns), brakeSluice := x.brake.isSome } else {}
    sup := s.sup
    pair := { State.reset.pair with tokIn := s.pair.tokIn, arb1 := s.pair.arb1, arb2 := s.pair.arb2 } }

/-- A module that was unpowered: its braking paths are off as well (R68). -/
def State.unpowered (s : State) : State := { s.renew with drv := State.reset.drv }

/-- The record of a cycle that a power failure or restart interrupts (R194), none where the doorway has no cycle in progress. -/
def State.interrupted (s : State) (d : Door) : Option Record :=
  let body : Option CycleRec := match s.cyc[d.1].rec? with
    | some c => some (s.sealRec d 5 c)
    | none => s.cyc[d.1].ending.map fun c => { c with outcome := 5 }
  body.map fun c => s.record (d.1 * 48) (outcomeSeverity 5) (d.1 + 1) (.cycle c)

/-- Doorways with a cycle in progress. -/
def State.inCycle (s : State) : List Door := (List.finRange 16).filter fun d => (s.interrupted d).isSome

/-- A deliberate restart of the module (R365): cycles in progress end with outcome 0x05, Millbook is flushed, and the module is in
reset. POWER_ON_RESET then runs the start-up, with what it finds. -/
def State.restartModule (s : State) : State :=
  let s := s.inCycle.foldl (fun (s : State) d =>
    match s.interrupted d with | some r => (s.offer r).bump (0x61 + d.1) 5 | none => s) s
  let s := s.flushAll
  { s with book := { s.book with writing := none } }.renew

/-! ## Power failure (R346, R347) -/

/-- The power-fail flush: intake, then the shadow records, then counters and checkpoint. -/
def State.powerFlush (s : State) : State :=
  let doors := s.inCycle
  let mask := doors.foldl (fun (w : BitVec 32) d => w ||| ((1#32) <<< d.1)) 0
  let shadow := s.record 0x3D0 2 0 (.event 0 0xFF 0 mask 0 0 0) :: doors.filterMap s.interrupted
  let s := (s.bump 0x85 31).bump 0x85 29
  let s := doors.foldl (fun (s : State) d => s.bump (0x61 + d.1) 5) s
  let s := s.storeAll s.book.intake
  let s := { s with book := { s.book with intake := [], offered := [], staging := [], flushing := none, flushEnd := s.ns } }
  let s := shadow.foldl (fun (s : State) r =>
    ({ s with book := { s.book with nextSeq := s.book.nextSeq + 1 } } : State).store { r with seq := s.book.nextSeq }) s
  let s := { s with nv := { s.nv with powerFailed := true } }
  s.checkpoint

/-- Power-fail is declared (R347), once, and not in reset: intake closes, Sluice takes the safe state, and the flush engine writes what
R347 lists. -/
def State.declareFail (s : State) : State :=
  if s.book.powerFailed || s.inReset then s
  else ({ s with book := { s.book with powerFailed := true } } : State).sluiceAct.powerFlush

/-- µs for which LV may be below 60 V (R346). -/
def State.lvLimit (s : State) : Nat := if s.book.pond = .available then 10000 else 100

/-- The store leaves AVAILABLE while LV is below 60 V (R346). -/
def State.pondLeft (s : State) (old : PondState) : State :=
  if old = .available ∧ s.book.pond ≠ .available ∧ s.book.lvLowAt.isSome then s.declareFail else s

/-- POWER_FAIL_DECLARED (R346): LV has been below 60 V for so long; the declaration waits for the limit of the store's state. -/
def execPowerFailDeclared (x : LvLow) (s : State) : Out :=
  let s := s.at x.at_
  let s := { s with book := { s.book with lvLowAt := some (s.ns - 1000 * x.us) } }
  .next (if x.us < s.lvLimit then s else s.declareFail)

/-- LV_DIP_RIDDEN_THROUGH (R346): an LV dip recovers before the declaration. -/
def execLvDipRiddenThrough (t : Nat) (us : Nat) (s : State) : Out :=
  let s := s.at t
  let s := { s with book := { s.book with lvLowAt := none } }
  if s.book.powerFailed || s.inReset || decide (s.lvLimit ≤ us) then .next s else .next ((s.bump 0x85 32).event 0x3D1 1 0 (BitVec.ofNat 32 us) 0 0)

/-- POWER_FAIL_HOLD_END (R347): the store is at 30 V, or LV is back; the module is in reset, and its interrupted work is gone. -/
def execPowerFailHoldEnd (t : Nat) (cause : HoldEnd) (s : State) : Out :=
  let s := s.at t
  if s.book.powerFailed then .next (match cause with | .storeEmpty => s.unpowered | .lvBack => s.renew) else .next s

/-! ## The Millpond (R343-R345) -/

/-- The store takes a state; buffered mode stands only while it is AVAILABLE, and leaving it flushes the intake. -/
def State.setPond (s : State) (p : PondState) : State :=
  let s := { s with book := { s.book with pond := p, wthru := decide (p ≠ PondState.available) } }
  if s.book.wthru then s.flushTrigger else s

/-- A store has been fitted: it is charged, and its acceptance test is outstanding. -/
def State.fitPond (s : State) (afterAbsence : Bool) : State :=
  let s := { s with book := { s.book with charger := true, accepting := true, wasAbsent := afterAbsence } }
  s.setPond .charging

/-- MILLPOND_FITTED (R345): the presence loop of a refitted store closes; in reset the charger stays off (R394). -/
def execMillpondFitted (t : Nat) (s : State) : Out :=
  let s := s.at t
  if s.book.pond ≠ .absent || s.inReset then .next s else .next (s.fitPond true)

/-- MILLPOND_PRESENCE_OPEN (R345): the store is ABSENT, by its loop or by a voltage that rises too fast under the charge. -/
def execMillpondPresenceOpen (t : Nat) (cause : AbsentCause) (s : State) : Out :=
  let s := s.at t
  if s.book.pond = .absent || s.book.pond = .notFitted || (cause == .fastRise && !s.book.charger) then .next s
  else
    let old := s.book.pond
    let s := if s.book.testBy.isSome then s.outcome .millpondTest 1 else s
    let s := { s with book := { s.book with
      charger := false, accepting := false, ptest := false, testEnd := none, testBy := none, mprem := true } }
    .next (((s.setPond .absent).event 0x3D6 4 (if cause = .loopOpen then 1 else 2) 0 0 0).pondLeft old)

/-- A test starts: the charger stops and the draw runs for 200 ms. -/
def State.startPondTest (s : State) (by_ : Option Msg) : State :=
  { s with book := { s.book with charger := false, testEnd := some (s.ns + ms 200), testBy := by_
                                 ptest := s.book.pond == .available } }

/-- MILLPOND_CHARGED (R344): charging first reaches 50 V; the acceptance test runs, the store in TESTING. -/
def execMillpondCharged (t : Nat) (s : State) : Out :=
  let s := s.at t
  if s.book.pond ≠ .charging || !s.book.accepting then .next s
  else
    let s := { s with book := { s.book with storeMv := 50000 } }
    .next ((s.setPond .testing).startPondTest none)

/-- MILLPOND_PERIODIC_TEST (R344): the interval has elapsed and the store is AVAILABLE, which it stays. -/
def execMillpondPeriodicTest (t : Nat) (s : State) : Out :=
  let s := s.at t
  if s.book.pond ≠ .available || s.book.testEnd.isSome ||
     decide (s.ns < s.book.testAt + ms (3600000 * s.cfg.recorder.testHours)) then .next s
  else .next (s.startPondTest none)

/-- MILLPOND_TEST (R344): the same test by a session that holds the module token. -/
def execMillpondTest (t : Nat) (m : Msg) (s : State) : Out :=
  let s := s.at t
  .next (s.tally 0x46 m .configured fun s _ =>
    if s.maint.moduleTok ≠ some m.session then s.reply m 0x05
    else if s.book.pond ≠ .available then s.reply m 0x6F
    else if s.book.testEnd.isSome then s.reply m 0x07
    else (s.startPondTest (some m)).reply m 0x00)

/-- MILLPOND_TEST_COMPLETE (R344, R346): the replacement is no longer due where the store is another one. It takes what the draw of 200 ms
measured, in µF and mΩ. -/
def execMillpondTestComplete (t : Nat) (uf mohm : Nat) (s : State) : Out :=
  let s := s.at t
  if !due s.book.testEnd s.ns then .next s
  else
    let pass := decide (s.cfg.recorder.minUf ≤ uf) && decide (mohm ≤ 500)
    let accept := s.book.pond == .testing
    let s := if s.book.testBy.isSome then s.outcome .millpondTest (if pass then 0 else 1) else s
    let old := s.book.pond
    let s := { s with book := { s.book with
        pondTest := some (uf, mohm), testEnd := none, testBy := none, ptest := false, accepting := false, charger := true, testAt := s.ns } }
    if pass then
      let s := (s.setPond (if s.book.pond = .charging then .charging else .available)).bump 0x85 33
      let s := if accept && (s.book.wasAbsent || s.book.acceptedS.isNone) then
          { s with book := { s.book with acceptedS := some s.calS, due := false, dueAt := none } } else s
      if accept && s.book.wasAbsent then .next (s.event 0x3D7 2 0 (BitVec.ofNat 32 uf) (BitVec.ofNat 32 mohm) 0) else .next s
    else
      let s := { s with book := { s.book with mpfail := true } }
      .next ((((s.setPond .failed).bump 0x85 34).event 0x3D8 4 0 (BitVec.ofNat 32 uf) (BitVec.ofNat 32 mohm) 0).pondLeft old)

/-- MILLPOND_VOLTAGE_CHANGE (R344): an AVAILABLE store below 48.0 V is CHARGING, and AVAILABLE again from 49.5 V. -/
def execMillpondVoltageChange (t : Nat) (mv : Nat) (s : State) : Out :=
  let s := s.at t
  let s := { s with book := { s.book with storeMv := mv } }
  if s.book.pond = .available ∧ mv < 48000 then .next ((s.setPond .charging).pondLeft .available)
  else if s.book.pond = .charging ∧ ¬ s.book.accepting ∧ 49500 ≤ mv then .next (s.setPond .available)
  else .next s

/-- Ten years in seconds, at 365.25 days a year. -/
def tenYears : Nat := 315576000

/-- MILLPOND_REPLACEMENT_DUE (R344): ten years after the acceptance date, once in a power-on span and every 24 h. -/
def execMillpondReplacementDue (t : Nat) (s : State) : Out :=
  let s := s.at t
  match s.book.acceptedS with
  | none => .next s
  | some date =>
    let again := match s.book.dueAt with | none => true | some x => decide (x ≤ s.ns)
    if decide (s.calS < date + tenYears) || !again then .next s
    else
      let s := { s with book := { s.book with due := true, dueAt := some (s.ns + ms 86400000) } }
      .next (s.event 0x3D9 2 0 (BitVec.ofNat 32 date) 0 0)

/-! ## Retention of the store (R368) -/

/-- 365 days in seconds. -/
def yearS : Nat := 31536000

/-- A record of ten years or more, or of no known age. -/
def State.aged (s : State) (r : Record) : Bool := r.tq == 0 || decide (r.calUs / 1000000 + tenYears ≤ s.calS)

/-- An aged record is rewritten in place, with the same bytes. -/
def State.rewrite (s : State) (r : Record) : Record := if s.aged r then { r with rewrites := r.rewrites + 1 } else r

/-- A pass over the store: the aged records and traces, and every area of the calibration partition as an update of its own (R339). -/
def State.scanStore (s : State) : State :=
  { s with nv := { s.nv with
      cycles := s.nv.cycles.map s.rewrite, events := s.nv.events.map s.rewrite, traces := s.nv.traces.map s.rewrite
      checkpoint := s.nv.checkpoint.again, counters := s.nv.counters.again, cal := s.nv.cal.map Area.again, bias := s.nv.bias.map Area.again
      scanS := s.calS } }

/-- MILLBOOK_REFRESH_SCAN (R368): once every 365 days of the calendar, yielding to a flush. DEDUCED: the date of the last scan outlasts a
restart, as else a module that restarts within the year would never scan (log 5). -/
def execMillbookRefreshScan (t : Nat) (s : State) : Out :=
  let s := s.at t
  if s.book.flushing.isSome || s.book.powerFailed || s.inReset || decide (s.calS < s.nv.scanS + yearS) then .next s else .next s.scanStore

end Sys2Proof.Machine
end

