-- ==== Sys2Proof/Machine/Image.lean ====
section
/-!
DEFINITION. Sys2Proof/Machine/Image.lean: the configuration plug (R356-R360, R367): images, their field maps and the six checks under
which a slot is refused, the identity and key area, and the retention refresh.
-/
namespace Sys2Proof.Machine

/-! ## Field maps (R6, R400)

One row per field: byte offset from the block's start, lowest bit, width, lowest and highest value, and the step its value
is a multiple of. A reserved field has the range 0 to 0. -/

structure FieldRow where
  off : Nat
  bit : Nat
  width : Nat
  lo : Nat
  hi : Nat
  step : Nat := 1

/-- Value of a field in a block at `base`. -/
def fieldVal (l : List Byte) (base off bit width : Nat) : Nat := leAt l (base + off) 8 / 2 ^ bit % 2 ^ width

/-- Every field of a map lies in its range and on its step. -/
def rowsOk (l : List Byte) (base : Nat) (rows : List FieldRow) : Bool :=
  rows.all fun r =>
    let v := fieldVal l base r.off r.bit r.width
    decide (r.lo ≤ v) && decide (v ≤ r.hi) && v % r.step == 0

/-- A run of bytes is all 0. -/
def zeros (l : List Byte) (off n : Nat) : Bool := (slice l off n).all (· == 0)

/-- Table 2-2, bytes 0x00-0x13. -/
def encRows : List FieldRow := [
  ⟨0x00, 0, 16, 256, 65532, 4⟩, ⟨0x02, 0, 8, 0, 15, 1⟩, ⟨0x03, 3, 5, 0, 0, 1⟩, ⟨0x04, 0, 16, 40, 1000, 20⟩,
  ⟨0x06, 0, 8, 1, 255, 1⟩, ⟨0x07, 0, 8, 1, 255, 1⟩, ⟨0x08, 0, 32, 100, 1000000, 1⟩, ⟨0x0C, 0, 32, 1000, 4000000, 1⟩,
  ⟨0x10, 0, 16, 4, 400, 1⟩, ⟨0x12, 0, 16, 1, 1000, 1⟩]

/-- Table 3-2. -/
def driveRows : List FieldRow := [
  ⟨0x00, 0, 16, 50, 400, 1⟩, ⟨0x02, 0, 16, 200, 1000, 20⟩, ⟨0x04, 0, 16, 12500, 50000, 20⟩, ⟨0x06, 0, 16, 500, 8000, 1⟩,
  ⟨0x08, 0, 16, 8000, 12000, 1⟩, ⟨0x0A, 0, 16, 1000, 8000, 1⟩, ⟨0x0C, 0, 16, 0, 1000, 1⟩, ⟨0x0E, 0, 16, 50, 2000, 1⟩,
  ⟨0x10, 0, 16, 0, 1000, 1⟩, ⟨0x12, 3, 13, 0, 0, 1⟩]

/-- Table 3-3. -/
def stepDriveRows : List FieldRow := [
  ⟨0x00, 0, 16, 200, 1000, 5⟩, ⟨0x02, 0, 16, 600, 2000, 5⟩, ⟨0x04, 0, 16, 0, 49995, 5⟩, ⟨0x06, 0, 16, 4000, 6000, 1⟩,
  ⟨0x08, 0, 16, 0, 300, 1⟩, ⟨0x0A, 0, 16, 50, 2000, 1⟩, ⟨0x0C, 0, 16, 0, 300, 1⟩, ⟨0x0E, 3, 13, 0, 0, 1⟩]

/-- Table 3-4. -/
def powerRows : List FieldRow := [
  ⟨0x00, 0, 16, 400, 3200, 1⟩, ⟨0x02, 0, 16, 0, 500, 1⟩, ⟨0x04, 0, 16, 64, 256, 1⟩, ⟨0x06, 0, 16, 4000, 16000, 1⟩,
  ⟨0x08, 0, 16, 100, 3000, 1⟩, ⟨0x0A, 0, 16, 500, 10000, 1⟩, ⟨0x0C, 0, 16, 4000, 8000, 1⟩, ⟨0x0E, 0, 16, 0, 0, 1⟩]

/-- Table 4-4. -/
def ctlRows : List FieldRow := [
  ⟨0x00, 0, 32, 0, 6553600, 1⟩, ⟨0x04, 0, 32, 0, 655360, 1⟩, ⟨0x08, 0, 32, 0, 6553600, 1⟩, ⟨0x0C, 0, 32, 0, 655360, 1⟩,
  ⟨0x10, 0, 16, 20, 400, 1⟩, ⟨0x12, 0, 16, 20, 600, 1⟩, ⟨0x14, 0, 16, 1, 200, 1⟩, ⟨0x16, 0, 16, 20, 600, 1⟩,
  ⟨0x18, 0, 16, 0, 100, 1⟩, ⟨0x1A, 0, 16, 10, 1000, 1⟩, ⟨0x1C, 0, 16, 1, 65535, 1⟩, ⟨0x1E, 0, 16, 100, 65000, 1⟩,
  ⟨0x20, 0, 8, 1, 16, 1⟩, ⟨0x21, 2, 6, 0, 0, 1⟩, ⟨0x22, 0, 16, 20, 200, 1⟩, ⟨0x24, 0, 16, 10, 2000, 1⟩,
  ⟨0x26, 0, 16, 200, 2000, 1⟩]

/-- Table 4-6. -/
def stepCtlRows : List FieldRow := [
  ⟨0x00, 0, 32, 0, 65536000, 1⟩, ⟨0x04, 0, 32, 0, 6553600, 1⟩, ⟨0x08, 0, 32, 0, 6553600, 1⟩, ⟨0x0C, 0, 32, 0, 655360, 1⟩,
  ⟨0x12, 0, 16, 100, 4000, 1⟩, ⟨0x14, 0, 16, 1, 65535, 1⟩, ⟨0x16, 0, 16, 10, 2000, 1⟩, ⟨0x18, 0, 64, 0, 0, 1⟩]

/-- Table 5-5. -/
def obsRows : List FieldRow := [
  ⟨0x00, 0, 16, 20, 400, 1⟩, ⟨0x02, 0, 16, 20, 600, 1⟩, ⟨0x04, 0, 16, 1024, 65535, 1⟩, ⟨0x06, 0, 8, 1, 8, 1⟩,
  ⟨0x07, 1, 7, 0, 0, 1⟩, ⟨0x08, 0, 16, 10, 60, 1⟩, ⟨0x0A, 0, 16, 80, 8000, 1⟩, ⟨0x0C, 0, 16, 0, 20, 1⟩,
  ⟨0x0E, 0, 16, 40, 4000, 1⟩, ⟨0x10, 0, 16, 1, 30, 1⟩, ⟨0x12, 0, 16, 20, 500, 1⟩, ⟨0x14, 0, 16, 100, 1000, 1⟩,
  ⟨0x16, 0, 16, 200, 2000, 1⟩, ⟨0x18, 0, 8, 1, 4, 1⟩, ⟨0x19, 0, 8, 0, 0, 1⟩, ⟨0x1A, 0, 16, 20, 300, 1⟩,
  ⟨0x1C, 0, 16, 10, 500, 1⟩, ⟨0x1E, 0, 16, 0, 0, 1⟩]

/-- Table 6-10a. -/
def cycleRows : List FieldRow := [
  ⟨0x00, 2, 2, 0, 2, 1⟩, ⟨0x00, 6, 2, 0, 0, 1⟩, ⟨0x01, 0, 4, 1, 15, 1⟩, ⟨0x01, 4, 2, 1, 3, 1⟩, ⟨0x01, 6, 2, 0, 0, 1⟩,
  ⟨0x02, 0, 16, 400, 65535, 1⟩, ⟨0x04, 0, 16, 500, 30000, 1⟩, ⟨0x06, 0, 16, 1000, 30000, 1⟩, ⟨0x08, 0, 16, 1000, 30000, 1⟩,
  ⟨0x0A, 0, 16, 0, 100, 1⟩, ⟨0x0C, 0, 16, 0, 100, 1⟩, ⟨0x0E, 0, 16, 20, 1000, 1⟩, ⟨0x10, 0, 8, 10, 100, 1⟩,
  ⟨0x11, 0, 8, 0, 0, 1⟩, ⟨0x12, 0, 16, 50, 2000, 1⟩, ⟨0x14, 0, 16, 50, 2000, 1⟩, ⟨0x16, 0, 16, 0, 100, 1⟩,
  ⟨0x18, 0, 16, 20, 200, 1⟩, ⟨0x1A, 0, 16, 20, 500, 1⟩, ⟨0x1C, 0, 16, 1, 400, 1⟩, ⟨0x1E, 0, 16, 0, 0, 1⟩]

/-- Table 5-6. -/
def stallRows : List FieldRow := [
  ⟨0x00, 0, 16, 10, 500, 1⟩, ⟨0x02, 0, 16, 20, 2000, 1⟩, ⟨0x04, 0, 16, 0, 2000, 1⟩, ⟨0x06, 0, 16, 0, 0, 1⟩]

/-- Table 6-10b. -/
def stepCycleRows : List FieldRow := [
  ⟨0x00, 3, 13, 0, 0, 1⟩, ⟨0x02, 0, 16, 500, 10000, 1⟩, ⟨0x04, 0, 16, 500, 10000, 1⟩, ⟨0x06, 0, 16, 0, 1000, 1⟩]

/-- Table 12-7, but for the masks. -/
def persRows : List FieldRow := [⟨0x01, 0, 8, 0, 0, 1⟩, ⟨0x0A, 0, 16, 2, 50, 1⟩, ⟨0x0C, 0, 32, 0, 0, 1⟩]

/-- Table 8-5. -/
def fiRows : List FieldRow := [⟨0, 0, 8, 1, 200, 1⟩, ⟨1, 4, 20, 0, 0, 1⟩]
/-- Table 8-6. -/
def tlRows : List FieldRow := [⟨0, 0, 8, 1, 200, 1⟩, ⟨1, 0, 4, 0, 7, 1⟩, ⟨1, 5, 19, 0, 0, 1⟩]
/-- Table 8-7. -/
def doutRows : List FieldRow := [
  ⟨0, 0, 2, 0, 2, 1⟩, ⟨0, 2, 2, 0, 2, 1⟩, ⟨0, 4, 4, 0, 5, 1⟩, ⟨1, 0, 8, 1, 100, 1⟩, ⟨2, 0, 16, 0, 0, 1⟩]
/-- Table 8-8. -/
def lsHeadRows : List FieldRow := [
  ⟨0, 0, 8, 1, 15, 1⟩, ⟨1, 0, 8, 0, 0, 1⟩, ⟨2, 0, 16, 10, 5000, 1⟩, ⟨4, 0, 16, 4000, 16000, 1⟩, ⟨6, 0, 16, 0, 0, 1⟩]
/-- Table 8-9, but for threshold and duty. -/
def lsRows : List FieldRow := [⟨0, 0, 3, 0, 4, 1⟩, ⟨0, 3, 2, 0, 2, 1⟩, ⟨0, 6, 2, 0, 2, 1⟩, ⟨4, 0, 32, 0, 0, 1⟩]
/-- Table 9-1 of a used entry. -/
def timingRows : List FieldRow := [
  ⟨0, 0, 4, 1, 4, 1⟩, ⟨0, 4, 4, 0, 4, 1⟩, ⟨1, 0, 8, 50, 90, 1⟩, ⟨2, 0, 8, 50, 90, 1⟩, ⟨3, 0, 8, 0, 0, 1⟩]
/-- Table 9-14. -/
def busRows : List FieldRow := [
  ⟨0x00, 0, 4, 1, 15, 1⟩, ⟨0x00, 4, 4, 1, 15, 1⟩, ⟨0x01, 0, 4, 1, 15, 1⟩, ⟨0x01, 4, 2, 0, 2, 1⟩, ⟨0x01, 6, 2, 0, 0, 1⟩,
  ⟨0x02, 0, 16, 10, 200, 1⟩, ⟨0x04, 0, 16, 20, 1000, 1⟩, ⟨0x06, 0, 16, 100, 10000, 1⟩, ⟨0x08, 3, 61, 0, 0, 1⟩]
/-- Table 7-7, but for the copies and the fields of each doorway. -/
def bedRows : List FieldRow := [
  ⟨0x00, 0, 16, 1, 1, 1⟩, ⟨0x03, 0, 8, 0, 0, 1⟩, ⟨0x0A, 0, 8, 1, 30, 1⟩, ⟨0x0B, 2, 6, 0, 0, 1⟩, ⟨0x0C, 0, 16, 20, 500, 1⟩,
  ⟨0x0E, 0, 16, 20, 500, 1⟩, ⟨0x10, 0, 8, 1, 16, 1⟩, ⟨0x11, 4, 4, 0, 0, 1⟩, ⟨0x12, 0, 16, 0, 0, 1⟩]
/-- Table 7-9. -/
def runnerRows : List FieldRow := [
  ⟨0, 0, 16, 40, 4000, 1⟩, ⟨2, 0, 16, 50, 1000, 1⟩, ⟨4, 0, 16, 100, 5000, 1⟩, ⟨6, 0, 16, 0, 0, 1⟩]
/-- Table 11-8. -/
def recRows : List FieldRow := [
  ⟨0x00, 0, 8, 1, 64, 1⟩, ⟨0x01, 0, 8, 8, 64, 1⟩, ⟨0x02, 0, 16, 1, 3600, 1⟩, ⟨0x04, 7, 1, 0, 0, 1⟩, ⟨0x05, 1, 7, 0, 0, 1⟩,
  ⟨0x06, 0, 8, 1, 60, 1⟩, ⟨0x07, 1, 7, 0, 0, 1⟩, ⟨0x08, 0, 16, 1, 168, 1⟩, ⟨0x0A, 0, 16, 22000, 65535, 1⟩,
  ⟨0x0C, 0, 32, 0, 0, 1⟩]
/-- Table 10-8. -/
def pairRows : List FieldRow := [
  ⟨0x00, 2, 6, 0, 0, 1⟩, ⟨0x01, 0, 8, 2, 8, 1⟩, ⟨0x02, 0, 16, 5, 1000, 1⟩, ⟨0x04, 0, 16, 2, 200, 1⟩,
  ⟨0x06, 0, 16, 200, 2000, 1⟩, ⟨0x08, 0, 32, 0, 0, 1⟩]

/-! ## Decoding of sections -/

/-- One bit of a section. -/
def flagAt (l : List Byte) (off bit : Nat) : Bool := (leAt l off 1).testBit bit

def decodeEnc (l : List Byte) (b : Nat) : EncCfg :=
  { countsPerRev := leAt l b 2, indexTolerance := leAt l (b + 2) 1, invert := flagAt l (b + 3) 0
    indexGate := flagAt l (b + 3) 1, indexCheck := flagAt l (b + 3) 2, minEdgeNs := leAt l (b + 4) 2
    hysteresis := leAt l (b + 6) 1, rearm := leAt l (b + 7) 1, scaleNm := leAt l (b + 8) 4, openSc := leAt l (b + 12) 4
    closedWindow := leAt l (b + 16) 2, spacingLimit := leAt l (b + 18) 2 }

def decodeCmp (l : List Byte) (b : Nat) : CmpEntry :=
  { pos := signed 32 (leAt l b 4), action := leAt l (b + 4) 1 % 16, arg := leAt l (b + 5) 1 }

def decodeDrive (l : List Byte) (b : Nat) : DriveCfg :=
  { bandMa := leAt l b 2, deadNs := leAt l (b + 2) 2, dwellNs := leAt l (b + 4) 2, limitMa := leAt l (b + 6) 2
    weirOcMa := leAt l (b + 8) 2, brakeLimitMa := leAt l (b + 10) 2, startW := leAt l (b + 12) 2, startMs := leAt l (b + 14) 2
    runW := leAt l (b + 16) 2, autoClearMax := leAt l (b + 18) 1 % 8 }

def decodeCtl (l : List Byte) (b : Nat) : CtlCfg :=
  { kp0 := leAt l b 4, ki0 := leAt l (b + 4) 4, kp1 := leAt l (b + 8) 4, ki1 := leAt l (b + 12) 4
    forceClose := leAt l (b + 16) 2, forceOpen := leAt l (b + 18) 2, slew := leAt l (b + 20) 2
    reverseOpen := leAt l (b + 22) 2, reverseClose := leAt l (b + 24) 2, handoverSpeed := leAt l (b + 26) 2
    alpha := leAt l (b + 28) 2, kf := leAt l (b + 30) 2, polePairs := leAt l (b + 32) 1, ffEnable := flagAt l (b + 33) 0
    cogEnable := flagAt l (b + 33) 1, jogForce := leAt l (b + 34) 2, jogSpeed := leAt l (b + 36) 2, alignMa := leAt l (b + 38) 2 }

def decodeProfile (l : List Byte) (b : Nat) : Vector Nat 64 := Vector.ofFn fun k => leAt l (b + 2 * k.1) 2

def decodeObs (l : List Byte) (b : Nat) : ObsCfg :=
  { closeThreshold := leAt l b 2, openThreshold := leAt l (b + 2) 2, alpha := leAt l (b + 4) 2, confirm := leAt l (b + 6) 1
    enable := flagAt l (b + 7) 0, plausN := leAt l (b + 8) 2, plausPeriods := leAt l (b + 10) 2, biasStep := leAt l (b + 12) 2
    minPeriods := leAt l (b + 14) 2, edgeFilter := leAt l (b + 16) 2, edgeDiscMs := leAt l (b + 18) 2
    tenterLow := leAt l (b + 20) 2, tenterHigh := leAt l (b + 22) 2, passes := leAt l (b + 24) 1, maxRms := leAt l (b + 26) 2
    minSpeed := leAt l (b + 28) 2 }

def decodeCycle (l : List Byte) (b : Nat) : CycleCfg :=
  { closeSource := leAt l b 1 % 4, openMode := leAt l b 1 / 4 % 4, innerButton := flagAt l b 4, outerButton := flagAt l b 5
    maxReopens := leAt l (b + 1) 1 % 16, maxAttempts := leAt l (b + 1) 1 / 16 % 4, reopenSc := leAt l (b + 2) 2
    reopenHoldMs := leAt l (b + 4) 2, openTimeoutMs := leAt l (b + 6) 2, closeTimeoutMs := leAt l (b + 8) 2
    openHoldN := leAt l (b + 10) 2, preloadN := leAt l (b + 12) 2, pullMs := leAt l (b + 14) 2, holdPct := leAt l (b + 16) 1
    unlockTimeoutMs := leAt l (b + 18) 2, switchTimeoutMs := leAt l (b + 20) 2, settleMs := leAt l (b + 22) 2
    backdriveN := leAt l (b + 24) 2, backdriveMs := leAt l (b + 26) 2, backdriveMax := leAt l (b + 28) 2 }

/-- A DOORWAY section (Table 12-6). -/
def decodeDoor (l : List Byte) (crc : BitVec 32) : DoorCfg :=
  { enc := decodeEnc l 0x008, cmp := Vector.ofFn fun k => decodeCmp l (0x01C + 8 * k.1), drive := decodeDrive l 0x11C
    ctl := decodeCtl l 0x130, profOpen := decodeProfile l 0x158, profClose := decodeProfile l 0x1D8, obs := decodeObs l 0x258
    cyc := decodeCycle l 0x278, crc := crc }

/-- A STEP section (Table 12-6). -/
def decodeStep (l : List Byte) (crc : BitVec 32) : StepCfg :=
  { enc := decodeEnc l 0x008
    drive := { deadNs := leAt l 0x1C 2, minPulseNs := leAt l 0x1E 2, phaseOffsetNs := leAt l 0x20 2, weirOcMa := leAt l 0x22 2
               startW := leAt l 0x24 2, startMs := leAt l 0x26 2, runW := leAt l 0x28 2, autoClearMax := leAt l 0x2A 1 % 8 }
    ctl := { kpV := leAt l 0x2C 4, kiV := leAt l 0x30 4, kpI := leAt l 0x34 4, kiI := leAt l 0x38 4, awGain := leAt l 0x3C 2
             currentLimit := leAt l 0x3E 2, alpha := leAt l 0x40 2, jogSpeed := leAt l 0x42 2 }
    profExtend := decodeProfile l 0x4C, profRetract := decodeProfile l 0xCC
    cyc := { extendFirst := flagAt l 0x154 0, retractFirst := flagAt l 0x154 1, stallExtended := flagAt l 0x154 2
             extendTimeoutMs := leAt l 0x156 2, retractTimeoutMs := leAt l 0x158 2, holdMa := leAt l 0x15A 2
             stallSpeed := leAt l 0x14C 2, stallMs := leAt l 0x14E 2, endZone := leAt l 0x150 2 }
    crc := crc }

/-- A BUCKET section (Table 12-8). -/
def decodeBucket (l : List Byte) : Vector BucketEntry 12 := Vector.ofFn fun k =>
  let b := 8 + 260 * k.1
  { role := leAt l b 1 % 16, words := leAt l (b + 1) 1
    program := (List.range 64).map fun i => BitVec.ofNat 32 (leAt l (b + 4 + 4 * i) 4) }

/-- A PERSONALITY section. -/
def decodePers (l : List Byte) : PersCfg :=
  { variant := BitVec.ofNat 8 (leAt l 0x08 1), doors := BitVec.ofNat 16 (leAt l 0x0A 2), steps := BitVec.ofNat 16 (leAt l 0x0C 2)
    sides := BitVec.ofNat 16 (leAt l 0x0E 2), groups := BitVec.ofNat 16 (leAt l 0x10 2), heartbeatMs := leAt l 0x12 2
    budgetW := leAt l 0x18 2, staggerMs := leAt l 0x1A 2, minStretch := leAt l 0x1C 2, supplyMa := leAt l 0x1E 2
    maxDelayMs := leAt l 0x20 2, brakeHoldMs := leAt l 0x22 2, supplyContMa := leAt l 0x24 2 }

/-- Offsets of the IO section's parts and its numbers of inputs and outputs, by variant. -/
structure IoLayout where
  inputs : Nat
  outputs : Nat
  tlAt : Nat
  doAt : Nat
def ioLayout (is2216 : Bool) : IoLayout := if is2216 then ⟨192, 32, 0x30C, 0x34C⟩ else ⟨96, 16, 0x18C, 0x1CC⟩

/-- An IO section; entries beyond the variant's stand at their defaults. -/
def decodeIo (is2216 : Bool) (l : List Byte) : IoCfg :=
  let y := ioLayout is2216
  { holdoffUs := leAt l 0x08 2
    fi := Vector.ofFn fun n =>
      let b := 0x0C + 4 * n.1
      if n.1 < y.inputs then
        { limit := leAt l b 1, general := flagAt l (b + 1) 0, invert := flagAt l (b + 1) 1, stamp := flagAt l (b + 1) 2
          wireBreak := flagAt l (b + 1) 3 } else {}
    tl := Vector.ofFn fun n =>
      let b := y.tlAt + 4 * n.1
      { limit := leAt l b 1, function := leAt l (b + 1) 1 % 16, stamp := flagAt l (b + 1) 4 }
    dout := Vector.ofFn fun n =>
      let b := y.doAt + 4 * n.1
      if n.1 < y.outputs then
        { source := leAt l b 1 % 4, safe := leAt l b 1 / 4 % 4, function := leAt l b 1 / 16, mismatchMs := leAt l (b + 1) 1 }
      else {} }

/-- Load switches of a variant. -/
def lsCount (is2216 : Bool) : Nat := if is2216 then 48 else 24

/-- A LOADSW section. -/
def decodeLs (is2216 : Bool) (l : List Byte) : LsCfg :=
  { maxTries := leAt l 0x08 1, openLoadMs := leAt l 0x0A 2, supplyLimitMa := leAt l 0x0C 2
    sw := Vector.ofFn fun n =>
      let b := 0x10 + 8 * n.1
      if n.1 < lsCount is2216 then
        { role := leAt l b 1 % 8, safe := leAt l b 1 / 8 % 4, shed := flagAt l b 5, olRange := leAt l b 1 / 64
          olThreshold := leAt l (b + 1) 1, duty := leAt l (b + 2) 2 } else {} }

def decodeTiming (l : List Byte) (b : Nat) : TimingCfg :=
  { nominal := leAt l b 1 % 16, data := leAt l b 1 / 16, nominalSp := leAt l (b + 1) 1, dataSp := leAt l (b + 2) 1 }

def decodeBusBlk (l : List Byte) (b : Nat) : BusBlkCfg :=
  { listenOnly := flagAt l b 0, autodetect := flagAt l b 1, candidates := Vector.ofFn fun k => decodeTiming l (b + 4 + 4 * k.1)
    timing := decodeTiming l (b + 0x24) }

/-- A BUS section. -/
def decodeBus (l : List Byte) : BusCfg :=
  { node := leAt l 0x08 1 % 16, vcuNode := leAt l 0x08 1 / 16, timeMaster := leAt l 0x09 1 % 16
    releaseMode := leAt l 0x09 1 / 16 % 4, safeCycleMs := leAt l 0x0A 2, statusMs := leAt l 0x0C 2, refPeriodMs := leAt l 0x0E 2
    useA := flagAt l 0x10 0, useB := flagAt l 0x10 1, usePartner := flagAt l 0x10 2
    bus := #v[decodeBusBlk l 0x18, decodeBusBlk l 0x40] }

/-- The Bedstone block of a SAFETY section, with the result of its own CRC check (R9). -/
def decodeBedstone (l : List Byte) : BedstoneCfg :=
  let b := 0x08
  { format := BitVec.ofNat 16 (leAt l b 2), variant := BitVec.ofNat 8 (leAt l (b + 2) 1)
    doors := BitVec.ofNat 16 (leAt l (b + 4) 2), steps := BitVec.ofNat 16 (leAt l (b + 6) 2)
    groupMap := BitVec.ofNat 16 (leAt l (b + 8) 2), filterLimit := leAt l (b + 10) 1, resetLocal := flagAt l (b + 11) 0
    resetTlOn := flagAt l (b + 11) 1, pairDiscMs := leAt l (b + 12) 2, channelDiscMs := leAt l (b + 14) 2
    resetTl := leAt l (b + 16) 1, fbSource := #v[leAt l (b + 17) 1 % 4, leAt l (b + 17) 1 / 4 % 4]
    tags := Vector.ofFn fun d => BitVec.ofNat 32 (leAt l (b + 0x14 + 4 * d.1) 4)
    edgeFilter := Vector.ofFn fun d => leAt l (b + 0x54 + d.1) 1, edgeDisc := Vector.ofFn fun d => leAt l (b + 0x64 + 2 * d.1) 2
    crcOk := leAt l (b + 0xFC) 4 == (crc32c (slice l b 0xFC)).toNat }

def decodeRunner (l : List Byte) : RunnerCfg :=
  { overrunSc := leAt l 0x108 2, evidenceMs := leAt l 0x10A 2, minOffMs := leAt l 0x10C 2 }

/-- A RECORDER section. -/
def decodeRec (l : List Byte) : RecCfg :=
  { burst := leAt l 0x08 1, traceInterval := leAt l 0x09 1, refillS := leAt l 0x0A 2, triggers := BitVec.ofNat 7 (leAt l 0x0C 1)
    minSeverity := leAt l 0x0D 1 % 2, flushMin := leAt l 0x0E 1, fitted := flagAt l 0x0F 0, testHours := leAt l 0x10 2
    minUf := leAt l 0x12 2 }

/-- A PAIR section. -/
def decodePair (l : List Byte) : PairCfg :=
  { enable := flagAt l 0x08 0, followArbiter := flagAt l 0x08 1, lossPeriods := leAt l 0x09 1, arbConfirmMs := leAt l 0x0A 2
    posTolSc := leAt l 0x0C 2, formTimeoutMs := leAt l 0x0E 2 }

/-- A KEYS section. -/
def decodeKeys (l : List Byte) : KeysCfg :=
  { rotate := flagAt l 0x08 0, hash := Vector.ofFn fun k => slice l (0x10 + 32 * k.1) 32 }

/-! ## Refusal rules of check 6, section by section -/

/-- Doorways of a mask. -/
def maskDoors (m : BitVec 16) : List Door := (List.finRange 16).filter fun d => m.getLsbD d.1

/-- R1: the variant that PERSONALITY declares is the module's own. -/
def variantOk (is2216 : Bool) (pers : PersCfg) : Bool := pers.variant == (if is2216 then 0x10 else 0x08)

/-- PERSONALITY: R2, R83 and the ranges of Tables 12-7 and 3-4. -/
def persOk (is2216 : Bool) (l : List Byte) : Bool :=
  let g := decodePers l
  (is2216 || (g.doors &&& 0xFF00) == 0) && (g.steps &&& ~~~g.doors) == 0 &&
  rowsOk l 0x08 persRows && rowsOk l 0x18 powerRows && decide (g.supplyContMa ≤ g.supplyMa)

/-- A compare entry's position and argument (R43, Tables 2-1 and 2-3). -/
def cmpEntryOk (openSc : Nat) (stroke : Fin 2 → Bool) (l : List Byte) (b : Nat) : Bool :=
  let e := decodeCmp l b
  decide (0 ≤ e.pos) && decide (e.pos ≤ openSc) && rowsOk l b [⟨4, 0, 4, 0, 8, 1⟩, ⟨4, 4, 4, 0, 0, 1⟩, ⟨6, 0, 16, 0, 0, 1⟩] &&
  (match e.action with
   | 5 => decide (e.arg ≤ 1)
   | 6 | 7 => if e.arg = 0 then stroke 0 else if e.arg = 1 then stroke 1 else false
   | 8 => true
   | _ => e.arg == 0)

/-- The two sets of R43. -/
def cmpSetsOk (g : DoorCfg) : Bool :=
  let acts := fun (opening : Bool) => ((List.finRange 32).filter fun k => decide (k.1 < 16) == opening).map fun k => g.cmp[k.1]
  let has := fun (opening : Bool) (a : Nat) => (acts opening).filter fun e => e.action == a
  (has false 4).length == 1 && (has true 4).isEmpty && !(has true 1).isEmpty && !(has false 1).isEmpty &&
  (has false 4).all fun e => decide ((g.enc.closedWindow : Int) < e.pos)

/-- Lock-zone position of R43. -/
def lockZone (g : DoorCfg) : Int :=
  match (List.finRange 32).find? fun k => 16 ≤ k.1 && g.cmp[k.1].action == 4 with | some k => g.cmp[k.1].pos | none => 0

/-- Profile entries of R96. -/
def profileOk (l : List Byte) (b : Nat) : Bool :=
  (List.range 128).all fun k => decide (10 ≤ leAt l (b + 2 * k) 2) && decide (leAt l (b + 2 * k) 2 ≤ 10000)

/-- DOORWAY: R43, R96, R115, R125, R150, R196 and its ranges. -/
def doorOk (io : IoCfg) (d : Door) (l : List Byte) : Bool :=
  let g := decodeDoor l 0
  let stroke := fun (k : Fin 2) => io.dout[(d.out k).1].source == 1
  rowsOk l 0x008 encRows && ((List.range 32).all fun k => cmpEntryOk g.enc.openSc stroke l (0x01C + 8 * k)) && cmpSetsOk g &&
  rowsOk l 0x11C driveRows && rowsOk l 0x130 ctlRows && profileOk l 0x158 && rowsOk l 0x258 obsRows && rowsOk l 0x278 cycleRows &&
  decide (g.ctl.reverseOpen ≤ g.ctl.forceOpen) && decide (g.ctl.jogForce ≤ g.ctl.forceClose) &&
  decide (g.ctl.jogForce ≤ g.ctl.forceOpen) && decide (g.obs.closeThreshold < g.ctl.forceClose) &&
  decide (g.obs.openThreshold < g.ctl.forceOpen) && decide (2 * g.obs.tenterLow ≤ g.obs.tenterHigh) &&
  decide (g.obs.tenterHigh ≤ g.ctl.jogSpeed) && decide (g.cyc.backdriveN ≤ g.ctl.forceOpen) &&
  decide ((g.cyc.backdriveMax : Int) < lockZone g)

/-- STEP: R96 and its ranges. -/
def stepOk (l : List Byte) : Bool :=
  rowsOk l 0x008 encRows && rowsOk l 0x01C stepDriveRows && rowsOk l 0x02C stepCtlRows && profileOk l 0x04C &&
  rowsOk l 0x14C stallRows && rowsOk l 0x154 stepCycleRows

/-- BUCKET: R11 and the ranges of Table 12-8. -/
def bucketOk (l : List Byte) : Bool :=
  let g := decodeBucket l
  ((List.range 12).all fun k => rowsOk l (8 + 260 * k) [⟨0, 0, 4, 0, 11, 1⟩, ⟨0, 4, 4, 0, 0, 1⟩, ⟨1, 0, 8, 1, 64, 1⟩, ⟨2, 0, 16, 0, 0, 1⟩]) &&
  g.toList.all (fun e => (e.program.drop e.words).all (· == 0)) &&
  [0, 2, 4, 5].all fun r => g.toList.any fun e => e.role == r

/-- IO: R3, R239, R249, R265 and its ranges. -/
def ioOk (is2216 : Bool) (pers : PersCfg) (resetTl : Nat) (l : List Byte) : Bool :=
  let y := ioLayout is2216
  let g := decodeIo is2216 l
  let fns := g.tl.toList.map TlCfg.function
  rowsOk l 0x08 [⟨0, 0, 16, 10, 65535, 1⟩, ⟨2, 0, 16, 0, 0, 1⟩] &&
  ((List.range y.inputs).all fun k => rowsOk l (0x0C + 4 * k) fiRows) &&
  ((List.range 16).all fun k => rowsOk l (y.tlAt + 4 * k) tlRows) &&
  ((List.range y.outputs).all fun k => rowsOk l (y.doAt + 4 * k) doutRows) &&
  ((List.finRange 192).all fun (n : Fi) =>
    let e := g.fi[n.1]
    let free := (Fi.pos n).1 == 8 || (Fi.pos n).1 == 9 || !pers.doors.getLsbD (Fi.door n).1
    (!e.general || free) && (!e.invert || e.general) && !(e.wireBreak && is2216) && !(e.stamp && !is2216)) &&
  g.tl.toList.all (fun e => !(e.stamp && !is2216)) &&
  ((List.range 8).all fun f => f == 0 || f == 7 || decide ((fns.filter (· == f)).length ≤ 1)) &&
  fns.contains 4 && (fns[resetTl - 1]? == some 5) &&
  g.dout.toList.all fun e => !(e.function == 5 && e.safe == 2)

/-- LOADSW: R266 and its ranges. A duty is not checked on a role 1 switch, nor a threshold where open-load detection is off. -/
def lsOk (is2216 : Bool) (pers : PersCfg) (l : List Byte) : Bool :=
  let g := decodeLs is2216 l
  rowsOk l 0x08 lsHeadRows && ((List.range (lsCount is2216)).all fun k => rowsOk l (0x10 + 8 * k) lsRows) &&
  g.sw.toList.all (fun e =>
    (e.olRange != 1 || (decide (20 ≤ e.olThreshold) && decide (e.olThreshold ≤ 200))) &&
    (e.olRange != 2 || (decide (1 ≤ e.olThreshold) && decide (e.olThreshold ≤ 16))) &&
    (if e.role = 1 then e.safe == 0 && !e.shed else decide (e.duty ≤ 1000) && !(decide (e.duty < 1000) && e.safe == 2))) &&
  (maskDoors pers.doors).all fun d => ((List.finRange 3).filter fun k => g.sw[(d.ls k).1].role == 1).length == 1

/-- kbit/s of a timing's two rates (Table 9-1). -/
def nominalRate (n : Nat) : Nat := [0, 125, 250, 500, 1000].getD n 0
def dataRate (n : Nat) : Nat := [0, 1000, 2000, 4000, 5000].getD n 0

/-- A bit-timing entry; the fields of an unused one are not checked. -/
def timingOk (l : List Byte) (b : Nat) : Bool :=
  let g := decodeTiming l b
  if g.nominal = 0 then zeros l (b + 3) 1
  else rowsOk l b timingRows && (g.data == 0 || decide (nominalRate g.nominal < dataRate g.data))

/-- BUS: R273's entries, R299 and its ranges. -/
def busOk (l : List Byte) : Bool :=
  let g := decodeBus l
  rowsOk l 0x08 busRows && g.node != g.vcuNode && g.node != g.timeMaster &&
  [0x18, 0x40].all fun b =>
    rowsOk l b [⟨0, 2, 30, 0, 0, 1⟩] && ((List.range 8).all fun k => timingOk l (b + 4 + 4 * k)) && timingOk l (b + 0x24) &&
    (decodeTiming l (b + 0x24)).nominal != 0

/-- Tags of one doorway (R215, Table 7-8): the pairs differ. -/
def tagsOk (w : BitVec 32) : Bool :=
  let f := fun (k : Nat) => w.toNat / 2 ^ k % 4
  decide (w.toNat < 2 ^ 20) && f 0 != f 2 && f 4 != f 6 && f 8 != f 10

/-- SAFETY: R208, R215, R233 and its ranges. -/
def safetyOk (pers : PersCfg) (door : Vector DoorCfg 16) (l : List Byte) : Bool :=
  let g := decodeBedstone l
  rowsOk l 0x08 bedRows && zeros l (0x08 + 0x84) 120 && rowsOk l 0x108 runnerRows &&
  g.variant == pers.variant && g.doors == pers.doors && g.steps == pers.steps && g.groupMap == pers.groups &&
  (List.finRange 16).all fun d =>
    if pers.doors.getLsbD d.1 then
      tagsOk g.tags[d.1] && g.edgeFilter[d.1] == door[d.1].obs.edgeFilter && g.edgeDisc[d.1] == door[d.1].obs.edgeDiscMs
    else g.tags[d.1] == 0 && g.edgeFilter[d.1] == 0 && g.edgeDisc[d.1] == 0

/-- KEYS: its reserved bits. -/
def keysOk (l : List Byte) : Bool := rowsOk l 0x08 [⟨0, 1, 63, 0, 0, 1⟩]

/-! ## Verification of a slot (R357, R358) -/

/-- A directory entry (Table 12-5). -/
structure DirEntry where
  type : Nat
  inst : Nat
  format : Nat
  length : Nat
  offset : Nat
  crc : BitVec 32
deriving DecidableEq, Repr

/-- Plug offset of a slot. -/
def slotBase (b : Bool) : Nat := if b then 0xC00000 else 0

/-- A slot as the verification reads it: a byte reader over the plug. -/
structure SlotView where
  plug : List Host.Cell
  base : Nat

def SlotView.bytes (v : SlotView) (off n : Nat) : List Byte := Memory.bytes v.plug (v.base + off) n
def SlotView.le (v : SlotView) (off n : Nat) : Nat := ofLe (v.bytes off n)
def SlotView.count (v : SlotView) : Nat := v.le 0x07 1
def SlotView.imageLength (v : SlotView) : Nat := v.le 0x08 4
def SlotView.generation (v : SlotView) : BitVec 32 := BitVec.ofNat 32 (v.le 0x0C 4)
/-- Length of HEADER before its CRC. -/
def SlotView.headerLen (v : SlotView) : Nat := 0x40 + 16 * v.count
def SlotView.headerCrc (v : SlotView) : BitVec 32 := BitVec.ofNat 32 (v.le v.headerLen 4)

def SlotView.entry (v : SlotView) (k : Nat) : DirEntry :=
  let b := 0x40 + 16 * k
  { type := v.le b 1, inst := v.le (b + 1) 1, format := v.le (b + 2) 2, length := v.le (b + 4) 4, offset := v.le (b + 8) 4
    crc := BitVec.ofNat 32 (v.le (b + 12) 4) }

def SlotView.entries (v : SlotView) : List DirEntry := (List.range v.count).map v.entry

/-- First entry of a type and instance, and its bytes. -/
def SlotView.find (v : SlotView) (type inst : Nat) : Option DirEntry := v.entries.find? fun e => e.type == type && e.inst == inst
def SlotView.section (v : SlotView) (type inst : Nat) : List Byte :=
  match v.find type inst with | some e => v.bytes e.offset e.length | none => []

/-- Where a check fails: its number and the section type (0 for HEADER and the trailer). -/
abbrev Refused := Nat × Nat

/-- Check 1. -/
def SlotView.check1 (v : SlotView) : Option Refused :=
  if v.le 0 4 == 0x4C4C494D && v.le 4 2 == 1 && v.imageLength % 4 == 0 && decide (v.imageLength ≤ 12582816) &&
     v.headerCrc == crc32c (v.bytes 0 v.headerLen) then none else some (1, 0)

/-- Check 2. -/
def SlotView.check2 (v : SlotView) (id : Identity) : Option Refused := if v.bytes 0x18 8 == id.vehicleId then none else some (2, 0)

/-- A trusted key by its hash; an all-zero entry is unused. -/
def Identity.trusts (id : Identity) (key : List Byte) : Bool :=
  let h := Config.sha256 key
  id.keyHash.toList.any fun x => x == h && x.any (· != 0)

/-- Check 3. -/
def SlotView.check3 (v : SlotView) (id : Identity) : Option Refused :=
  let key := v.bytes v.imageLength 32
  let sig := v.bytes (v.imageLength + 32) 64
  if id.trusts key && Config.ed25519 key sig (v.bytes 0 v.imageLength) then none else some (3, 0)

/-- Two spans of bytes overlap. -/
def overlap (a la b lb : Nat) : Bool := decide (a < b + lb) && decide (b < a + la)

/-- Check 4, entry by entry. -/
def SlotView.check4 (v : SlotView) : Option Refused :=
  let bad := (List.range v.count).find? fun k =>
    let e := v.entry k
    let clash := overlap e.offset e.length 0 (v.headerLen + 4) ||
      (List.range v.count).any fun j => j != k && overlap e.offset e.length (v.entry j).offset (v.entry j).length
    decide (v.imageLength < e.offset + e.length) || clash || v.bytes e.offset 8 != v.bytes (0x40 + 16 * k) 8 ||
    crc32c (v.bytes e.offset e.length) != e.crc
  bad.map fun k => (4, (v.entry k).type)

/-- Single section types. -/
def singles : List Nat := [0x02, 0x06, 0x07, 0x08, 0x09, 0x0A, 0x0B, 0x0C]

/-- Instances of a type are exactly the doorways of a mask, each once. -/
def SlotView.matchesMask (v : SlotView) (type : Nat) (m : BitVec 16) : Bool :=
  (List.range 256).all fun i =>
    (v.entries.filter fun e => e.type == type && e.inst == i).length == (if 1 ≤ i && m.getLsbD (i - 1) && decide (i ≤ 16) then 1 else 0)

/-- Check 5. -/
def SlotView.check5 (v : SlotView) : Option Refused :=
  let pers := decodePers (v.section 0x02 0)
  match singles.find? fun t => (v.entries.filter fun e => e.type == t).length != 1 with
  | some t => some (5, t)
  | none =>
    match v.entries.find? fun e => e.type < 0x02 || 0x0C < e.type || (singles.contains e.type && e.inst != 0) with
    | some e => some (5, e.type)
    | none =>
      if !v.matchesMask 0x03 pers.doors then some (5, 0x03)
      else if !v.matchesMask 0x04 pers.steps then some (5, 0x04)
      else if !v.matchesMask 0x05 pers.doors then some (5, 0x05) else none

/-- Length of a section (Table 12-6). -/
def sectionLength (is2216 : Bool) (t : Nat) : Nat :=
  match t with
  | 0x02 => 0x028 | 0x03 => 0x298 | 0x04 => 0x15C | 0x05 => 0xC38 | 0x06 => if is2216 then 0x3CC else 0x20C
  | 0x07 => if is2216 then 0x190 else 0x0D0 | 0x08 => 0x068 | 0x09 => 0x110 | 0x0A => 0x018 | 0x0B => 0x014 | _ => 0x090

/-- The image that a slot holds. -/
def SlotView.image (v : SlotView) (is2216 : Bool) : Image :=
  let crc := fun (t i : Nat) => match v.find t i with | some e => e.crc | none => 0
  let has := fun (t i : Nat) => (v.find t i).isSome
  let saf := v.section 0x09 0
  { headerVariant := BitVec.ofNat 8 (v.le 0x06 1), generation := v.generation, headerCrc := v.headerCrc
    vehicleId := v.bytes 0x18 8, pers := decodePers (v.section 0x02 0)
    door := Vector.ofFn fun d => if has 3 (d.1 + 1) then decodeDoor (v.section 3 (d.1 + 1)) (crc 3 (d.1 + 1)) else {}
    step := Vector.ofFn fun d => if has 4 (d.1 + 1) then decodeStep (v.section 4 (d.1 + 1)) (crc 4 (d.1 + 1)) else {}
    bucket := Vector.ofFn fun d => if has 5 (d.1 + 1) then decodeBucket (v.section 5 (d.1 + 1)) else Vector.ofFn fun k => { role := k.1 }
    io := decodeIo is2216 (v.section 0x06 0), ls := decodeLs is2216 (v.section 0x07 0), bus := decodeBus (v.section 0x08 0)
    bedstone := decodeBedstone saf, runner := decodeRunner saf, recorder := decodeRec (v.section 0x0A 0)
    pair := decodePair (v.section 0x0B 0), keys := decodeKeys (v.section 0x0C 0) }

/-- The fixed fields of a section's directory entry: its format, its length and its step (Tables 12-5, 12-6, R400). -/
def SlotView.formOk (v : SlotView) (is2216 : Bool) (type inst : Nat) : Bool :=
  match v.find type inst with
  | some e => e.format == 1 && e.length == sectionLength is2216 type && e.offset % 4 == 0
  | none => false

/-- HEADER's own ranges (Table 12-4). An image that fits no doorway has only the eight single sections and is taken as it stands
(R399, log 46). -/
def SlotView.headOk (v : SlotView) (g : Image) : Bool :=
  decide ((if g.pers.doors = 0 then 8 else 10) ≤ v.count) && decide (v.count ≤ 56) && g.headerVariant == g.pers.variant &&
  v.generation != 0 && (v.bytes 0x20 32).all (· == 0)

/-- Check 6: R1 first, then HEADER's own ranges and section by section its form and its rules (R358). -/
def SlotView.check6 (v : SlotView) (is2216 : Bool) : Option Refused :=
  let g := v.image is2216
  let doors := maskDoors g.pers.doors
  let one := fun (t : Nat) (i : Nat) (ok : List Byte → Bool) => (t, v.formOk is2216 t i && ok (v.section t i))
  let rules : List (Nat × Bool) :=
    [(0x02, variantOk is2216 g.pers), (0x00, v.headOk g), one 0x02 0 (persOk is2216)] ++
    doors.map (fun d => one 0x03 (d.1 + 1) (doorOk g.io d)) ++
    (maskDoors g.pers.steps).map (fun d => one 0x04 (d.1 + 1) stepOk) ++
    doors.map (fun d => one 0x05 (d.1 + 1) bucketOk) ++
    [one 0x06 0 (ioOk is2216 g.pers g.bedstone.resetTl), one 0x07 0 (lsOk is2216 g.pers), one 0x08 0 busOk,
     one 0x09 0 (safetyOk g.pers g.door), one 0x0A 0 (fun l => rowsOk l 0x08 recRows), one 0x0B 0 (fun l => rowsOk l 0x08 pairRows),
     one 0x0C 0 keysOk]
  (rules.find? fun x => !x.2).map fun x => (6, x.1)

/-- The first check that fails, of checks 1 to 5. -/
def SlotView.checks15 (v : SlotView) (id : Identity) : Option Refused :=
  match v.check1 with
  | some r => some r
  | none => match v.check2 id with
    | some r => some r
    | none => match v.check3 id with
      | some r => some r
      | none => match v.check4 with
        | some r => some r
        | none => v.check5

/-- The first check that fails, none where the slot is accepted. -/
def SlotView.verify (v : SlotView) (is2216 : Bool) (id : Identity) : Option Refused :=
  match v.checks15 id with | some r => some r | none => v.check6 is2216

/-- A slot of the plug. -/
def State.slotView (s : State) (b : Bool) : SlotView := ⟨s.nv.plug, slotBase b⟩

/-- Verify a slot; a refusal is recorded with its check and section (event 0x3F0). -/
def State.verifySlot (s : State) (b : Bool) : Option Refused × State :=
  let r := (s.slotView b).verify s.nv.is2216 s.maint.identity
  match r with
  | none => (none, s)
  | some x => (r, s.event 0x3F0 4 3 (BitVec.ofNat 32 x.1) (BitVec.ofNat 32 x.2) 0)

/-- The inactive slot: the one not booted; it is B where A was booted (R359). -/
def State.inactive (s : State) : Bool := !(s.maint.booted.getD false)

/-- A slot is being written (R360). -/
def State.slotWriting (s : State) (b : Bool) : Bool := (s.maint.writing[b.toNat]?.getD none).isSome
def State.setWriting (s : State) (b : Bool) (v : Option Nat) : State :=
  { s with maint := { s.maint with writing := Vector.ofFn fun k => if k.1 = b.toNat then v else s.maint.writing[k.1] } }

/-! ## The identity and key area (R356) -/

/-- Place of a copy. -/
def copyAt (k : Fin 2) : Nat := if k = 0 then 0x1C00000 else 0x1C10000

def State.copyBytes (s : State) (k : Fin 2) : List Byte := Memory.bytes s.nv.plug (copyAt k) 4096

/-- A copy is valid: its format and CRC. -/
def copyValidBytes (l : List Byte) : Bool := leAt l 0 2 == 1 && leAt l 0xFFC 4 == (crc32c (l.take 0xFFC)).toNat

/-- Decode a copy (Table 12-3). -/
def decodeIdentity (l : List Byte) : Identity :=
  { format := BitVec.ofNat 16 (leAt l 0 2), activeB := flagAt l 2 0, generation := BitVec.ofNat 32 (leAt l 4 4)
    vehicleId := slice l 8 8, ipAddr := BitVec.ofNat 32 (leAt l 0x10 4), ipMask := BitVec.ofNat 32 (leAt l 0x14 4)
    udpPort := leAt l 0x18 2, tallyKey := slice l 0x1C 32, keyHash := Vector.ofFn fun k => slice l (0x3C + 32 * k.1) 32
    refreshS := Vector.ofFn fun k => BitVec.ofNat 32 (leAt l (0xBC + 4 * k.1) 4) }

/-- The copy in force: the valid one with the higher generation. -/
def State.inForce (s : State) : Option (Fin 2) :=
  let a := s.copyBytes 0
  let b := s.copyBytes 1
  match copyValidBytes a, copyValidBytes b with
  | true, true => if leAt a 4 4 < leAt b 4 4 then some 1 else some 0
  | true, false => some 0
  | false, true => some 1
  | false, false => none

/-- Overwrite bytes at an offset. -/
def putBytes (l : List Byte) (off : Nat) (x : List Byte) : List Byte := l.take off ++ x ++ l.drop (off + x.length)

/-- A write of a copy that fails leaves these bytes in it, and the other copy in force (R373). -/
def State.leaveCopy (s : State) (k : Fin 2) (l : List Byte) : State :=
  let s := s.programSector
  { s with nv := { s.nv with plug := Memory.writeBytes (Memory.erase s.nv.plug (copyAt k) 0x10000) (copyAt k) (l.take 4096) } }

/-- Write a copy of 4,096 bytes: its sector is erased and programmed. -/
def State.writeCopy (s : State) (k : Fin 2) (l : List Byte) : State :=
  let s := s.programSector
  { s with nv := { s.nv with plug := Memory.writeBytes (Memory.erase s.nv.plug (copyAt k) 0x10000) (copyAt k) l }
           maint := { s.maint with identity := decodeIdentity l } }

/-- The copy that an update writes: the older one. -/
def State.olderCopy (s : State) : Fin 2 := match s.inForce with | some k => 1 - k | none => 0

/-- Update the area in force: the older copy is written with the change, the next generation and a new CRC. -/
def State.updateIdentity (s : State) (f : List Byte → List Byte) : State :=
  match s.inForce with
  | none => s
  | some k =>
    if !s.plugWritable then s
    else
      let l := f (s.copyBytes k)
      let l := putBytes l 4 (toLe 4 (leAt l 4 4 + 1))
      s.writeCopy s.olderCopy (putBytes l 0xFFC (toLe 4 (crc32c (l.take 0xFFC)).toNat))

/-- Code against a plug write (R361). -/
def State.plugCode (s : State) : Option Nat := if s.plugWritable then none else some 0x6D

/-! ## Retention refresh (R367) -/

/-- Place and number of sectors of a region: slot A, slot B, mirror, identity area. -/
def regionAt (r : Fin 4) : Nat := [0, 0xC00000, 0x1800000, 0x1C00000].getD r.1 0
def regionSectors (r : Fin 4) : Nat := [192, 192, 64, 16].getD r.1 0

/-- Five years in seconds, at 365.25 days a year. -/
def fiveYears : Nat := 157788000

/-- A region's last refresh lies five years back. -/
def State.regionDue (s : State) (r : Fin 4) : Bool := decide (s.maint.identity.refreshS[r.1].toNat + fiveYears ≤ s.calS)

/-- Stages 1 and 2 of a sector's refresh: it is copied to the scratch sector, and its journal entry is written. -/
def State.openSector (s : State) (off : Nat) : State :=
  let l := Memory.bytes s.nv.plug off 0x10000
  let m := Memory.writeBytes (Memory.erase s.nv.plug scratchAt 0x10000) scratchAt l
  let m := Memory.writeBytes (Memory.erase m journalAt 0x10000) journalAt (toLe 4 off)
  { s with
    nv := { s.nv with plug := m }
    maint := { s.maint with refresh := { s.maint.refresh with opened := some off } } }

/-- A region is complete: refresh_s and event 0x3F5. -/
def State.regionDone (s : State) (r : Fin 4) : State :=
  let s := { s with maint := { s.maint with refresh := { s.maint.refresh with region := none, sector := 0 } } }
  (s.updateIdentity fun l => putBytes l (0xBC + 4 * r.1) (toLe 4 (s.calS % 2 ^ 32))).event 0x3F5 1 r.1 0 0 0

/-- REFRESH_SECTOR (R367): every 10 s a sector of the region in work, or of the first region that is due, is copied and entered in the journal;
the next mill tick programs it. DESIGN CHOICE: the spec gives the stages no times (log 4). -/
def execRefreshSector (t : Nat) (s : State) : Out :=
  let s := s.at t
  let x := s.maint.refresh
  let region := match x.region with | some r => some r | none => (List.finRange 4).find? fun r => s.regionDue r
  match region with
  | none => .next s
  | some r =>
    let busy := (r.1 == 0 && s.slotWriting false) || (r.1 == 1 && s.slotWriting true) || x.opened.isSome
    if !s.millerRuns || !s.plugWritable || busy || decide (s.ns < x.last + ms 10000) then .next s
    else
      let k := if x.redo then 0 else x.sector
      let s := s.openSector (regionAt r + k * 0x10000)
      .next { s with maint := { s.maint with
        refresh := { s.maint.refresh with region := some r, sector := k + 1, last := s.ns, redo := false } } }

/-- What a mill tick does of a refresh: the open sector is completed, and with its last one the region. -/
def State.refreshTick (s : State) : State :=
  let s := s.programSector
  match s.maint.refresh.region with
  | none => s
  | some r => if !s.maint.refresh.redo && decide (regionSectors r ≤ s.maint.refresh.sector) then s.regionDone r else s

/-! ## The end of an image switch (R365, R366) -/

/-- active_slot and, with keys.rotate, the new key hashes are written, the switch is recorded, Millbook is flushed, and the module is
in reset. -/
def State.finishSwitch (s : State) : State :=
  let b := s.inactive
  let g := (s.slotView b).image s.nv.is2216
  let s := s.updateIdentity fun l =>
    let l := putBytes l 2 [if b then 1 else 0]
    if g.keys.rotate then putBytes l 0x3C (g.keys.hash.toList.flatMap fun h => h) else l
  (((s.event 0x3F2 2 0 g.generation 0 0).bump 0x80 20)).restartModule

end Sys2Proof.Machine
end

