-- ==== Sys2Proof/Machine/Tenter.lean ====
section
/-!
DEFINITION. Sys2Proof/Machine/Tenter.lean: Tentering runs (R141-R145): acceptance, the passes, the computation and the end.
-/
namespace Sys2Proof.Machine

/-- Change the running Tentering. -/
def State.modTenter (s : State) (f : Tenter → Tenter) : State := { s with maint := { s.maint with tenter := s.maint.tenter.map f } }

/-! ## Commands -/

/-- Code of the first condition of R141 that fails. DESIGN CHOICE: the spec does not say whether the step's faults are the doorway's; a trip
of the step bridge counts, a fault of the step's encoder does not (log 27). -/
def State.tenterRefusal (s : State) (d : Door) : Nat :=
  let e := s.enc[d.ch.1]
  if s.cyc[d.1].state ≠ .service || !s.closedRead d || !s.lockRead d || !e.ref then 0x60
  else if !s.zeroSpeed then 0x61
  else if s.drv[d.1].weir.trip.isSome || s.drv[d.1].sweir.trip.isSome || e.encFlt || s.edgeFlt d || s.drv[d.1].isoFaulted then 0x6A
  else if s.edgeOpenA d || s.edgeOpenB d then 0x6B
  else if s.maint.tenter.isSome then 0x07
  else if !s.pair.token then 0x69
  else 0

/-- TENTER_START (R141, R142 step 1): unlock as in UNLOCKING; PROVEN ends, and the back-drive result with it (R173). -/
def execTenterStart (t : Nat) (m : Msg) (d : Door) (s : State) : Out :=
  let s := s.at t
  .next (s.tallyDoor 0x30 m d fun s =>
    match s.tenterRefusal d with
    | 0 =>
      let s := { s with maint := { s.maint with tenter := some { door := d, session := m.session } } }
      let s := (s.doorEvent d 21 1 0 0 0 0).modCyc d fun y => { y with
        proven := false, prfB := 0, svc := .idle, unlockDl := some (s.ns + ms (s.cycCfg d).unlockTimeoutMs) }
      let s := if s.hasAngle d then s.preload d else s.request d.ch .stopped 0
      (s.pull d).reply m 0x00
    | c => s.reply m c)

/-- Jog towards closed at the low pass speed. -/
def State.tenterHome (s : State) (d : Door) : State := s.request d.ch .jog (-((s.obsCfg d).tenterLow : Int))

/-- Step 7: the solenoid goes off at closed stand-still and the lock is proven (R142). -/
def State.tenterLock (s : State) (d : Door) : State :=
  ((s.newAttempts d).modCyc d fun y => { y with svc := .leaving }).lockOff d

/-- A run is stopped with an outcome (R144): during a pass the leaf goes to closed stand-still, once it can be driven, and is locked; a
doorway that has left SERVICE ends the run at once. -/
def State.tenterAbort (s : State) (x : Tenter) (code : Nat) : State :=
  let d := x.door
  let s := s.modTenter fun x => { x with outcome := some code, learned := none }
  if s.cyc[d.1].state ≠ .service then s.modTenter fun x => { x with step := .done }
  else match x.step with
    | .out _ | .back _ | .align => (s.modTenter fun x => { x with step := .abort }).tenterHome d
    | .unlock | .compute => (s.modTenter fun x => { x with step := .lock }).tenterLock d
    | _ => s

/-- A takeover ends a run at once, on either module, with outcome 0x02 where it had not failed before (R325). -/
def State.tenterTakeover (s : State) : State :=
  s.modTenter fun x => if x.step = .done then x else { x with
    step := .done, learned := none, outcome := match x.outcome with | some 0x00 => some 0x02 | some k => some k | none => some 0x02 }

/-- TENTER_STOP (R144). -/
def execTenterStop (t : Nat) (m : Msg) (d : Door) (s : State) : Out :=
  let s := s.at t
  .next (s.tallyDoor 0x30 m d fun s =>
    match s.maint.tenter with
    | some x => if x.door = d then ((if x.outcome.isNone then s.tenterAbort x 0x01 else s)).reply m 0x00 else s.reply m 0x60
    | none => s.reply m 0x60)

/-! ## The computation of step 6 (R143) -/

/-- Sum and mean of a list of rationals. -/
def ratSum (l : List Rat) : Rat := l.foldl (· + ·) 0
def ratMean (l : List Rat) : Rat := if l.isEmpty then 0 else ratSum l / l.length

/-- Samples of the low-speed passes that the steady condition admits. -/
def lowSamples (l : List TenterSample) : List TenterSample := l.filter fun x => !x.high && x.steady

/-- Deviation of a sample from the mean of iq_m over the surrounding electrical turn. DESIGN CHOICE: the surrounding turn is half a turn to
either side, among the samples of the same direction (log 27). -/
def cogDeviation (l : List TenterSample) (x : TenterSample) : Rat :=
  x.iq - ratMean ((l.filter fun y => y.opening == x.opening && decide (ratAbs (y.theta - x.theta) ≤ 1 / 2)).map TenterSample.iq)

/-- Cogging bin of an angle. -/
def cogBin (th : Rat) : Nat := (fracTurn th * 128).floor.toNat % 128

/-- Cogging table in mA, none where a bin has fewer than 8 samples. -/
def cogTable (l : List TenterSample) : Option (Vector Int 128) :=
  let low := lowSamples l
  let bin := fun (k : Nat) => low.filter fun x => cogBin x.theta == k
  if (List.range 128).all fun k => 8 ≤ (bin k).length then
    some (Vector.ofFn fun k => toField (ratMean ((bin k.1).map (cogDeviation low))))
  else none

/-- Motor force of a sample with a cogging table, N. -/
def sampleForce (kf : Nat) (cog : Vector Int 128) (x : TenterSample) : Rat :=
  (x.iq - ((cog[cogBin x.theta]?.getD 0 : Int) : Rat)) * kf / 1000000

/-- Mean motor force of a bin, direction and speed. -/
def binForce (kf : Nat) (cog : Vector Int 128) (l : List TenterSample) (high opening : Bool) (bin : Nat) : Option Rat :=
  let k := l.filter fun x => x.high == high && x.steady && x.opening == opening && x.bin == bin
  if k.isEmpty then none else some (ratMean (k.map (sampleForce kf cog)))

/-- Pass speed of a direction in m/s. -/
def passSpeed (v : Nat) (opening : Bool) : Rat := if opening then (v : Rat) / 10000 else -((v : Rat) / 10000)

/-- Nearest sampled bin, the lower on a tie. -/
def nearestBin (f : Nat → Option Rat) (k : Nat) : Rat :=
  match (List.range 256).findSome? fun n => (if n ≤ k then f (k - n) else none).orElse fun _ => f (k + n) with
  | some x => x
  | none => 0

/-- The quality check that a run fails: its outcome, and what had been computed, the residual rms in 0.1 N and the mass in 0.1 kg. -/
structure LearnFail where
  code : Nat
  rms : Nat := 0
  mass : Nat := 0
deriving DecidableEq, Repr

/-- What a run learns, or the first quality check that fails. DESIGN CHOICE: the spec gives no index angle to a run in which no index pulse
has been seen; it is a free value. DEDUCED: the residual rms is taken over the periods of the steady condition, the acceleration periods of
the mass fit left out (log 27). -/
def State.learn (s : State) (d : Door) (l : List TenterSample) : Except LearnFail CalRec :=
  let g := s.cfg.door[d.1]
  let kf := g.ctl.kf
  let vL := g.obs.tenterLow
  let vH := g.obs.tenterHigh
  match cogTable l with
  | none => .error { code := 0x07 }
  | some cog =>
    let f := fun (high opening : Bool) (bin : Nat) => binForce kf cog l high opening bin
    let slopes := [true, false].flatMap fun dir => (List.range 256).filterMap fun k =>
      match f false dir k, f true dir k with
      | some a, some b => some ((b - a) / (passSpeed vH dir - passSpeed vL dir))
      | _, _ => none
    let b : Rat := max 0 (ratMean slopes)
    let fric := fun (dir : Bool) (k : Nat) => match f false dir k, f true dir k with
      | some a, _ => some (a - b * passSpeed vL dir)
      | none, some a => some (a - b * passSpeed vH dir)
      | none, none => none
    let missing := fun (dir : Bool) => ((List.range 256).filter fun k => (fric dir k).isNone).length
    if 32 < missing true || 32 < missing false then .error { code := 0x07 }
    else
      let table := fun (dir : Bool) => (Vector.ofFn fun (k : Fin 256) => toField (nearestBin (fric dir) k.1 * 10) : Vector Int 256)
      let frOpen := table true
      let frClose := table false
      let force := fun (x : TenterSample) =>
        (((if x.opening then frOpen else frClose)[x.bin]?.getD 0 : Int) : Rat) / 10 + b * x.v
      let acc := l.filter fun x => x.high && decide (1 / 2 ≤ ratAbs x.a)
      let num := ratSum (acc.map fun x => (sampleForce kf cog x - force x) * x.a)
      let den := ratSum (acc.map fun x => x.a * x.a)
      let m : Rat := if den = 0 then 0 else num / den
      let mass := (toField (m * 10)).toNat
      let used := l.filter TenterSample.steady
      let sq := ratMean (used.map fun x => (fun r => r * r) (m * x.a - sampleForce kf cog x + force x))
      let rms := Nat.sqrt (toField (sq * 100)).toNat
      if acc.length < 40 || m < 2 || 200 < m || 1000 < b then .error { code := 0x09, rms, mass }
      else if ((g.obs.maxRms : Rat) / 10) ^ 2 < sq then .error { code := 0x08, rms, mass }
      else
          let e := s.enc[d.ch.1]
          let x := s.slot[d.ch.1]
          let angle := fun (r : Rat) => BitVec.ofNat 16 ((fracTurn r * 65536).floor.toNat)
          let work := s.elTurns d (countDiff e.latched (x.alignCount.getD 0))
          .ok {
            doorway := BitVec.ofNat 8 (d.1 + 1), valid := true, learnedAt := BitVec.ofNat 32 s.calS
            count := (match s.nv.cal[d.1].value with | some c => c.count | none => s.obs[d.1].cal.count) + 1
            fingerprint := g.fingerprint
            strokeAngle := angle (work - s.elTurns d e.stroke)
            indexAngle := match x.idxCount with
              | some n => angle (s.elTurns d (countDiff n (x.alignCount.getD 0)))
              | none => (Config.freeValue s.free).setWidth 16
            mass, viscous := (toField (b * 10)).toNat, rms, speedLow := vL, speedHigh := vH
            fricOpen := frOpen, fricClose := frClose, cog := cog }

/-! ## A period of a run -/

/-- Why a running run is aborted now (Table 5-3). A trip of either bridge stops the doorway. DEDUCED: the edge is actuated where its
reversal request is latched; a contact that opens while both closed switches read closed makes no request (log 27). -/
def State.tenterFault (s : State) (x : Tenter) : Option Nat :=
  let d := x.door
  if s.maint.doorTok[d.1] ≠ some x.session then some 0x02
  else if !s.zeroSpeed then some 0x03
  else if s.obs[d.1].latch then some 0x04
  else if s.cyc[d.1].state ≠ .service || s.tripped d || s.enc[d.ch.1].encFlt || s.drv[d.1].isoFaulted then some 0x05
  else match s.slot[d.ch.1].jogClampAt with
    | some t => if t + ms 100 < s.ns then some 0x06 else none
    | none => none

/-- Take this period's sample of a pass: retired, in regulation; steady at the pass speed, or accelerating in a high pass
(R142, R143). -/
def State.tenterSample (s : State) (x : Tenter) (high : Bool) : State :=
  let d := x.door
  let z := s.slot[d.ch.1]
  let a : Rat := (z.vf - z.vfPrev) * 4 / 5
  let speed : Rat := if high then (s.obsCfg d).tenterHigh else (s.obsCfg d).tenterLow
  let steady := decide (ratAbs (ratAbs z.vf - speed) ≤ speed / 10) && decide (ratAbs a < 1 / 2)
  if z.lastClass ≠ .retired || s.obs[d.1].outReg || z.mode ≠ .jog || !(steady || (high && decide (1 / 2 ≤ ratAbs a))) then s
  else
    let p : TenterSample := {
      high := high, opening := decide (0 < z.arg), steady := steady, bin := s.fricBin d
      theta := s.elTurns d (countDiff s.enc[d.ch.1].latched (z.alignCount.getD 0)), iq := z.iqM, a := a, v := z.vf / 10000 }
    s.modTenter fun x => { x with samples := x.samples ++ [p] }

/-- Speed of a pass. -/
def State.passArg (s : State) (d : Door) (high : Bool) : Int := if high then (s.obsCfg d).tenterHigh else (s.obsCfg d).tenterLow

/-- Step 6, then step 7. -/
def State.tenterCompute (s : State) (x : Tenter) : State :=
  let s := match s.learn x.door x.samples with
    | .ok c => { s with free := s.free + 1 }.modTenter fun x => { x with learned := some c, outcome := some 0x00 }
    | .error k => s.modTenter fun x => { x with outcome := some k.code, rms := k.rms, mass := k.mass }
  (s.modTenter fun x => { x with step := .lock }).tenterLock x.door

/-- The end of a pass at closed stand-still, with the check of R40. -/
def State.tenterPassEnd (s : State) (x : Tenter) (high : Bool) : State :=
  let d := x.door
  let s := s.standStillCheck d.ch
  if s.enc[d.ch.1].encFlt then s
  else if x.pass + 1 < (s.obsCfg d).passes then
    (s.modTenter fun x => { x with pass := x.pass + 1, step := .out high }).request d.ch .jog (s.passArg d high)
  else if !high then (s.modTenter fun x => { x with pass := 0, step := .out true }).request d.ch .jog (s.passArg d true)
  else (s.modTenter fun x => { x with step := .compute }).holdAt d 0

/-- What a mill tick does to the run. DESIGN CHOICE: Table 5-3 has no outcome for an obstacle that the observer detects in a pass; the leaf
holds or reverses as R124 says, and the run waits in its pass for the session (log 27). -/
def State.tenterTick (s : State) : State :=
  match s.maint.tenter with
  | none => s
  | some x =>
    let d := x.door
    let running := match x.step with | .abort | .lock | .done => false | _ => true
    match (if running then s.tenterFault x else none) with
    | some code => s.tenterAbort x code
    | none =>
      match x.step with
      | .unlock =>
        if s.unlockRead d then
          ((s.modCyc d fun y => { y with unlockDl := none }).modTenter fun x => { x with step := .align }).request d.ch .align 0
        else s
      | .align | .done => s
      | .out high =>
        let s := s.tenterSample x high
        let g := s.cfg.door[d.1].enc
        if (g.openSc : Int) - g.closedWindow ≤ s.enc[d.ch.1].stroke then
          (s.modTenter fun x => { x with step := .back high }).request d.ch .jog (-(s.passArg d high))
        else s
      | .back high =>
        let s := s.tenterSample x high
        if s.closedStill d then s.tenterPassEnd x high else s
      | .compute => s.tenterCompute x
      | .abort =>
        if s.cyc[d.1].state ≠ .service then s.modTenter fun x => { x with step := .done }
        else if s.closedStill d then
          let s := s.standStillCheck d.ch
          (s.modTenter fun x => { x with step := .lock }).tenterLock d
        else if s.slot[d.ch.1].mode ≠ .jog && !s.obs[d.1].latch then s.tenterHome d
        else s
      | .lock => if s.cyc[d.1].state ≠ .service then s.modTenter fun x => { x with step := .done, outcome := some 0x0B } else s

/-- TENTER_RUN_END (R144, R145): the outcome, its event and counter; new tables are committed only after the lock proof, and the outcome of
a commit comes with its last step. -/
def execTenterRunEnd (t : Nat) (s : State) : Out :=
  let s := s.at t
  match s.maint.tenter with
  | none => .next s
  | some x =>
    if x.step ≠ .done || s.maint.failed then .next s
    else
      let s := { s with maint := { s.maint with tenter := none } }
      let code := x.outcome.getD 0x01
      match code, x.learned with
      | 0x00, some c => .next (s.commitCal x.door c)
      | k, some c => .next (s.tenterOutcome x.door k c.rms c.mass)
      | k, none => .next (s.tenterOutcome x.door k x.rms x.mass)

end Sys2Proof.Machine
end

