-- ==== Sys2Proof/Machine/Time.lean ====
section
/-!
DEFINITION. Sys2Proof/Machine/Time.lean: the calendar and its time sources (R294-R298), and the recovery of a bus, which may make a
source valid again.
-/
namespace Sys2Proof.Machine

/-! ## Sources (R294, R296) -/

/-- Source of a bus. -/
def busSrc (b : BusId) : TimeSrc := if b = 0 then .busA else .busB

/-- A bus source is valid: enabled, established, not bus off, a good pair within three reference periods. -/
def State.busSrcValid (s : State) (b : BusId) : Bool :=
  (if b = 0 then s.cfg.bus.useA else s.cfg.bus.useB) && s.bus[b.1].established && s.bus[b.1].err != .off &&
  (match s.cal.refs[b.1].pairAt with | some x => decide (s.ns ≤ x + ms (3 * s.cfg.bus.refPeriodMs)) | none => false)

/-- A source is valid. The partner is one while it reports a bus as its own source. -/
def State.srcValid (s : State) : TimeSrc → Bool
  | .busA => s.busSrcValid 0
  | .busB => s.busSrcValid 1
  | .partner => s.cfg.bus.usePartner && s.pair.formed && s.pair.link && (s.cal.partner == .busA || s.cal.partner == .busB)
  | .holdover => true

/-- Rank of a source, best first (R294). -/
def TimeSrc.rank : TimeSrc → Nat | .busA => 0 | .busB => 1 | .partner => 2 | .holdover => 3

/-- The best valid source. -/
def State.bestSrc (s : State) : TimeSrc :=
  if s.srcValid .busA then .busA else if s.srcValid .busB then .busB else if s.srcValid .partner then .partner else .holdover

/-- The calendar goes on from this moment, with what remains of the slew; nothing of the time gone by is lost. -/
def Calendar.rebase (c : Calendar) (ns : Nat) : Calendar :=
  let left : Int := c.slewLeft ns
  { c with us := c.nowNs ns / 1000, sub := c.nowNs ns % 1000, at_ := ns, slew := if c.slew < 0 then -left else left }

/-- The selected source changes (event 0x37C). -/
def State.selectSrc (s : State) (x : TimeSrc) : State :=
  let old := s.cal.src
  let s := { s with cal := { s.cal with src := x, psrc := none, held := none } }
  if old = x then s else s.event 0x37C 1 1 (word old.code) (word x.code) 0

/-- A source better than the selected or the pending one has become valid (R296): a switch to it is pending; a pending switch to a
worse one is abandoned, and the source just left resumes at once. A pending source that has itself become invalid has no boundary to
complete at, and the best valid source takes its place. -/
def State.timeReview (s : State) : State :=
  let best := s.bestSrc
  let better := if best.rank < s.cal.src.rank then some best else none
  match s.cal.psrc with
  | some p =>
    if best.rank < p.rank then
      let s := { s with cal := { s.cal with aband := true } }
      let s := s.event 0x37C 1 2 (word s.cal.src.code) (word best.code) 0
      if best = s.cal.left ∧ s.cal.src = .holdover then s.selectSrc best else { s with cal := { s.cal with psrc := some best } }
    else if s.srcValid p then s else { s with cal := { s.cal with psrc := better } }
  | none => { s with cal := { s.cal with psrc := better } }

/-- TIME_SOURCE_INVALID (R296): the calendar continues on holdover; a switch to the best valid source is pending. -/
def execTimeSourceInvalid (t : Nat) (s : State) : Out :=
  let s := s.at t
  let old := s.cal.src
  if s.maint.failed || old = .holdover || s.srcValid old then .next s
  else
    let keep := s.cal.psrc
    let s := s.selectSrc .holdover
    let best := s.bestSrc
    let pend := match keep with
      | some p => if s.srcValid p then some p else if best = .holdover then none else some best
      | none => if best = .holdover then none else some best
    .next { s with cal := { s.cal with left := old, psrc := pend } }

/-- BUS_OFF_RECOVERY (R276): the bus returns to the state before, its counters at 0. -/
def execBusOffRecovery (t : Nat) (b : BusId) (s : State) : Out :=
  let s := s.at t
  if s.bus[b.1].bstate ≠ .recovery then .next s
  else .next (s.modBus b fun x => { x with bstate := x.prior, err := .active, tecN := 0, recN := 0 }).timeReview

/-! ## Offsets (R295, R297) -/

/-- The calendar is stepped: a time-step record, STEP, and BACK for a backward step. -/
def State.stepCalendar (s : State) (o : Int) (code : Nat) : State :=
  let old := s.cal.now s.ns
  let new := ((old : Int) + o).toNat
  let s := { s with cal := { s.cal with
    us := new, sub := 0, at_ := s.ns, slew := 0, held := none, step := true, back := s.cal.back || decide (o < 0) } }
  s.event code 2 0 (BitVec.ofNat 32 (old / 1000000)) (BitVec.ofNat 32 (new / 1000000)) (BitVec.ofNat 32 (new % 1000000))
    (BitVec.ofNat 32 (old % 1000000))

/-- The offset at a boundary of the selected source: slewed below 2 ms, else stepped at the second of two boundaries that agree
within 1 ms. -/
def State.treatOffset (s : State) (o : Int) : State :=
  let held := s.cal.held
  let c := s.cal.rebase s.ns
  let s := { s with cal := { c with offset := o, boundary := s.ns, synced := true, byTally := false } }
  if o.natAbs < 2000 then { s with cal := { s.cal with slew := o, held := none } }
  else match held with
    | some h =>
      if (o - h).natAbs ≤ 1000 then s.stepCalendar o 0x37D
      else { s with cal := { s.cal with slew := 0, held := some o } }
    | none => { s with cal := { s.cal with slew := 0, held := some o } }

/-- A reference boundary of a source: a pending switch to it completes, and the selected source's offset is treated. -/
def State.boundary (s : State) (x : TimeSrc) (o : Int) : State :=
  let s := if s.cal.psrc = some x && s.srcValid x then s.selectSrc x else s
  if s.cal.src = x then s.treatOffset o else s

/-- Calendar time at a stamped mill clock moment (µs): as the calendar ran then, back to its last change. -/
def State.calAt (s : State) (mill : Nat) : Int :=
  if s.cal.at_ ≤ 1000 * mill then (s.cal.now (1000 * mill) : Int) else (s.cal.us : Int) - ((s.cal.at_ / 1000 - mill : Nat) : Int)

/-- A time reference (Table 9-12). -/
structure TimeRefMsg where
  us : Nat
  mq : Nat
  counter : BitVec 8

def TimeRefMsg.ofBytes (l : List Byte) : TimeRefMsg := {
  us := beAt l 0 4 * 1000000 + beAt l 4 3 / 16, mq := beAt l 6 1 % 16, counter := BitVec.ofNat 8 (beAt l 7 1) }

/-- TIME_REFERENCE (R295-R297): two consecutive counters form a pair, and its second message is a boundary of the source; `sof` is the
stamped start of frame in µs, whose calendar time is kept for the next message. -/
def execTimeReference (t : Nat) (b : BusId) (x : HopAt 4) (sof : Nat) (s : State) : Out :=
  let s := s.at t
  if !s.millerRuns || !s.bus[b.1].established then .next s
  else
    let r := s.readGroup b 4 x.read
    let s := r.2
    match r.1 with
    | none => .next s
    | some o =>
      if o.data.length ≠ 8 || o.id.toNat ≠ 0x010 + s.cfg.bus.timeMaster then .next s
      else
        let m := TimeRefMsg.ofBytes o.data
        let p := s.cal.refs[b.1]
        let paired := p.seen && m.counter == p.counter + 1
        let good := paired && m.mq ≤ 1
        let q : BusRef := {
          counter := m.counter, sof := sof, calSof := s.calAt sof, seen := true, pairAt := if good then some s.ns else p.pairAt }
        let s := { s with cal := { s.cal with refs := s.cal.refs.set b.1 q } }
        .next (if paired then s.boundary (busSrc b) ((m.us : Int) - p.calSof) else s).timeReview

end Sys2Proof.Machine
end

