-- ==== Sys2Proof/WellFormed.lean ====
section
/-!
DEFINITION. Sys2Proof/WellFormed.lean: which operands a command can carry: payload lengths and field ranges of the message
maps. A term outside them stands for no command of the module.
-/
namespace Sys2Proof

/-- A message of the message area fits its layout (Table 10-6). -/
def CesilMsg.wellFormed : CesilMsg → Bool
  | .busFrame _ _ _ _ object data => object < 128 && data.length ≤ 64
  | .liveCheck _ offset _ => offset < 65536
  | .liveApply _ offset _ _ => offset < 65536
  | .calChunk _ _ bytes => bytes.length == 96
  | .calTakeUp _ _ => true

/-- Bytes a message takes in the message area (Table 10-6). -/
def CesilMsg.size : CesilMsg → Nat
  | .busFrame _ _ _ _ _ data => 8 + data.length
  | .liveCheck .. => 16
  | .liveApply .. => 16
  | .calChunk .. => 100
  | .calTakeUp .. => 8

/-- A signed field holds a value. -/
def fits (w : Nat) (v : Int) : Bool := decide (-(2 ^ (w - 1) : Int) ≤ v) && decide (v < 2 ^ (w - 1))

/-- The fields of a door entry fit their bits (Table 10-4). -/
def DoorEntry.wellFormed (e : DoorEntry) : Bool :=
  fits 16 e.forceOut && fits 16 e.fHat && fits 32 e.integ && fits 32 e.stroke && fits 16 e.iqM && fits 16 e.bClose && fits 16 e.bOpen &&
  e.confirm ≤ 8 && e.timer < 65536 && e.reopens < 16 && e.attempts < 4

/-- The fields of a step entry fit their bits (Table 10-5). -/
def StepEntry.wellFormed (e : StepEntry) : Bool := fits 16 e.wOut && fits 16 e.integV && fits 16 e.integI && fits 16 e.iRef

/-- The messages of a frame fit its 246-byte area (Table 10-3). -/
def msgArea (l : List CesilMsg) : Nat := (l.map CesilMsg.size).sum

/-- The operands of a command are ones its field maps admit. -/
def Instr.wellFormed : Instr → Bool
  | .millTick x => x.wait.all (fun p => p.2 ≤ 30) && x.housekeeping ≤ 5400
  | .frameReceived _ _ f => f.data.length ≤ 64 && (f.fd || f.data.length ≤ 8)
  | .activeFrameReceived _ _ f =>
    f.msgs.all CesilMsg.wellFormed && msgArea f.msgs ≤ 246 && f.calUs < 1000000 &&
    f.doors.toList.all DoorEntry.wellFormed && f.steps.toList.all StepEntry.wellFormed
  | .backFrameReceived _ _ f => f.notready ≤ 6
  | .safeTelegramCopy _ _ x | .outputCommand _ _ x | .timeReference _ _ x _ => x.read.failed.length ≤ 4
  | .readHopper _ _ _ x => x.read.failed.length ≤ 4
  | .openSession _ nonce => nonce.length == 16
  | .readWords _ _ _ count => 1 ≤ count && count ≤ 256
  | .readStamps _ _ n => 1 ≤ n && n ≤ 64
  | .readCapture _ _ first count => first < 8192 && 1 ≤ count && count ≤ 128
  | .slotWrite _ _ _ offset data => offset < 0xC00000 && 1 ≤ data.length && data.length ≤ 1024
  | .slotRead _ _ _ offset len => offset < 0xC00000 && 1 ≤ len && len ≤ 1024
  | .identityRead _ _ _ offset len => offset < 4096 && 1 ≤ len && len ≤ 1024
  | .keyAreaStage _ _ offset data => offset % 1024 == 0 && offset < 4096 && data.length == 1024
  | .keyAreaCommit _ _ key sig => key.bytes.length == 32 && sig.length == 64
  | .powerOnReset b => (match b.cut with | some l => l.length == 64 || l.length == 8192 | none => true)
  | .calendarSet _ _ _ us => us < 1000000
  | .liveWrite _ _ _ offset _ => offset < 65536
  | .tokenBucketRefill _ code => code < 0x480
  | .plugRefitted _ content => content.all fun c => c.1 < 0x2000000
  | _ => true

end Sys2Proof
end

