-- ==== Sys2Proof/Machine/Pair.lean ====
section
/-!
DEFINITION. Sys2Proof/Machine/Pair.lean: the redundant pair (10_redundant_pair): formation, the Cesil frames, tracking in the standby,
arbitration, handover and takeover.
-/
namespace Sys2Proof.Machine

/-! ## States (R307, R314, R320) -/

/-- Change the pair's state. -/
def State.modPair (s : State) (f : Pair → Pair) : State := { s with pair := f s.pair }

/-- The side of the stream a pair state stands on: sender, receiver, or none (R308). -/
def PState.sends : PState → Option Bool
  | .active => some true
  | .standbyReady | .standbyNotReady | .split => some false
  | _ => none

/-- The module takes a pair state; the input currents follow it (Table 10-2). With a new side of the stream, the partner's frames are due
from now (R315). -/
def State.setPState (s : State) (p : PState) : State :=
  { s with
    pair := { s.pair with pstate := p, roleAt := if s.pair.pstate.sends = p.sends then s.pair.roleAt else s.ns }
    io := { s.io with pairSink := match p with
      | .active => s.pair.backLink
      | .alone | .forming => false
      | _ => true } }

/-- An isolation pair fault of R324 stands until restart. -/
def State.isoFault (s : State) : Bool := (List.finRange 16).any fun d => s.drv[d.1].isoBlocked

/-- HLT (R320, R324). -/
def State.hlt (s : State) : Bool :=
  s.maint.configured && !s.sluice.safe && s.chanLive .runner && !s.isoFault &&
  (s.pair.pstate == .active || s.pair.pstate == .standbyReady || s.pair.pstate == .alone)

/-- A standby state. -/
def PState.standby : PState → Bool
  | .standbyReady | .standbyNotReady => true
  | _ => false

/-- First failed condition of R314, in the codes of Table 10-11. -/
def State.notReady (s : State) : Nat :=
  if !s.pair.formed then 1
  else if !(match s.pair.rxAt with | some x => decide (s.ns ≤ x + 500000) | none => false) then 2
  else if s.pair.posmis ≠ 0 then 3
  else if s.sluice.safe then 4
  else if !s.chanLive .runner then 5
  else if s.isoFault then 6
  else 0

/-- STANDBY_READY or STANDBY_NOT_READY by R314. -/
def State.standbyState (s : State) : State :=
  if s.pair.pstate.standby then s.setPState (if s.notReady = 0 then .standbyReady else .standbyNotReady) else s

/-- Take the token and drive the outputs (R304, R325). -/
def State.takeTokenDrive (s : State) : State := s.takeToken'.driveAll

/-- A module that is not in a formed pair takes the token whenever it may (R305). -/
def State.aloneToken (s : State) : State := if !s.pair.token && s.mayTakeToken then s.takeTokenDrive else s

/-! ## Formation (R305, R306) -/

/-- Cause of event 0x3B0 of an identity that differs: 1 variant, 2 position, 3 HEADER CRC. -/
def State.identityCause (s : State) (f : IdFrame) : Option Nat :=
  if f.variant2216 != s.nv.is2216 then some 1
  else if f.posB == s.pair.posB then some 2
  else if f.headerCrc ≠ s.cfg.headerCrc then some 3
  else none

/-- The pair is not formed: the module is ALONE, and records it where the cause is another than the last one recorded (log 38). A pair that
was formed is so no more (R366). -/
def State.notFormed (s : State) (cause : Nat) : State :=
  let s := s.modPair fun p => { p with
    formed := false, handover := false, deferred := false, lost := false, link := false, backLink := false, rxBack := none, rxBackAt := none }
  let s := if s.pair.notFormed = some cause then s
    else (s.modPair fun p => { p with notFormed := some cause }).event 0x3B0 4 cause 0 0 0
  (s.setPState .alone).aloneToken

/-- The pair is formed: both modules record it. -/
def State.formPair (s : State) : State :=
  (s.modPair fun p => { p with formed := true, notFormed := none }).event 0x3B1 2 0 (BitVec.ofNat 32 s.pair.posB.toNat) 0 0

/-- The token holder of a new pair is ACTIVE; its mill clock is the pair clock (R317). -/
def State.becomeActive (s : State) : State := (s.modPair fun p => { p with offset := 0 }).setPState .active

/-- The token holder of a formed pair hears no back frames: its partner may start anew, and needs its identity (R305, R366). DEDUCED: the
rules name only a module that is ALONE, but both modules of a formed pair record that an image switch has ended it (log 38). -/
def State.partnerGone (s : State) : Bool := s.pair.formed && s.pair.token && !s.pair.backLink

/-- IDENTITY_FRAME_SEND (R306): every 10 ms while the pair is not formed, and where the partner of a formed one is gone. -/
def execIdentityFrameSend (t : Nat) (s : State) : Out :=
  let s := s.at t
  let p := s.pair
  if !s.cfg.pair.enable || (p.formed && !s.partnerGone) || p.formAt.isNone || (p.txIdent.isSome && decide (s.ns < p.identSent + ms 10)) then .next s
  else .next (s.modPair fun p => { p with
    identSent := s.ns, txIdent := some { variant2216 := s.nv.is2216, posB := p.posB, headerCrc := s.cfg.headerCrc } })

/-- IDENTITY_FRAME (R305, R306, R366): a partner's identity is checked; a late pair forms once one of the two holds the token. A token holder
whose partner starts anew with another identity is in no pair any more. -/
def execIdentityFrame (t : Nat) (f : IdFrame) (s : State) : Out :=
  let s := s.at t
  if !s.cfg.pair.enable || s.pair.formAt.isNone || (s.pair.formed && !s.pair.token) then .next s
  else
    let s := s.modPair fun p => { p with identity := some f }
    match s.identityCause f with
    | some c => .next (s.notFormed c)
    | none =>
      if s.pair.formed then .next s
      else if s.pair.pstate = .forming then .next s.formPair
      else if s.pair.token && !s.pair.tokIn then .next s.formPair.becomeActive
      else if !s.pair.token && s.pair.tokIn then .next (s.formPair.setPState .standbyNotReady)
      else .next s

/-- The formation wait is over. -/
def State.formLate (s : State) : Bool :=
  match s.pair.formAt with | some x => decide (x + ms s.cfg.pair.formTimeoutMs ≤ s.ns) | none => false

/-- PAIR_FORMATION (R305): the role in a formed pair, or ALONE once the wait is over without one. -/
def execPairFormation (t : Nat) (s : State) : Out :=
  let s := s.at t
  if s.pair.pstate = .alone then .next (if s.pair.formAt.isSome && !s.pair.formed then s.aloneToken else s)
  else if s.pair.pstate ≠ .forming then .next s
  else if s.pair.formed then
    if s.pair.tokIn then .next (s.setPState .standbyNotReady)
    else
      let mine := match s.pair.desig with
        | some b => b == s.pair.posB
        | none => !s.pair.posB
      if (mine || (s.pair.posB && s.formLate)) && s.mayTakeToken then .next s.takeTokenDrive.becomeActive else .next s
  else if s.formLate then .next (s.notFormed 4)
  else .next s

/-! ## The active frame (R308, R310) -/

/-- An entry that is not fitted. -/
def DoorEntry.zero : DoorEntry :=
  { forceOut := 0, fHat := 0, integ := 0, stroke := 0, iqM := 0, bClose := 0, bOpen := 0, mode := 0, gset := false, rphase := false
    scale := 0, state := 0, confirm := 0, stretch := 0, obswin := false, decel := false, lzone := false, proven := false
    closecmd := false, ref := false, edgereq := false, timer := 0, startTick := 0, reopens := 0, attempts := 0 }

def StepEntry.zero : StepEntry := { wOut := 0, integV := 0, integI := 0, iRef := 0, mode := 0, state := 0, stroke := 0 }

/-- The mode runs a force law, whose state takes the place of the integrator in a frame (Table 10-4). -/
def Mode.forceState (m : Mode) (rphase : Bool) : Bool := m == .backDrive || (m == .reverse && !rphase)

/-- A signed value in a field of `w` bits of a frame, saturating (log 38). -/
def satField (w : Nat) (x : Int) : Int := clampInt (-(2 ^ (w - 1) : Nat)) ((2 ^ (w - 1) : Nat) - 1) x

/-- Pair clock ticks of a moment of the own mill clock. -/
def State.pairTicksOf (s : State) (ns : Nat) : Nat := (((ns : Int) + s.pair.offset) / 125000).toNat

/-- Door entry of a doorway (Table 10-4). -/
def State.doorEntry (s : State) (d : Door) : DoorEntry :=
  if !s.fitted d then DoorEntry.zero
  else
    let x := s.slot[d.ch.1]
    let e := s.enc[d.ch.1]
    let o := s.obs[d.1]
    let y := s.cyc[d.1]
    let m := s.cmp[d.1]
    { forceOut := satField 16 (tenthN x.out), fHat := satField 16 (tenthN o.fHat)
      integ := satField 32 (toField ((if x.mode.forceState x.rphase then x.force else x.integ) * 100))
      stroke := satField 32 e.stroke, iqM := satField 16 (toField x.iqM), bClose := satField 16 (tenthN o.bClose)
      bOpen := satField 16 (tenthN o.bOpen)
      mode := BitVec.ofNat 4 x.mode.code, gset := x.gset, rphase := x.rphase, scale := BitVec.ofNat 2 x.scale.code
      state := BitVec.ofNat 4 y.state.code, confirm := o.confirm, stretch := BitVec.ofNat 8 x.stretch
      obswin := m.window, decel := m.decel, lzone := m.lzone, proven := y.proven, closecmd := y.closeCmd, ref := e.ref
      edgereq := o.latch, timer := min 65535 ((s.ns - y.since) / 1000000)
      startTick := BitVec.ofNat 32 (s.pairTicksOf y.startNs), reopens := min 15 y.reopens, attempts := min 3 y.attempts }

/-- Step entry of a doorway (Table 10-5). -/
def State.stepEntry (s : State) (d : Door) : StepEntry :=
  if !s.stepFitted d then StepEntry.zero
  else
    let x := s.slot[d.step.1]
    { wOut := satField 16 (toField (x.wOut * 100)), integV := satField 16 (toField x.integ)
      integI := satField 16 (toField (x.integI * 100)), iRef := satField 16 (toField x.iqRef)
      mode := BitVec.ofNat 4 x.mode.code, state := BitVec.ofNat 3 s.cyc[d.1].step.code
      stroke := BitVec.ofInt 16 s.enc[d.step.1].stroke }

/-- A bit vector from its bits. -/
def bitsOf (w : Nat) (f : Fin w → Bool) : BitVec w :=
  (List.finRange w).foldl (fun (v : BitVec w) n => if f n then v ||| ((1#w) <<< n.1) else v) 0

/-- The active frame of the running period (Table 10-3) with its messages. -/
def State.activeFrame (s : State) (msgs : List CesilMsg) : ActiveFrame :=
  let us := s.cal.now s.ns
  { fseq := s.pair.fseq, pclock := BitVec.ofNat 32 s.pairClock, handover := s.pair.handover
    calS := BitVec.ofNat 32 (us / 1000000), calUs := us % 1000000, tq := BitVec.ofNat 4 (s.cal.tq s.ns)
    src := BitVec.ofNat 2 s.cal.src.code
    doPins := bitsOf 32 fun n => s.io.dout[n.1].pin == .on, lsPins := bitsOf 48 fun n => s.io.ls[n.1].on
    relL := s.tele.relL, relR := s.tele.relR, single := s.tele.single, cmdNo := s.tele.cmdNo.getD 0, cmdSeq := s.tele.own.seq
    doors := Vector.ofFn fun d => s.doorEntry d, steps := Vector.ofFn fun d => s.stepEntry d, msgs := msgs }

/-! ## The bytes of a frame (Tables 10-3 to 10-6 and 10-11, R308) -/

/-- One byte from fields. -/
def byteOf (l : List (Nat × Nat × Nat)) : Byte := (packWord l).setWidth 8

/-- Door entry, 32 bytes (Table 10-4). -/
def DoorEntry.bytes (e : DoorEntry) : List Byte :=
  toLeInt 2 e.forceOut ++ toLeInt 2 e.fHat ++ toLeInt 4 e.integ ++ toLeInt 4 e.stroke ++ toLeInt 2 e.iqM ++ toLeInt 2 e.bClose ++
  toLeInt 2 e.bOpen ++
  [byteOf [(0, 4, e.mode.toNat), bit 4 e.gset, bit 5 e.rphase, (6, 2, e.scale.toNat)], byteOf [(0, 4, e.state.toNat), (4, 4, e.confirm)],
   e.stretch,
   byteOf [bit 0 e.obswin, bit 1 e.decel, bit 2 e.lzone, bit 3 e.proven, bit 4 e.closecmd, bit 5 e.ref, bit 6 e.edgereq]] ++
  toLe 2 e.timer ++ toLe 4 e.startTick.toNat ++ [byteOf [(0, 4, e.reopens), (4, 2, e.attempts)], 0, 0, 0]

/-- Step entry, 12 bytes (Table 10-5). -/
def StepEntry.bytes (e : StepEntry) : List Byte :=
  toLeInt 2 e.wOut ++ toLeInt 2 e.integV ++ toLeInt 2 e.integI ++ toLeInt 2 e.iRef ++
  [byteOf [(0, 4, e.mode.toNat), (4, 3, e.state.toNat)], 0] ++ toLe 2 e.stroke.toNat

/-- A message (Table 10-6). DESIGN CHOICE: the flags of a bus frame stand in one byte with its mask, and the reserved bytes that the lengths
leave stand before the data and before the take-up tick (log 38). -/
def CesilMsg.bytes : CesilMsg → List Byte
  | .busFrame mask fd brs id o data =>
    [1, BitVec.ofNat 8 (8 + data.length), byteOf [(0, 2, mask.toNat), bit 2 fd, bit 3 brs]] ++ toLe 2 id.toNat ++ toLe 1 o ++ [0, 0] ++ data
  | .liveCheck c off v => [2, 16, 0] ++ toLe 1 (c.1 + 1) ++ toLe 2 off ++ toLe 4 v.toNat ++ toLe 4 0 ++ [0, 0]
  | .liveApply c off v k => [2, 16, 1] ++ toLe 1 (c.1 + 1) ++ toLe 2 off ++ toLe 4 v.toNat ++ toLe 4 k.toNat ++ [0, 0]
  | .calChunk d k l => [3, 100] ++ toLe 1 (d.1 + 1) ++ toLe 1 k.1 ++ l
  | .calTakeUp d k => [4, 8] ++ toLe 1 (d.1 + 1) ++ [0] ++ toLe 4 k.toNat

/-- The active frame before its CRC, 998 bytes (Table 10-3). -/
def ActiveFrame.bytes (f : ActiveFrame) : List Byte :=
  let area := f.msgs.flatMap CesilMsg.bytes
  toLe 2 1 ++ toLe 2 f.fseq.toNat ++ toLe 4 f.pclock.toNat ++ [byteOf [bit 0 f.handover]] ++ toLe 1 area.length ++ List.replicate 6 0 ++
  toLe 4 f.calS.toNat ++ toLe 4 (f.calUs + f.tq.toNat * 2 ^ 20 + f.src.toNat * 2 ^ 24) ++ toLe 4 f.doPins.toNat ++ toLe 6 f.lsPins.toNat ++
  [byteOf [bit 0 f.relL, bit 1 f.relR, bit 2 f.single], f.cmdNo] ++ toLe 2 f.cmdSeq.toNat ++ List.replicate 10 0 ++
  f.doors.toList.flatMap DoorEntry.bytes ++ f.steps.toList.flatMap StepEntry.bytes ++ area ++ List.replicate (246 - area.length) 0

/-- CRC-16 at the end of an active frame (R308). -/
def ActiveFrame.crc (f : ActiveFrame) : BitVec 16 := crc16 (ActiveFrame.bytes f)

/-- The back frame before its CRC, 14 bytes (Table 10-11). -/
def BackFrame.bytes (f : BackFrame) : List Byte :=
  toLe 2 f.bseq.toNat ++ toLe 2 f.ack.toNat ++ [byteOf [(0, 3, f.pstate.toNat), (3, 3, f.notready), bit 6 f.pairiso], 0] ++
  toLe 2 f.posmis.toNat ++ toLe 1 f.lwResult.toNat ++ toLe 1 (f.lwChannel.1 + 1) ++ toLe 1 f.calResult.toNat ++ toLe 1 (f.calDoor.1 + 1) ++
  [0, 0]

/-- CRC-16 at the end of a back frame (R309). -/
def BackFrame.crc (f : BackFrame) : BitVec 16 := crc16 (BackFrame.bytes f)

/-! ## The message area (R316) -/

/-- Class of a message in R316: live writes, telegrams and answers, take-ups, other frames, chunks, pages. -/
def msgClass : CesilMsg → Nat
  | .liveCheck .. => 1
  | .liveApply .. => 1
  | .busFrame _ _ _ _ o _ => if 12 ≤ o && o < 20 then 2 else if 20 ≤ o && o < 37 then 6 else 4
  | .calTakeUp .. => 3
  | .calChunk .. => 5

/-- Messages in the order of R316: by class, in order of creation within each. -/
def byClass (l : List OutMsg) : List OutMsg := [1, 2, 3, 4, 5, 6].flatMap fun k => l.filter fun m => msgClass m.msg == k

/-- Messages that fit in what is left of the area, and those that wait. -/
def fillArea : Nat → List OutMsg → List OutMsg × List OutMsg
  | _, [] => ([], [])
  | room, m :: r =>
    if m.msg.size ≤ room then
      let x := fillArea (room - m.msg.size) r
      (m :: x.1, x.2)
    else ([], m :: r)

/-- A bus frame message past its deadline is withdrawn and counted, as in Hopper (R316). -/
def State.withdrawMsg (s : State) (m : CesilMsg) : State :=
  match m with
  | .busFrame mask _ _ id o _ => (List.finRange 2).foldl (fun (s : State) (b : Fin 2) =>
      if mask.getLsbD b.1 then
        ((s.modBus b fun x => { x with drop := true }).bump (0x81 + b.1) 9).event 0x37A 2 (busCause b) (id.setWidth 32)
          (BitVec.ofNat 32 o) 0
      else s) s
  | _ => s

/-- Load a bus frame message into the own Hopper, with a deadline on the own mill clock (R316). -/
def State.loadMsg (s : State) (m : CesilMsg) (dl : Option Nat) : State :=
  match m with
  | .busFrame mask fd brs id o data => s.loadFrame mask fd brs ⟨o % 128, Nat.mod_lt _ (by decide)⟩ id.toNat data dl
  | _ => s

/-- Bus frames whose Cesil frame has been sent in full are loaded. -/
def State.loadSent (s : State) : State :=
  let now := s.pair.sent.filter fun x => decide (x.1 ≤ s.ns)
  let s := s.modPair fun p => { p with sent := p.sent.filter fun x => !decide (x.1 ≤ s.ns) }
  now.foldl (fun (s : State) (x : Nat × OutMsg) => s.loadMsg x.2.msg x.2.deadline) s

/-- A bus frame message. -/
def CesilMsg.isBusFrame : CesilMsg → Bool
  | .busFrame .. => true
  | _ => false

/-- A calibration chunk of a doorway. -/
def CesilMsg.isChunkOf (d : Door) : CesilMsg → Bool
  | .calChunk e _ _ => e == d
  | _ => false

/-- A committed record of which every chunk has been sent gets its take-up tick, 8 ms ahead, and the take-up message that names it (R21,
R146). -/
def State.takeUpSend (s : State) (d : Door) : State :=
  match s.obs[d.1].sending with
  | some c =>
    if s.pair.msgs.any fun x => CesilMsg.isChunkOf d x.msg then s
    else
      let k := BitVec.ofNat 32 (s.pairTick + 64)
      (s.putMsg (CesilMsg.calTakeUp d k)).modObs d fun o => { o with sending := none, takeUp := some (c, some (s.tickNs k)) }
  | none => s

/-- The frame of a period of the active module (R308, R316): it ends by phase 86 µs of the next period. -/
def State.sendActive (s : State) : State :=
  let s := s.loadSent
  let late := s.pair.msgs.filter fun m => due m.deadline s.ns
  let s := s.modPair fun p => { p with msgs := p.msgs.filter fun m => !due m.deadline s.ns }
  let s := late.foldl (fun (s : State) m => s.withdrawMsg m.msg) s
  let q := fillArea 246 (byClass s.pair.msgs)
  let frame := { s.activeFrame (q.1.map OutMsg.msg) with fseq := s.pair.fseq + 1 }
  let out := (q.1.filter fun m => CesilMsg.isBusFrame m.msg).map fun m => (s.ns + 211000, m)
  let asks := q.1.any fun m => match m.msg with | .liveCheck .. => true | _ => false
  let s := s.modPair fun p => { p with
    checkSeq := if asks then some frame.fseq else p.checkSeq
    msgs := q.2, fseq := p.fseq + 1, tx := some frame, txCrc := ActiveFrame.crc frame, sent := p.sent ++ out }
  (s.bump 0x84 0).eachDoor State.takeUpSend

/-- The back frame of a period of the standby (R309, Table 10-11). -/
def State.sendBack (s : State) : State :=
  let p := s.pair
  let f : BackFrame := {
    bseq := p.bseq + 1, ack := match p.rx with | some f => f.fseq | none => 0
    pstate := BitVec.ofNat 3 p.pstate.code, notready := s.notReady, pairiso := s.isoFault, posmis := p.posmis
    lwResult := p.lwResult, lwChannel := p.lwChannel, calResult := p.calResult, calDoor := p.calDoor }
  (s.modPair fun p => { p with bseq := p.bseq + 1, txBack := some f, txBackCrc := BackFrame.crc f }).bump 0x84 0

/-- What Fantail sends in a period. -/
def State.fantailTick (s : State) : State :=
  if !s.pair.formed then s
  else if s.pair.token && s.pair.pstate == .active then s.sendActive
  else if s.pair.pstate.standby || s.pair.pstate == .split then s.standbyState.sendBack
  else s

/-! ## Tracking in the standby (R311-R313) -/

/-- Argument of a streamed mode, which the frame does not carry: the bias of a Hold by the door state, the preload of R154. -/
def State.streamArg (s : State) (d : Door) (m : Mode) : Int :=
  let g := s.cycCfg d
  match m with
  | .backDrive => g.backdriveN
  | .hold => (match s.cyc[d.1].state with
    | .open => if s.atOpenEnd d then g.openHoldN else 0
    | .unlocking | .closedUnlocked | .locking | .proving => -(g.preloadN : Int)
    | _ => 0)
  | _ => 0

/-- Speed factor of a SCALE code. -/
def Scale.ofCode (n : Nat) : Scale := if n = 1 then .slowClose else if n = 2 then .referencing else .full

/-- A doorway's state, timer, grant and door cycle values from the stream (R312). A close command that appears starts the blinking of R252;
an emergency handle or a release that stands is no new one for this module. -/
def State.followCycle (s : State) (d : Door) (e : DoorEntry) : State :=
  let st := (DoorState.ofCode e.state.toNat).getD s.cyc[d.1].state
  let blink := if !e.closecmd then none else if s.cyc[d.1].closeCmd then s.cyc[d.1].closeTick else some s.tick
  let s := if st = s.cyc[d.1].state then s else s.goto d st
  let at0 := s.tickNs e.startTick
  let handle := s.handleOperated d
  let rel := s.sideReleased d
  let zero := s.zeroSpeed
  s.modCyc d fun y => { y with
    since := s.ns - ms e.timer, closeCmd := e.closecmd, closeTick := blink, reopens := e.reopens, attempts := e.attempts
    proven := e.proven, startNs := at0, startTick := if s.ns < at0 then some (at0 / 125000) else none
    stepWant := none, handleWas := handle, relWas := rel, zeroWas := zero }

/-- A doorway's Millstone and observer values from the stream (R146, R311); the 200 ms of a streamed Align run here too. -/
def State.followSlot (s : State) (d : Door) (e : DoorEntry) : State :=
  let m := (Mode.ofCode e.mode.toNat).getD .stopped
  let frc := m.forceState e.rphase
  let arg := s.streamArg d m
  let s := s.modSlot d.ch fun x =>
    let x := if x.mode = m then x else { x with prevMode := x.mode, mode := m, entryStroke := s.enc[d.ch.1].pos, excursion := 0,
                                                  alignAt := if m = .align then some s.ns else none }
    { x with req := none, superseded := false, arg := arg }
  let s := (s.commandTravel d.ch).armTick d
  let s := s.modSlot d.ch fun x => { x with
    gset := e.gset, rphase := e.rphase, scale := Scale.ofCode e.scale.toNat, incoming := .none
    stretch := if e.stretch = 0 then 256 else e.stretch.toNat
    integ := if frc then x.integ else (e.integ : Rat) / 100, force := if frc then (e.integ : Rat) / 100 else x.force
    out := (e.forceOut : Rat) / 10, stream := some ((e.forceOut : Rat) / 10, (e.iqM : Rat)) }
  let s := s.modDrv d fun x => { x with stretch := if e.stretch = 0 then 256 else e.stretch.toNat }
  let s := s.modCmp d fun c => { c with
    window := e.obswin, decel := e.decel, lzone := e.lzone, lzoneItem := false, cueItems := [], decelItem := false }
  (s.modObs d fun o => { o with
    fHat := (e.fHat : Rat) / 10, confirm := e.confirm, bClose := (e.bClose : Rat) / 10, bOpen := (e.bOpen : Rat) / 10
    detClose := false, detOpen := false, revObs := false, revEdge := false }).edgeLatchTick d

/-- A step's values from the stream. -/
def State.followStep (s : State) (d : Door) (e : StepEntry) : State :=
  if !s.stepFitted d then s
  else
    let m := (Mode.ofCode e.mode.toNat).getD .stopped
    let s := s.modSlot d.step fun x => { x with
      req := none, superseded := false, mode := m, prevMode := if x.mode = m then x.prevMode else x.mode, incoming := .none
      integ := (e.integV : Rat), integI := (e.integI : Rat) / 100, out := (e.iRef : Rat), wOut := (e.wOut : Rat) / 100
      stream := some ((e.wOut : Rat) / 100, 0) }
    let s := s.modCyc d fun y => { y with step := (StepState.ofCode e.state.toNat).getD y.step }
    s.commandTravel d.step

/-- The position comparison of a doorway (R313). -/
def State.comparePos (s : State) (d : Door) (e : DoorEntry) : State :=
  let en := s.enc[d.ch.1]
  if !e.ref then s
  else if !en.ref then
    if en.still && !en.encFlt then
      s.modEnc d.ch fun x => { x with reference := x.ext - BitVec.ofInt 48 e.stroke, ref := true, refClose := false }
    else s
  else
    let bad := decide (s.cfg.pair.posTolSc < (en.stroke - e.stroke).natAbs)
    let moving := if bad && !en.still then s.pair.mismatchRun[d.1] + 1 else 0
    let still := if bad && en.still then s.pair.mismatchStill[d.1] + 1 else 0
    let okAt := if bad then s.ns else s.pair.mismatchOkAt[d.1]
    let s := s.modPair fun p => { p with
      mismatchRun := p.mismatchRun.set d.1 moving, mismatchStill := p.mismatchStill.set d.1 still
      mismatchOkAt := p.mismatchOkAt.set d.1 okAt }
    let set := s.pair.posmis.getLsbD d.1
    if !set && (10 ≤ still || 80 ≤ moving) then
      let s := s.modPair fun p => { p with posmis := p.posmis ||| ((1#16) <<< d.1), mismatch := true }
      (s.bump 0x84 (8 + d.1)).doorEvent d 43 4 0 en.strokeWord (word e.stroke) 0
    else if set && !bad && decide (okAt + ms 1000 ≤ s.ns) then
      s.modPair fun p => { p with posmis := p.posmis &&& ~~~((1#16) <<< d.1) }
    else s

/-- One doorway's values from the stream. -/
def State.followDoor (f : ActiveFrame) (s : State) (d : Door) : State :=
  if !s.fitted d || s.cyc[d.1].restarting then s
  else ((s.followCycle d f.doors[d.1]).followSlot d f.doors[d.1]).followStep d f.steps[d.1]

/-- A doorway that tracks compares its position at the latch (R313). -/
def State.compareDoor (f : ActiveFrame) (s : State) (d : Door) : State :=
  if !s.fitted d || s.cyc[d.1].restarting then s else s.comparePos d f.doors[d.1]

/-- The door command that the active module decided last (R318). -/
def State.followCommand (s : State) (f : ActiveFrame) : State :=
  { s with tele := { s.tele with cmdNo := some f.cmdNo, own := { s.tele.own with seq := f.cmdSeq } } }

/-- What a module takes from the latest frame (R311, R312, R318). -/
def State.followStream (s : State) : State :=
  match s.pair.rx with
  | none => s
  | some f =>
    let s := s.followCommand f
    let s := { s with tele := { s.tele with relL := f.relL, relR := f.relR, single := f.single } }
    s.eachDoor (State.followDoor f)

/-- A latch of the standby: the stream, and the position comparison (R311, R313). -/
def State.trackStream (s : State) : State :=
  let s := s.followStream
  match s.pair.rx with
  | none => s
  | some f => s.eachDoor (State.compareDoor f)

/-- A latch in SPLIT: there is no stream to follow, and nothing is compared; the EDGE latches clear as ever (R130, R313). -/
def State.splitTick (s : State) : State :=
  let s := s.modPair fun p => { p with mismatchOkAt := Vector.replicate 16 s.ns }
  s.eachDoor State.edgeLatchTick

/-! ## Messages at the standby (R110, R146, R316) -/

/-- A chunk of a calibration record; with the sixteenth the record is checked. -/
def State.takeChunk (s : State) (d : Door) (k : Fin 16) (bytes : List Byte) : State :=
  let l := (k, bytes) :: s.obs[d.1].chunks.filter fun x => x.1 != k
  let s := s.modObs d fun o => { o with chunks := l }
  if l.length < 16 then s.modPair fun p => { p with calResult := 0, calDoor := d }
  else
    let all := (List.finRange 16).flatMap fun j => match l.find? fun x => x.1 == j with | some x => x.2 | none => []
    let ok := (calReason s.cfg.door[d.1] d (some (CalRec.ofBytes all))).isNone
    s.modPair fun p => { p with calResult := if ok then 1 else 2, calDoor := d }

/-- The record that a doorway's chunks hold, once all are there. -/
def State.heldRecord (s : State) (d : Door) : Option CalRec :=
  let l := s.obs[d.1].chunks
  if l.length < 16 then none
  else some (CalRec.ofBytes ((List.finRange 16).flatMap fun j => match l.find? fun x => x.1 == j with | some x => x.2 | none => []))

/-- The take-up message: a good record is written to both copies and taken up at its tick; else the standby reports it. DEDUCED: a standby
whose plug mirror cannot be written cannot do all that R146 asks, so it takes the record up and reports that too (log 27). -/
def State.takeUpMsg (s : State) (d : Door) (tick : BitVec 32) : State :=
  let good := match s.heldRecord d with
    | some c => if (calReason s.cfg.door[d.1] d (some c)).isNone then some c else none
    | none => none
  let s := s.modObs d fun o => { o with chunks := [] }
  match good with
  | some c =>
    let ok := s.plugWritable
    let s := ((s.writeBookCal d c).writeMirror d c).modObs d fun o => { o with takeUp := some (c, some (s.tickNs tick)) }
    if ok then s else s.modPair fun p => { p with calResult := 2, calDoor := d }
  | none => s.modPair fun p => { p with calResult := 2, calDoor := d }

/-- Sequence numbers that a bus frame of the active module carries are kept, for a takeover (R316). -/
def State.noteSeq (s : State) (o : Nat) (data : List Byte) : State :=
  if 12 ≤ o ∧ o < 16 then { s with tele := { s.tele with gsSeq := BitVec.ofNat 16 (beAt data 2 2) } }
  else if 16 ≤ o ∧ o < 20 then { s with tele := { s.tele with ansSeq := BitVec.ofNat 16 (beAt data 0 2) } }
  else if h : 20 ≤ o ∧ o < 37 then
    { s with tele := { s.tele with pageSeq := s.tele.pageSeq.set (o - 20) (BitVec.ofNat 16 (beAt data 0 2)) (by omega) } }
  else s

/-- Deadline at the standby of a received bus frame (R274, R316): a safe telegram is old 20 ms after its own time stamp, an answer 100 ms
after it came (log 38). -/
def State.rxDeadline (s : State) (o : Nat) (data : List Byte) : Option Nat :=
  if 12 ≤ o ∧ o < 16 then some (s.wireNs (BitVec.ofNat 32 (beAt data 4 4)) + ms 20)
  else if 16 ≤ o ∧ o < 20 then some (s.ns + ms 100)
  else none

/-- One message of a received frame. -/
def State.takeMsg (s : State) (m : CesilMsg) : State :=
  match m with
  | .busFrame _ _ _ _ o data => (s.loadMsg m (s.rxDeadline o data)).noteSeq o data
  | .liveCheck c offset v =>
    let ok := s.writable c && s.liveValueOk c offset v.toNat && decide (s.slot[c.1].pending.length < 8)
    s.modPair fun p => { p with lwResult := if ok then 1 else 2, lwChannel := c }
  | .liveApply c offset v tick =>
    let w : LiveWrite := { offset := offset, value := v, applyAt := some (s.tickNs tick) }
    (s.modPair fun p => { p with lwResult := 0 }).modSlot c fun x => { x with pending := x.pending ++ [w] }
  | .calChunk d k bytes => s.takeChunk d k bytes
  | .calTakeUp d tick => s.takeUpMsg d tick

/-- Source that a SRC code names. -/
def TimeSrc.ofCode (n : Nat) : TimeSrc := if n = 1 then .busA else if n = 2 then .busB else if n = 3 then .partner else .holdover

/-- The partner's calendar as a reference boundary (R294, R297). -/
def State.partnerTime (s : State) (f : ActiveFrame) (mill : Nat) : State :=
  let o : Int := ((f.calS.toNat * 1000000 + f.calUs : Nat) : Int) - s.calAt mill
  let s := { s with cal := { s.cal with partner := TimeSrc.ofCode f.src.toNat } }
  (if s.srcValid .partner then s.boundary .partner o else s).timeReview

/-- A frame that a foreign control symbol has broken, or whose CRC-16 does not match, is discarded whole and counted; only the latter sets
CRCERR (R308, R309, Table 10-9). -/
def State.failedFrame (s : State) (broken : Bool) : State :=
  (s.modPair fun p => { p with crcErr := p.crcErr || !broken, failRun := p.failRun + 1, okRun := 0 }).bump 0x84 2

/-- Offset of the pair clock from the own mill clock, ns, by a frame that ends now: of the values that its pclock leaves open the one nearest
to the pair clock kept so far, and none before 0 (R317). -/
def State.measureOffset (s : State) (pclock : BitVec 32) : Int :=
  let at0 : Int := (s.ns : Int) - 211000
  let est : Int := (at0 + s.pair.offset) / 1000
  let p := est + (pclock - BitVec.ofInt 32 est).toInt
  (if p < 0 then p + 2 ^ 32 else p) * 1000 - at0

/-- ACTIVE_FRAME_RECEIVED (R308, R309, R311, R316-R318): the frame ends 211 µs after the phase 0 that its pclock and calendar time
name. -/
def execActiveFrameReceived (t : Nat) (x : FrameEnd) (f : ActiveFrame) (s : State) : Out :=
  let s := s.at t
  if !s.pair.formed || s.pair.token then .next s
  else if x.broken || x.crc != ActiveFrame.crc f then .next (s.failedFrame x.broken)
  else
    let mill := s.mill - 211
    let off := s.measureOffset f.pclock
    let next := match s.pair.rx with | some g => f.fseq == g.fseq + 1 | none => false
    let ready := s.pair.pstate == .standbyReady
    let s := s.modPair fun p => { p with
      rx := some f, rxAt := some s.ns, failRun := 0, okRun := if next then p.okRun + 1 else 1, link := !p.lost, offset := off
      handoverSeen := f.handover && (p.handoverSeen || ready), ready := ready }
    let s := ((s.bump 0x84 1).standbyState).partnerTime f mill
    .next (f.msgs.foldl State.takeMsg s)

/-- CALIBRATION_TAKE_UP (R146): the take-up tick has come. -/
def execCalibrationTakeUp (t : Nat) (d : Door) (s : State) : Out := .next ((s.at t).takeUpTick d)

/-! ## The back frame at the active module (R309, R324) -/

/-- The standby could not take up a committed record (R146). -/
def State.standbyCal (s : State) (old new : BackFrame) : State :=
  if new.calResult = 2 ∧ ¬ (old.calResult = 2 ∧ old.calDoor = new.calDoor) then
    s.doorEvent new.calDoor 23 3 0 (match s.nv.cal[new.calDoor.1].value with | some c => c.count | none => 0) 0 0
  else s

/-- The standby reports SPLIT: it has lost this module's stream, which both record (R315). -/
def State.standbySplit (s : State) (old new : BackFrame) : State :=
  if new.pstate = 5 ∧ old.pstate ≠ 5 ∧ ¬ s.pair.lost then s.event 0x3B2 4 0 (s.pair.fseq.setWidth 32) 0 0 else s

/-- Result that a back frame gives on the outstanding check: only one whose ack covers the frame that carried it (R110, Table 10-11). -/
def State.checkResult (s : State) (f : BackFrame) : Option Bool :=
  match s.pair.check, s.pair.checkSeq with
  | some (_, c, _, _), some k => if (f.ack - k).msb || f.lwChannel ≠ c || f.lwResult = 0 then none else some (f.lwResult == 1)
  | _, _ => none

/-- BACK_FRAME_RECEIVED (R308, R309, R324). The frame does not say which doorways an isolation fault of the standby affects, so every fitted one
is held, and stays so until the standby restarts (log 40). -/
def execBackFrameReceived (t : Nat) (x : FrameEnd) (f : BackFrame) (s : State) : Out :=
  let s := s.at t
  if !s.pair.formed || !s.pair.token then .next s
  else if x.broken || x.crc != BackFrame.crc f then .next (s.failedFrame x.broken)
  else
    let blank : BackFrame := { bseq := 0, ack := 0, pstate := 4, notready := 0, pairiso := false, posmis := 0, lwResult := 0
                               lwChannel := 0, calResult := 0, calDoor := 0 }
    let old := s.pair.rxBack.getD blank
    let next := s.pair.rxBack.isSome && f.bseq == old.bseq + 1
    let s := s.modPair fun p => { p with
      rxBack := some f, rxBackAt := some s.ns, failRun := 0, okRun := if next then p.okRun + 1 else 1, backLink := !p.lost, link := !p.lost }
    let s := (((s.bump 0x84 1).setPState s.pair.pstate).standbySplit old f).standbyCal old f
    let s := match s.checkResult f with | some ok => s.liveCheckResult ok | none => s
    if f.pairiso then .next (s.eachDoor fun s d => if s.fitted d then s.faultHeld d 2 else s) else .next s

/-! ## Loss of the stream (R315) -/

/-- STREAM_LOST: the limit of consecutive missing or failed frames; they are counted, or the last good one, or the moment from which frames
were due, lies so many periods back. -/
def execStreamLost (t : Nat) (s : State) : Out :=
  let s := s.at t
  let last := max ((if s.pair.token then s.pair.rxBackAt else s.pair.rxAt).getD 0) s.pair.roleAt
  let old := decide (last + s.cfg.pair.lossPeriods * 125000 ≤ s.ns)
  if !s.pair.formed || s.pair.pstate.sends.isNone || s.pair.lost || !(s.cfg.pair.lossPeriods ≤ s.pair.failRun || old) then .next s
  else
    let s := s.modPair fun p => { p with link := false, lost := true, okRun := 0, backLink := p.backLink && !p.token }
    let seq := if s.pair.token then s.pair.fseq else match s.pair.rx with | some f => f.fseq | none => 0
    let s := s.event 0x3B2 4 0 (seq.setWidth 32) 0 0
    if s.pair.pstate.standby && s.pair.tokIn then .next (s.setPState .split) else .next (s.setPState s.pair.pstate)

/-- STREAM_REGAINED: 64 consecutive valid frames. -/
def execStreamRegained (t : Nat) (s : State) : Out :=
  let s := s.at t
  if !s.pair.lost || s.pair.okRun < 64 then .next s
  else
    let s := s.modPair fun p => { p with lost := false, link := true, backLink := p.token }
    let s := s.event 0x3B3 2 0 0 0 0
    if s.pair.pstate = .split then .next ((s.setPState .standbyNotReady).standbyState) else .next (s.setPState s.pair.pstate)

/-! ## Arbitration and the planned handover (R319-R322) -/

/-- The standby reports STANDBY_READY. -/
def State.partnerReady (s : State) : Bool := s.pair.backLink && (match s.pair.rxBack with | some f => f.pstate == 3 | none => false)

/-- A valid designation names the standby and is followed. -/
def State.arbiterWants (s : State) : Bool :=
  s.pair.formed && s.pair.token && s.pair.pstate == .active && s.cfg.pair.followArbiter && s.pair.desig == some (!s.pair.posB) &&
  !s.pair.handover && !s.pair.releasing

/-- A planned handover is requested: HANDOVER in the next frame. -/
def State.requestHandover (s : State) : State := (s.modPair fun p => { p with handover := true, deferred := false }).bump 0x84 6

/-- Fantail requests the handover that a designation asks for; a standby that is not ready defers it (R321). -/
def State.arbiterHandover (s : State) : State :=
  if !s.arbiterWants then s
  else if s.partnerReady then s.requestHandover
  else if s.pair.deferred then s
  else ((s.modPair fun p => { p with deferred := true }).bump 0x84 7).event 0x3B6 3 2 0 0 0

/-- PLANNED_HANDOVER (R321, R322). -/
def execPlannedHandover (t : Nat) (s : State) : Out := .next (s.at t).arbiterHandover

/-- READY_SYMBOL (R309, R321, R322): READY completes a handover that a frame has carried, by turning every bridge switch off and opening
every pair; else a deferred handover is requested again. -/
def execReadySymbol (t : Nat) (s : State) : Out :=
  let s := s.at t
  if !s.pair.formed || !s.pair.token then .next s
  else if s.pair.handover then
    if s.pair.releasing || !(match s.pair.tx with | some f => f.handover | none => false) then .next s
    else .next ((s.modPair fun p => { p with releasing := true }).eachDoor fun s d => (s.openPairs d).bridgeOff d.step).tryRelease
  else if s.pair.deferred && s.arbiterWants then .next s.requestHandover
  else .next s

/-- The designation that the two lines give. -/
def Pair.lines (p : Pair) : Option Bool := if p.arb1 == p.arb2 then none else some p.arb2

/-- A designation or its absence is valid once held for the confirm time; it may ask for a handover. -/
def State.arbTick (s : State) : State :=
  if decide (s.ns < s.pair.arbAt + ms s.cfg.pair.arbConfirmMs) then s
  else
    let now := s.pair.lines
    let s := s.modPair fun p => { p with
      desig := now, desigAt := if now.isSome then s.ns else p.desigAt, arbLost := p.arbLost && now.isNone
      deferred := p.deferred && now == some (!p.posB) }
    s.arbiterHandover

/-- ARBITER_DESIGNATION (R319): the select lines read these levels. -/
def execArbiterDesignation (t : Nat) (arb1 arb2 : Bool) (s : State) : Out :=
  let s := s.at t
  let s := s.modPair fun p => { p with
    arb1 := arb1, arb2 := arb2, arbAt := if p.arb1 = arb1 ∧ p.arb2 = arb2 then p.arbAt else s.ns }
  .next s.arbTick

/-- ARBITER_DESIGNATION_INVALID (R319): no valid designation for more than 1 s. -/
def execArbiterDesignationInvalid (t : Nat) (s : State) : Out :=
  let s := s.at t
  let p := s.pair
  if !s.maint.configured || !s.cfg.pair.enable || p.desig.isSome || p.arbLost || decide (s.ns ≤ p.desigAt + ms 1000) then .next s
  else .next ((s.modPair fun p => { p with arbLost := true, arbFlt := true }).event 0x3B6 3 1 0 0 0)

/-! ## The lanes of the pair cable (R391) -/

/-- Lanes of X21: the two Cesil lanes and the two token lines. -/
inductive Lane where | ces1 | ces2 | tok1 | tok2
deriving DecidableEq, Repr

/-- The lane that carries what this module sends, and what it receives: by its position, and none before POS has been read. -/
def State.sendLane (s : State) : Option Lane := if s.pair.posRead then some (if s.pair.posB then .ces2 else .ces1) else none
def State.receiveLane (s : State) : Option Lane := if s.pair.posRead then some (if s.pair.posB then .ces1 else .ces2) else none

/-- The token lines that are TOK-OUT and TOK-IN of this module. -/
def State.tokOutLane (s : State) : Option Lane := if s.pair.posRead then some (if s.pair.posB then .tok2 else .tok1) else none
def State.tokInLane (s : State) : Option Lane := if s.pair.posRead then some (if s.pair.posB then .tok1 else .tok2) else none

/-- A token line reads asserted: what this module drives on its TOK-OUT, what its partner drives on its TOK-IN. -/
def State.tokenLine (s : State) (l : Lane) : Bool :=
  (s.tokOutLane == some l && s.pair.token) || (s.tokInLane == some l && s.pair.tokIn)

/-! ## Takeover (R322-R325) -/

/-- The pair clock, low 32 bits. -/
def State.pclockWord (s : State) : BitVec 32 := BitVec.ofNat 32 s.pairClock

/-- What ends at a takeover on both modules (R110, R114, R144, R325); a live write whose check is outstanding is refused. -/
def State.takeoverEnds (s : State) : State :=
  let s := match s.pair.check with | some (m, _, _, _) => s.endCheck.answer 0x31 m 0x07 | none => s
  (s.endCapture.tenterTakeover).eachCh fun s c => s.modSlot c fun x => { x with pending := [] }

/-- A referencing close goes on, as far as the stream shows: in Travel-close, reversing, in Align or resting before its start, or with its step
coming in. -/
def State.refCloses (s : State) (d : Door) : Bool :=
  let y := s.cyc[d.1]
  let mode := s.slot[d.ch.1].mode
  y.state == .unreferenced && (mode == .travelClose || mode == .reverse || y.startTick.isSome ||
    (y.closeCmd && (mode == .align || y.step == .retracting)))

/-- Timers and phases of a doorway that go on at a takeover; what the stream does not carry starts anew. -/
def State.resumeDoor (s : State) (d : Door) : State :=
  let g := s.cycCfg d
  let y := s.cyc[d.1]
  let en := s.cfg.door[d.1].enc
  let lockOn := s.io.ls[(s.lockLs d).1].cmd
  let mode := s.slot[d.ch.1].mode
  match y.state with
  | .unlocking => s.modCyc d fun y => { y with
      unlockDl := some (y.since + ms g.unlockTimeoutMs), unlocked := mode == .align, aligning := mode == .align }
  | .opening => s.modCyc d fun y => { y with
      openDl := some (y.startNs + ms g.openTimeoutMs)
      startTick := if mode.moving then none else some (max s.tick (y.startNs / 125000)) }
  | .closing =>
    if mode.moving || y.startTick.isSome then s.modCyc d fun y => { y with closeDl := some (y.startNs + ms g.closeTimeoutMs) }
    else if s.mustRetract d then s.modCyc d fun y => { y with awaitStep := true }
    else s.modCyc d fun y => { y with restFirst := true, closeDl := some (y.startNs + ms g.closeTimeoutMs) }
  | .reversing => s.modCyc d fun y => { y with
      reopenTarget := min (s.enc[d.ch.1].stroke + g.reopenSc) ((en.openSc : Int) - en.closedWindow) }
  | .reopenHold => s.modCyc d fun y => { y with holdDl := some (y.since + ms g.reopenHoldMs) }
  | .locking => s.modCyc d fun y => if lockOn then { y with lockPhase := .closing }
      else { y with lockPhase := .released, switchDl := some (s.ns + ms g.switchTimeoutMs) }
  | .proving => s.startProof d
  | .unreferenced =>
    let closes := s.refCloses d
    let waits := closes && !mode.moving && y.startTick.isNone && mode != .align
    s.modCyc d fun y => { y with
      refClosing := closes && !waits, awaitStep := waits, aligning := mode == .align
      refReopen := if mode = .reverse then some (s.enc[d.ch.1].pos + g.reopenSc) else none }
  | _ => s

/-- A step in motion, or about to move, gets its time limit, its start and its reservation anew (log 40). -/
def State.resumeStep (s : State) (d : Door) : State :=
  let go := fun (extend : Bool) =>
    let moves := s.slot[d.step.1].mode.moving
    let s := s.modCyc d fun y => { y with
      stepDl := some (s.ns + ms ((s.stepCfg d).limitMs extend)), stepStart := if moves then none else some (s.tick + 1) }
    s.reserveRunning d.step extend (if moves then s.tick else s.tick + 1) s.slot[d.step.1].stretch
  match s.cyc[d.1].step with
  | .extending => go true
  | .retracting => go false
  | _ => s

/-- The reservation of a streamed door motion, running or granted (R15, R312): the Governor of the new active module counts it. -/
def State.regrant (s : State) (d : Door) : State :=
  let y := s.cyc[d.1]
  let f := s.slot[d.ch.1].stretch
  let start := y.startNs / 125000
  if y.state = .reversing then s.reserveReverse d y.reopenTarget.toNat
  else if y.restFirst then s.reserveRunning d.ch false start f
  else match s.slot[d.ch.1].mode.travel with
    | some opening => s.reserveRunning d.ch opening start f
    | none =>
      if y.state = .unlocking ∨ y.state = .opening then s.reserveRunning d.ch true start f
      else if y.startTick.isSome then s.reserveRunning d.ch false start f
      else s

/-- A cycle is in progress on the doorway, as far as the stream shows. -/
def State.cycleRuns (s : State) (d : Door) : Bool :=
  match s.cyc[d.1].state with
  | .unlocking | .opening | .open | .closing | .reversing | .reopenHold | .locking => true
  | .proving => s.cyc[d.1].closeCmd
  | .unreferenced => s.refCloses d
  | _ => false

/-- The record of a cycle in progress, with TAKEOVER set (R325), and its trace trigger. -/
def State.takeoverRecord (s : State) (d : Door) (code : Nat) : State :=
  if !s.cycleRuns d then s
  else
    let s := s.modCyc d fun y => { y with rec? := some {
      takeover := true, refcls := y.state == .unreferenced, unlockAt := s.ns, closeAt := if y.state = .closing then s.ns else 0 } }
    s.traceTrigger d 6 code 4

/-- A doorway at a hot or planned takeover: it goes on in its streamed mode, with a hand-over of each moving channel (R105), and with the
grants of its motions. -/
def State.hotDoor (s : State) (d : Door) : State :=
  let hand := fun (x : Slot) => { x with incoming := if x.mode.moving then .handOver else x.incoming, prevMode := x.mode }
  (((((s.modSlot d.ch hand).modSlot d.step hand).motionTaken d).resumeDoor d).regrant d).resumeStep d

/-- A step at a cold takeover (R323). -/
def State.coldStep (s : State) (d : Door) : State :=
  if !s.stepFitted d then s
  else
    let moving := s.leafMoving d.step
    let s := if s.stepRetRead d then s.stepRetracted d
      else
        let s := (s.bumpIf (s.cyc[d.1].step != .fault) (0x61 + d.1) 34).modRec d fun r => { r with stepflt := true }
        (s.modCyc d fun y => { y with step := .fault, stepFlt := true, stepDl := none, stepStart := none, stepHold := none }).request
          d.step .hold 0
    if moving then s.request d.step .brake 0 else s

/-- A doorway at a cold takeover: a moving leaf is braked, then the state of an accepted reset is taken (R182, R323). An ISOLATED
doorway stays so. -/
def State.coldDoor (s : State) (d : Door) : State :=
  let s := s.coldStep d
  if s.cyc[d.1].state = .isolated then s
  else
    if s.leafMoving d.ch then (s.modCyc d fun y => { y with coldBrake := true }).request d.ch .brake 0 else s.leaveFault d

/-- The outputs take the streamed pin states (R263, R325). -/
def State.streamOutputs (s : State) (f : ActiveFrame) : State :=
  let s := (List.finRange 32).foldl (fun (s : State) (n : Dout) =>
    let v := f.doPins.getLsbD n.1
    s.modDout n fun x => { x with cmd := v, busCmd := v, cmpCmd := v }) s
  let s := (List.finRange 48).foldl (fun (s : State) (n : Ls) =>
    let v := f.lsPins.getLsbD n.1
    s.modLs n fun x => { x with cmd := v, shadow := if v then s.cfg.ls.sw[n.1].duty else 0, shadowAt := s.ns, shadowPrev := x.shadow }) s
  s.eachDoor fun s d =>
    let n := s.lockLs d
    if f.lsPins.getLsbD n.1 then
      (s.modCyc d fun y => { y with sol := .hold }).modLs n fun x => { x with shadow := 10 * (s.cycCfg d).holdPct }
    else s.modCyc d fun y => { y with sol := .off }

/-- Every sequence number goes on from the last one received plus 16 (R316). -/
def State.advanceSeq (s : State) : State :=
  { s with
    tele := { s.tele with gsSeq := s.tele.gsSeq + 16, ansSeq := s.tele.ansSeq + 16, pageSeq := s.tele.pageSeq.map (· + 16)
                          ans := none, close := 0, open_ := 0, reset := 0 }
    pair := { s.pair with fseq := (match s.pair.rx with | some f => f.fseq | none => s.pair.fseq) + 15 } }

/-- The standby takes over (R323-R325): kind 1 planned, 2 hot, 3 cold. -/
def State.takeover (s : State) (kind : Nat) : State :=
  let s := if kind = 3 then (match s.pair.rx with | some f => s.followCommand f | none => s) else s.followStream
  let mis := s.pair.posmis
  let s := s.takeToken'
  let s := s.modPair fun p => { p with
    tookAt := some s.ns, tkovr := true, cold := p.cold || kind == 3, handoverSeen := false, ready := false, handover := false
    releasing := false, deferred := false, gaveUp := none, lost := false, failRun := 0, okRun := 0, link := false, backLink := false
    rxBack := none, rxBackAt := none, msgs := [], sent := [] }
  let s := (s.setPState .active).advanceSeq
  let code := if kind = 3 then 0x3B5 else 0x3B4
  let s := (s.bump 0x84 (2 + kind)).event code 4 (if kind = 3 then 0 else kind) s.pclockWord 0 0
  let s := s.takeoverEnds
  let s := match s.pair.rx with | some f => s.streamOutputs f | none => s
  let s := s.eachCh fun s c => s.modSlot c fun x => { x with stream := none }
  let s := s.eachDoor fun s d =>
    if !s.fitted d then s
    else
      let s := s.takeoverRecord d code
      if kind = 3 || mis.getLsbD d.1 then s.coldDoor d else s.hotDoor d
  s.driveAll

/-- TOKEN_IN_RELEASED (R304, R305, R322, R323). -/
def execTokenInReleased (t : Nat) (s : State) : Out :=
  let s := (s.at t).modPair fun p => { p with tokIn := false }
  if s.pair.token then .next s
  else match s.pair.pstate with
    | .alone => .next (if s.pair.formed || (s.cfg.pair.enable && s.pair.formAt.isNone) then s else s.aloneToken)
    | .standbyReady | .standbyNotReady | .split =>
      let planned := s.pair.handoverSeen
      let fresh := match s.pair.rxAt with | some x => decide (s.ns ≤ x + 500000) | none => false
      if !s.mayTakeToken || (!planned && s.pair.posmis != 0) then
        .next (if s.pair.pstate = .split then s.setPState .standbyNotReady else s)
      else .next (s.takeover (if planned then 1 else if fresh then 2 else 3))
    | _ => .next s

/-- What the outgoing module leaves of a doorway to its partner (R135, R194): the cycle and the motion in progress are the partner's; a
finished cycle that waits for its loop is recorded. -/
def State.outgoingDoor (s : State) (d : Door) : State :=
  ((s.writeEnding d false).modCyc d fun y => { y with rec? := none, recordDl := none }).modObs d fun o => { o with
    moving := false, sumX := 0, nX := 0 }

/-- What the outgoing module does once its partner holds the token it gave up (R322, R325, R366). -/
def State.outgoing (s : State) (kind : Nat) : State :=
  let s := s.event (if kind = 3 then 0x3B5 else 0x3B4) 4 (if kind = 3 then 0 else kind) s.pclockWord 0 0
  let s := s.takeoverEnds.eachDoor State.outgoingDoor
  let s := { s with tele := { s.tele with ans := none, close := 0, open_ := 0, reset := 0 } }
  let again := s.pair.restartAfter
  let s := (s.modPair fun p => { p with
    gaveUp := none, msgs := [], sent := [], restartAfter := false, lost := false, failRun := 0, okRun := 0
    link := false, backLink := false, rx := none, rxAt := none, roleAt := s.ns }).setPState .standbyNotReady
  if again then s.finishSwitch else s

/-- TOKEN_IN_ASSERTED (R68, R304, R307, R324): the braking paths turn off; of two assertions within 100 ns position B withdraws; a standby
whose stream is lost is SPLIT. -/
def execTokenInAsserted (t : Nat) (s : State) : Out :=
  let s := ((s.at t).modPair fun p => { p with tokIn := true }).eachDoor fun s d => s.dropBrake d
  if s.pair.token then
    let tie := match s.pair.closeAt with | some c => decide (s.ns ≤ c - 5000 + 100) | none => false
    if tie && s.pair.posB then
      let s := s.releaseToken
      .next ((s.modPair fun p => { p with gaveUp := none, closeAt := none }).setPState
        (if s.pair.formed then .standbyNotReady else .alone))
    else .next s
  else match s.pair.gaveUp with
    | some k => .next (s.outgoing k)
    | none => .next (if s.pair.lost && s.pair.pstate.standby then s.setPState .split else s)

/-- TOKEN_ASSERT_DELAY_END (R324): 5 µs after TOK-OUT the pairs are commanded closed. -/
def execTokenAssertDelayEnd (t : Nat) (s : State) : Out :=
  let s := s.at t
  if !due s.pair.closeAt s.ns then .next s
  else .next ((s.modPair fun p => { p with closeAt := none }).eachDoor fun s d => s.settlePairs d)

end Sys2Proof.Machine
end

