-- ==== Sys2Proof/Machine/Maintenance.lean ====
section
/-!
DEFINITION. Sys2Proof/Machine/Maintenance.lean: Sluice's heartbeat, Tally sessions and tokens, reads and clears, service, the plug's
slots and identity area, doorway restart, image switch, and what stops an engine or Miller (12, 13, R12, R13, R221).
-/
namespace Sys2Proof.Machine

/-! ## Sluice (R12, R13, R221) -/

/-- HEARTBEAT_WRITE (R12): the timeout starts again; a safe state is not released (R13). -/
def execHeartbeatWrite (t : Nat) (s : State) : Out :=
  let s := s.at t
  if s.sluice.holding || s.sluice.safe || s.maint.failed then .next s
  else .next { s with sluice := { s.sluice with lastBeat := s.ns } }

/-- Heartbeats have stopped: event 0x301 with the clock of the last one, and the safe state (R12, R13). -/
def State.sluiceLoss (s : State) : State :=
  if s.sluice.safe then s
  else
    let us := s.sluice.lastBeat / 1000
    (s.event 0x301 5 0 (BitVec.ofNat 32 us) (BitVec.ofNat 32 (us / 2 ^ 32)) 0).sluiceAct

/-- SLUICE_HEARTBEAT_LOSS (R12). -/
def execSluiceHeartbeatLoss (t : Nat) (s : State) : Out :=
  let s := s.at t
  if s.sluice.holding || decide (s.ns < s.sluice.lastBeat + ms s.cfg.pers.heartbeatMs) then .next s else .next s.sluiceLoss

/-- SAFE_STATE_REQUEST (R221): a channel's request line is asserted. -/
def execSafeStateRequest (t : Nat) (ch : SafetyCh) (s : State) : Out :=
  let s := s.at t
  let bitNo := match ch with | .runner => 0 | .bedstone => 1
  if s.safety.reqLine.getLsbD bitNo then .next s.sluiceAct else .next s

/-! ## Sessions and tokens (R369-R371) -/

/-- Tally runs: start-up step 3 is over and Miller runs (R353, R354). -/
def State.tallyOpen (s : State) : Bool := 3 ≤ s.maint.step && !s.maint.failed

/-- A dropped datagram. -/
def State.dropDatagram (s : State) : State := s.bump 0x80 24

/-- A Tentering run is on the doorway. -/
def State.tentering (s : State) (d : Door) : Bool := match s.maint.tenter with | some x => x.door == d | none => false

/-- A doorway in SERVICE without a session (R184): PROVING where it is closed and locked, else Hold at 0 N. A Tentering run ends by
its own rule first (R144). -/
def State.serviceLost (s : State) (d : Door) : State :=
  if s.cyc[d.1].state ≠ .service || s.tentering d || s.cyc[d.1].restarting then s
  else if s.closedRead d && s.lockRead d then s.proveAnew d
  else
    let s := s.modCyc d fun y => { y with
      svc := .idle, backing := false, backDl := none, backTest := none, unlockDl := none, startTick := none }
    (s.releaseGov d.ch).holdAt d 0

/-- SERVICE_TOKEN_LOST (R184). -/
def execServiceTokenLost (t : Nat) (d : Door) (s : State) : Out :=
  let s := s.at t
  if s.maint.doorTok[d.1].isSome || s.maint.failed then .next s else .next (s.serviceLost d)

/-- A doorway's token is released. -/
def State.freeDoorTok (s : State) (d : Door) : State := (s.loseDoorToken d).serviceLost d

/-- The module token is released; what its session has staged is discarded (R373). -/
def State.freeModuleTok (s : State) : State :=
  match s.maint.moduleTok with
  | none => s
  | some id =>
    { s with maint := { s.maint with
      moduleTok := none
      sessions := s.maint.sessions.map fun x => if x.id == id then { x with staged := [] } else x } }

/-- A session closes and its tokens are released (R369). -/
def State.endSession (s : State) (id : BitVec 32) : State :=
  let s := if s.maint.moduleTok = some id then s.freeModuleTok else s
  let s := s.eachDoor fun s d => if s.maint.doorTok[d.1] = some id then s.freeDoorTok d else s
  { s with maint := { s.maint with sessions := s.maint.sessions.filter fun x => x.id != id } }

/-- OPEN (R371): at most four sessions; a blank area answers only in depot mode. -/
def execOpenSession (t : Nat) (nonce : List Byte) (s : State) : Out :=
  let s := s.at t
  if !s.tallyOpen then .next s.dropDatagram
  else if s.maint.blank && !s.depot then .next s
  else if nonce.length ≠ 16 then .next (s.answer 0x01 ⟨0, 0⟩ 0x01)
  else if 4 ≤ s.maint.sessions.length then .next (s.answer 0x01 ⟨0, 0⟩ 0x07)
  else
    let id := Config.sessionId s.free
    let own := Config.nonce s.free
    let idBytes := toLe 4 id.toNat
    let key := Config.hmacSha256 s.maint.identity.tallyKey (nonce ++ own ++ idBytes)
    let x : Session := { id := id, key := key, last := s.ns, stagedAt := 0 }
    let s := { s with free := s.free + 1, maint := { s.maint with sessions := s.maint.sessions ++ [x] } }
    .next (((s.bump 0x80 22).event 0x3F6 1 1 id 0 0).answer 0x01 ⟨id, 0⟩ 0x00 (own ++ idBytes))

/-- CLOSE (R369). -/
def execCloseSession (t : Nat) (m : Msg) (s : State) : Out :=
  let s := s.at t
  .next (s.tally 0x02 m .blank fun s _ => s.replyThen m fun s => (s.endSession m.session).event 0x3F6 1 2 m.session 0 0)

/-- SESSION_TIMEOUT (R371): no message for 30 s. -/
def execSessionTimeout (t : Nat) (session : BitVec 32) (s : State) : Out :=
  let s := s.at t
  match s.session session with
  | none => .next s
  | some x => if s.maint.failed || decide (s.ns < x.last + ms 30000) then .next s else .next ((s.endSession session).event 0x3F6 1 3 session 0 0)

/-- TAG_FAILURE (R371): dropped and counted; the fifth within 10 s closes the session. -/
def execTagFailure (t : Nat) (session : BitVec 32) (s : State) : Out :=
  let s := s.at t
  if !s.tallyOpen then .next s.dropDatagram
  else
    let s := s.bump 0x80 23
    match s.session session with
    | none => .next s
    | some x =>
      let l := s.ns :: x.tagFails.filter fun k => decide (s.ns ≤ k + ms 10000)
      if 5 ≤ l.length then .next ((s.endSession session).event 0x3F7 3 0 session 0 0)
      else .next (s.setSession { x with tagFails := l })

/-- TOKEN_TAKE (R369). -/
def execTokenTake (t : Nat) (m : Msg) (k : Token) (s : State) : Out :=
  let s := s.at t
  .next (s.tally 0x03 m .unconfigured fun s _ =>
    match k with
    | .module =>
      (match s.maint.moduleTok with
       | some id => s.reply m (if id = m.session then 0x00 else 0x05)
       | none => { s with maint := { s.maint with moduleTok := some m.session } }.reply m 0x00)
    | .door d =>
      if !s.fitted d then s.reply m 0x02
      else match s.maint.doorTok[d.1] with
        | some id => s.reply m (if id = m.session then 0x00 else 0x05)
        | none => { s with maint := { s.maint with doorTok := s.maint.doorTok.set d.1 (some m.session) } }.reply m 0x00)

/-- TOKEN_RELEASE (R369). -/
def execTokenRelease (t : Nat) (m : Msg) (k : Token) (s : State) : Out :=
  let s := s.at t
  .next (s.tally 0x03 m .unconfigured fun s _ =>
    match k with
    | .module => if s.maint.moduleTok = some m.session then s.freeModuleTok.reply m 0x00 else s.reply m 0x05
    | .door d => if s.maint.doorTok[d.1] = some m.session then (s.freeDoorTok d).reply m 0x00 else s.reply m 0x05)

/-! ## Reads (R18, R247, R279, R342, R378-R380) -/

/-- Counters of a block (Table 13-4). -/
def counterCount (inst : Nat) : Nat :=
  if 0x01 ≤ inst ∧ inst ≤ 0x20 then 7
  else if 0x21 ≤ inst ∧ inst ≤ 0x30 then 16
  else if 0x31 ≤ inst ∧ inst ≤ 0x50 then 6
  else if 0x51 ≤ inst ∧ inst ≤ 0x60 then 21
  else if 0x61 ≤ inst ∧ inst ≤ 0x70 then 36
  else if 0x71 ≤ inst ∧ inst ≤ 0x72 then 4
  else if inst = 0x80 then 27
  else if 0x81 ≤ inst ∧ inst ≤ 0x82 then 13
  else if inst = 0x83 then 5
  else if inst = 0x84 then 24
  else if inst = 0x85 then 36
  else if 0x90 ≤ inst ∧ inst ≤ 0x9F then 80
  else if inst = 0xA0 then 90
  else if 0xA1 ≤ inst ∧ inst ≤ 0xA2 then 16
  else if 0xA3 ≤ inst ∧ inst ≤ 0xA5 then 80
  else 0

/-- A counter as its two words: OVF is bit 31 of the high one (R380). -/
def Ctr.word64 (c : Ctr) : BitVec 64 := c.value.zeroExtend 64 ||| (if c.ovf then 0x8000000000000000 else 0)

/-- Value of counter k of a block; the two high-water marks of R91 are values of their own (R379). -/
def State.counter64 (s : State) (inst k : Nat) : BitVec 64 :=
  if h : 0x31 ≤ inst ∧ inst ≤ 0x50 ∧ k = 4 then BitVec.ofNat 64 (s.slot[inst - 0x31]'(by omega)).highWater
  else if inst = 0x80 ∧ k = 1 then BitVec.ofNat 64 s.housekeepingHigh
  else (s.counter inst k).word64

/-- Counter that an address of areas 0x02 and 0x03 names. -/
def counterAt (addr : BitVec 32) : Option (Nat × Nat) :=
  let area := addr.toNat / 2 ^ 24
  let inst := addr.toNat / 2 ^ 16 % 256
  let k := addr.toNat % 2 ^ 16 / 2
  if area = 2 ∧ k < counterCount inst then some (inst, k)
  else if area = 3 ∧ inst = 0 ∧ k < 0x480 then some (0x100, k)
  else none

/-- One word of a 64-bit value for a session: the low word takes a snapshot, the high one returns the latest or takes one (R18). -/
def readHalf (key : Nat) (v : BitVec 64) (high : Bool) (x : Session) : Option (BitVec 32) × Session :=
  if high then
    let v := (mapGet key x.snaps).getD v
    (some (v.extractLsb' 32 32), { x with snaps := mapPut key v x.snaps })
  else (some (v.extractLsb' 0 32), { x with snaps := mapPut key v x.snaps })

/-- The values that R18, R29 and R152 have read over Tally and R378 gives no address. DESIGN CHOICE: they stand in area 0x04 (log 52).
Instance 0: words 0 and 1 the mill clock. Instance 1 to 32, a channel: word 0 the stroke with its marker, words 2 and 3 the extended
position; of a door channel words 4 and 5 the biases of closing and opening in 0.1 N. -/
def State.measured (s : State) (inst word : Nat) (x : Session) : Option (BitVec 32) × Session :=
  if h : 1 ≤ inst ∧ inst ≤ 32 then
    let c : Ch := ⟨inst - 1, by omega⟩
    if !s.chFitted c then (none, x)
    else match word with
      | 0 => (some s.enc[c.1].strokeWord, x)
      | 2 => readHalf (0x1010000 + inst) (s.enc[c.1].ext.signExtend 64) false x
      | 3 => readHalf (0x1010000 + inst) (s.enc[c.1].ext.signExtend 64) true x
      | 4 => (if c.isStep then none else some (Sys2Proof.Machine.word (tenthN s.obs[c.door.1].bClose)), x)
      | 5 => (if c.isStep then none else some (Sys2Proof.Machine.word (tenthN s.obs[c.door.1].bOpen)), x)
      | _ => (none, x)
  else if inst = 0 ∧ word = 0 then readHalf 0x1010000 (BitVec.ofNat 64 s.mill) false x
  else if inst = 0 ∧ word = 1 then readHalf 0x1010000 (BitVec.ofNat 64 s.mill) true x
  else (none, x)

/-- Read one word for a session (R378, R380). -/
def State.readWord (s : State) (addr : BitVec 32) (x : Session) : Option (BitVec 32) × Session :=
  let inst := addr.toNat / 2 ^ 16 % 256
  if addr.toNat / 2 ^ 24 = 1 then (s.statusWord inst (addr.toNat % 2 ^ 16), x)
  else if addr.toNat / 2 ^ 24 = 4 then s.measured inst (addr.toNat % 2 ^ 16) x
  else match counterAt addr with
    | none => (none, x)
    | some (inst, k) => readHalf (inst * 65536 + k) (s.counter64 inst k) (addr.getLsbD 0) x

/-- Read a run of words: an address that names nothing reads 0 and gives code 0x02. -/
def State.readRun (s : State) : Nat → BitVec 32 → Session → List Byte × Bool × Session
  | 0, _, x => ([], true, x)
  | n + 1, a, x =>
    let r := s.readWord a x
    let q := s.readRun n (a + 1) r.2
    (toLe 4 (r.1.getD 0).toNat ++ q.1, r.1.isSome && q.2.1, q.2.2)

/-- READ_WORDS (R378). -/
def execReadWords (t : Nat) (m : Msg) (addr : BitVec 32) (count : Nat) (s : State) : Out :=
  let s := s.at t
  .next (s.tally 0x10 m .configured fun s x =>
    if count = 0 || 256 < count then s.reply m 0x01 else
    let q := s.readRun count addr x
    (s.setSession q.2.2).reply m (if q.2.1 then 0x00 else 0x02) q.1)

/-- Records of a partition from a sequence number on, from the store and from intake (R342); one whose store ECC reports an uncorrectable
error counts as bad. -/
def State.recordsFrom (s : State) (p : Nat) (first : BitVec 48) (ecc : List (BitVec 48)) : List Record :=
  let store := (s.nv.part p).map fun r => { r with bad := r.bad || ecc.contains r.seq }
  (store ++ s.book.intake.filter fun r => r.body.part == p).filter fun r => decide (first.toNat ≤ r.seq.toNat)

/-- A record's bytes as they stand in the store: what its write put there, or what a write that was cut off left (R342, R348). -/
def Record.asStored (r : Record) : List Byte := if r.left.isEmpty then r.stored else r.left

/-- A record as it is returned: its error flag, then its bytes as stored. -/
def Record.returned (r : Record) : List Byte := (if r.bad then 1 else 0) :: r.asStored

/-- The first records of a list that fit whole in a byte limit. -/
def fitRecords : Nat → List Record → List Record
  | _, [] => []
  | room, r :: l => if r.returned.length ≤ room then r :: fitRecords (room - r.returned.length) l else []

/-- An uncorrectable read of the store: ECCERR and event 0x3D5. The spec lays no record out inside its partition, so its store address is a
free value (log 5). -/
def State.storeUncorrectable (s : State) : State :=
  let a := Config.freeValue s.free
  ({ s with free := s.free + 1, book := { s.book with eccErr := true } } : State).event 0x3D5 4 0 (a.setWidth 32) 0 0

/-- Partition number. -/
def Partition.number : Sys2Proof.Partition → Nat
  | .cycle => 0 | .event => 1 | .trace => 2

/-- READ_RECORDS (R342), within the payload of R370. DESIGN CHOICE: a record that no payload holds whole, a trace, is returned up to the
limit, as the rules give no part of it a place (log 48). -/
def execReadRecords (t : Nat) (m : Msg) (x : StoreRead) (first : BitVec 48) (limit : Nat) (s : State) : Out :=
  let s := s.at t
  let p := Partition.number x.part
  .next (s.tally 0x12 m .unconfigured fun s _ =>
    let room := min limit 1424
    let all := s.recordsFrom p first x.ecc
    let l := fitRecords room all
    let bytes := if l.isEmpty then (match all with | r :: _ => r.returned.take room | [] => []) else l.flatMap Record.returned
    let hit := l.filter fun r => x.ecc.contains r.seq && (s.nv.part p).any fun q => q.seq == r.seq
    (hit.foldl (fun (s : State) _ => s.storeUncorrectable) s).reply m 0x00 bytes)

/-- A stamp entry (Table 8-10). -/
def Stamp.bytes (x : Stamp) : List Byte :=
  toLe 8 x.mill ++ toLe 1 x.input ++ toLe 1 (x.level.toNat + 2 * x.tl.toNat + 4 * x.settle.toNat) ++ toLe 2 x.seq.toNat ++
  toLe 2 (min 65535 x.lost) ++ toLe 2 (min 65535 x.suppressed)

/-- READ_STAMPS (R247): whole entries, removed. -/
def execReadStamps (t : Nat) (m : Msg) (n : Nat) (s : State) : Out :=
  let s := s.at t
  .next (s.tally 0x13 m .configured fun s _ =>
    if n = 0 || 64 < n then s.reply m 0x01 else
    let l := s.io.stamps.take n
    { s with io := { s.io with stamps := s.io.stamps.drop n } }.reply m 0x00 (l.flatMap Stamp.bytes))

/-- A Hopper object as Tally returns it (Table 9-3). -/
def HObj.bytes (o : HObj) : List Byte :=
  toLe 4 (o.id.toNat + o.fd.toNat * 2 ^ 29 + o.brs.toNat * 2 ^ 30) ++ toLe 1 o.data.length ++
  toLe 1 (o.new.toNat + 2 * o.ovr.toNat + 4 * o.txPend.toNat) ++ [0, 0] ++ toLe 8 o.time ++ o.data ++
  List.replicate (64 - o.data.length) 0

/-- READ_HOPPER (R279): a receive object by the NEW procedure; nothing new is an empty answer. -/
def execReadHopper (t : Nat) (m : Msg) (b : BusId) (x : HopAt 128) (s : State) : Out :=
  let s := s.at t
  .next (s.tally 0x14 m .configured fun s _ =>
    if 12 ≤ x.obj.1 then s.reply m 0x02
    else
      let r := s.readObject b x.obj x.read
      match r.1 with
      | some o => r.2.reply m 0x00 (HObj.bytes { o with new := false })
      | none => r.2.reply m 0x00)

/-- READ_CAPTURE (R117): the recorded entries asked for, oldest first. -/
def execReadCapture (t : Nat) (m : Msg) (first count : Nat) (s : State) : Out :=
  let s := s.at t
  .next (s.tally 0x15 m .configured fun s _ =>
    if count = 0 || 128 < count then s.reply m 0x01 else
    let l := (s.capture.samples.reverse.drop first).take count
    s.reply m 0x00 (l.flatMap fun (e : Vector (BitVec 16) 4) => e.toList.flatMap fun w => toLe 2 w.toNat))

/-- Number of a kind of long operation in the answer to MAINT_STATUS. -/
def MaintKind.code : MaintKind → Nat
  | .service => 0 | .jog => 1 | .backdrive => 2 | .tenter => 3 | .slotVerify => 4 | .doorwayRestart => 5 | .imageSwitch => 6
  | .switchover => 7 | .millpondTest => 8 | .keyArea => 9

/-- MAINT_STATUS (R372): the last outcome of each kind: its number, its code, and the excursion of a back-drive test in sc (R176). -/
def execMaintStatus (t : Nat) (m : Msg) (s : State) : Out :=
  let s := s.at t
  .next (s.tally 0x16 m .configured fun s _ =>
    s.reply m 0x00 (s.maint.outcomes.flatMap fun (p : MaintKind × Nat) => toLe 1 p.1.code ++ toLe 1 (p.2 % 256) ++ toLe 2 (min 65535 (p.2 / 256))))

/-! ## Clear status (R50, R251, R256) -/

/-- A DO fault is released: the output follows its command again. -/
def State.clearDo (s : State) (n : Dout) : State :=
  if s.io.dout[n.1].fault || s.io.dout[n.1].faultSticky then
    (s.modDout n fun x => { x with fault := false, faultSticky := false, mismatch := none }).driveDo n
  else s

/-- A latched switch is released: it follows its command, its try count at zero. -/
def State.clearLs (s : State) (n : Ls) : State :=
  if s.io.ls[n.1].latched then (s.modLs n fun x => { x with latched := false, tries := 0, pause := none, ended := false }).driveLs n
  else s

/-- Drop a bit of a per-doorway mask. -/
def dropBit (w : BitVec 16) (d : Door) (v : Bool) : BitVec 16 := if v then w &&& ~~~((1#16) <<< d.1) else w

/-- Clear bits of a doorway's I/O word (Table 8-11). -/
def State.clearIo (s : State) (d : Door) (m : BitVec 32) : State :=
  let s := { s with io := { s.io with
    wbrk := dropBit s.io.wbrk d (m.getLsbD 12), wdeg := dropBit s.io.wdeg d (m.getLsbD 13)
    indet := dropBit s.io.indet d (m.getLsbD 14) } }
  let s := (List.finRange 2).foldl (fun (s : State) (k : Fin 2) => if m.getLsbD (18 + k.1) then s.clearDo (d.out k) else s) s
  (List.finRange 3).foldl (fun (s : State) (k : Fin 3) =>
    let s := if m.getLsbD (27 + k.1) then s.modLs (d.ls k) fun x => { x with openLd := false } else s
    if m.getLsbD (24 + k.1) then s.clearLs (d.ls k) else s) s

/-- Clear sticky bits of a status word by mask; none where its instance is not fitted. -/
def State.clearWord (s : State) (w : StatusWord) (m : BitVec 32) : Option State :=
  let door := fun (d : Door) (r : State) => if s.fitted d then some r else none
  let chan := fun (c : Ch) (r : State) => if s.chFitted c then some r else none
  match w with
  | .doorCycle d => door d (s.modCyc d (Cyc.clearBits m))
  | .obstacle d => door d (s.modObs d (Obs.clearBits m))
  | .drive d => door d (s.modDrv d (Drv.clearBits m))
  | .position c => chan c (s.modEnc c (Enc.clearBits m))
  | .millstone c => chan c (s.modSlot c (Slot.clearBits m))
  | .doorIo d => if s.half 16 d.1 then some (s.clearIo d m) else none
  | .safety g => some (s.modGrp g (Grp.clearBits m))
  | .bus b => some (s.modBus b (BusSt.clearBits m))
  | .moduleIo => some { s with io := { s.io with
      stLost := keep m 17 s.io.stLost, lsOvl := s.io.lsOvl &&& ~~~(m.extractLsb' 18 2)
      vdoSticky := s.io.vdoSticky &&& ~~~(m.extractLsb' 20 4) } }
  | .time => some { s with cal := s.cal.clearBits m }
  | .pair => some { s with pair := s.pair.clearBits m }
  | .millbook => some { s with book := s.book.clearBits m }

/-- CLEAR_STATUS (R50). -/
def execClearStatus (t : Nat) (m : Msg) (w : StatusWord) (mask : BitVec 32) (s : State) : Out :=
  let s := s.at t
  .next (s.tally 0x11 m .configured fun s _ =>
    match s.clearWord w mask with
    | some r => r.reply m 0x00
    | none => s.reply m 0x02)

/-! ## Service, jog, back-drive test (R176, R184, R369) -/

/-- A service request refused with a door reason code, which is counted (R164). -/
def State.refuseService (s : State) (m : Msg) (d : Door) (code : Nat) : State := (s.bump (0x61 + d.1) (code - 0x20 + 12)).reply m code

/-- What every activity that moves a leaf needs beside the doorway's token: the drive token, and no restart of the doorway (R369). -/
def State.moves (s : State) (code : Nat) (m : Msg) (d : Door) (body : State → State) : State :=
  s.tallyDoor code m d fun s =>
    if !s.pair.token then s.reply m 0x69
    else if s.cyc[d.1].restarting then s.reply m 0x03
    else body s

/-- SERVICE_ENTER (R184). -/
def execServiceEnter (t : Nat) (m : Msg) (d : Door) (s : State) : Out :=
  let s := s.at t
  .next (s.moves 0x20 m d fun s =>
    let ok := match s.cyc[d.1].state with
      | .closedLocked | .released | .unreferenced => s.zeroSpeed
      | _ => false
    if !ok then s.refuseService m d 0x30
    else ((((((s.goto d .service).releaseGov d.ch).endRefClose d).holdAt d 0).outcome .service 0)).reply m 0x00)

/-- SERVICE_LEAVE (R184): it starts a motion, so it is decided with the tick's other starts, in doorway order (R76). -/
def execServiceLeave (t : Nat) (m : Msg) (d : Door) (s : State) : Out :=
  let s := s.at t
  .next (s.moves 0x20 m d fun s => s.addCmd { door := d, kind := .leave, src := .tally, msg := some m })

/-- Largest jog argument of a channel. -/
def State.jogMax (s : State) (c : Ch) : Nat :=
  if c.isStep then s.cfg.step[c.door.1].ctl.jogSpeed else s.cfg.door[c.door.1].ctl.jogSpeed

/-- A door jog ends PROVEN and the back-drive result with it (R173); towards open from closed and locked it unlocks first (R184), without
an angle Align runs first (R187). -/
def State.jogDoor (s : State) (d : Door) (v : Int) : State :=
  let s := s.modCyc d fun y => { y with
    proven := false, prfB := 0, backing := false, backDl := none, backTest := none, unlockDl := none, startTick := none }
  let s := s.releaseGov d.ch
  if 0 < v ∧ s.closedRead d ∧ s.lockRead d then
    let s := (s.modCyc d fun y => { y with svc := .unlock v, unlockDl := some (s.ns + ms (s.cycCfg d).unlockTimeoutMs) }).pull d
    if s.hasAngle d then s.preload d else s.request d.ch .stopped 0
  else if s.hasAngle d then (s.modCyc d fun y => { y with svc := .jog v }).request d.ch .jog v
  else (s.modCyc d fun y => { y with svc := .align v }).request d.ch .align 0

/-- JOG (R184). A step without a reference moves only inwards (R38). DEDUCED: an outward jog of it, and a doorway's jog during its Tentering
run, have no row in Table 12-10; the first is refused for the state it needs, the second ends the run (log 26). -/
def execJog (t : Nat) (m : Msg) (c : Ch) (speed : Int) (s : State) : Out :=
  let s := s.at t
  .next (s.moves 0x21 m c.door fun s =>
    let d := c.door
    if !s.chFitted c then s.reply m 0x02
    else if s.cyc[d.1].state ≠ .service then s.reply m 0x60
    else if s.jogMax c < speed.natAbs then s.refuseService m d 0x32
    else if c.isStep && !s.enc[c.1].ref && decide (0 < speed) then s.reply m 0x60
    else
      let run := s.tentering d
      let s := s.endRun d
      let s := if !c.isStep then s.jogDoor d speed else (if run then s.holdAt d 0 else s).request c .jog speed
      (s.outcome .jog 0).reply m 0x00)

/-- BACKDRIVE_TEST (R176): the check of Table 6-5 once. It changes no state, so a back-drive result that PROVEN holds stays (R173). -/
def execBackdriveTest (t : Nat) (m : Msg) (d : Door) (s : State) : Out :=
  let s := s.at t
  .next (s.moves 0x22 m d fun s =>
    let y := s.cyc[d.1]
    if y.state ≠ .service || !s.closedRead d || !s.lockRead d then s.refuseService m d 0x33
    else if y.backing || y.backTest.isSome then s.reply m 0x07
    else if !s.hasAngle d then s.reply m 0x60
    else
      let s := (s.endRun d).modCyc d fun y => { y with
        svc := .idle, backTest := some m, backBad := false, excursion := 0, prfB := if y.proven then y.prfB else 0 }
      (s.request d.ch .backDrive (s.cycCfg d).backdriveN).reply m 0x00)

/-! ## Image slots (R358, R360, R361) -/

/-- Bytes of a slot. -/
def slotSize : Nat := 0xC00000

/-- SLOT_WRITE (R360): an offset that is a multiple of 64 KiB erases its sector first. -/
def execSlotWrite (t : Nat) (m : Msg) (slotB : Bool) (offset : Nat) (data : List Byte) (s : State) : Out :=
  let s := s.at t
  .next (s.tally 0x40 m .unconfigured fun s _ =>
    if data.isEmpty || 1024 < data.length || slotSize ≤ offset || slotSize < offset + data.length then s.reply m 0x01
    else match s.plugCode with
      | some c => s.reply m c
      | none =>
        if s.maint.booted = some slotB then s.reply m 0x64
        else if s.pair.restartAfter then s.reply m 0x65
        else
          let s := s.programSector
          let a := slotBase slotB + offset
          let mem := if offset % 0x10000 = 0 then Memory.erase s.nv.plug a 0x10000 else s.nv.plug
          let s := { s with nv := { s.nv with plug := Memory.writeBytes mem a data } }
          let again := match s.maint.refresh.region with | some r => r.1 == slotB.toNat | none => false
          let s := { s with maint := { s.maint with refresh := { s.maint.refresh with redo := s.maint.refresh.redo || again } } }
          ((s.setWriting slotB (some s.ns)).bump 0x80 19).reply m 0x00)

/-- SLOT_READ (R360). -/
def execSlotRead (t : Nat) (m : Msg) (slotB : Bool) (offset len : Nat) (s : State) : Out :=
  let s := s.at t
  .next (s.tally 0x41 m .unconfigured fun s _ =>
    if len = 0 || 1024 < len || slotSize < offset + len then s.reply m 0x01
    else if !s.maint.plugPresent then s.reply m 0x6D
    else s.reply m 0x00 (Memory.bytes s.nv.plug (slotBase slotB + offset) len))

/-- SLOT_VERIFY (R358, R360): answered at acceptance; its outcome is 0x00 or 0x63. -/
def execSlotVerify (t : Nat) (m : Msg) (slotB : Bool) (s : State) : Out :=
  let s := s.at t
  .next (s.tally 0x42 m .unconfigured fun s _ =>
    if !s.maint.plugPresent then s.reply m 0x6D
    else
      let r := s.verifySlot slotB
      ((r.2.setWriting slotB none).outcome .slotVerify (if r.1.isSome then 0x63 else 0)).reply m 0x00)

/-- SLOT_WRITE_IDLE_TIMEOUT (R360): 60 s without a write. -/
def execSlotWriteIdleTimeout (t : Nat) (slotB : Bool) (s : State) : Out :=
  let s := s.at t
  match s.maint.writing[slotB.toNat]?.getD none with
  | some x => if s.maint.failed || decide (s.ns < x + ms 60000) then .next s else .next (s.setWriting slotB none)
  | none => .next s

/-- PLUG_REMOVED (R361): the module goes on from RAM. -/
def execPlugRemoved (t : Nat) (s : State) : Out :=
  let s := s.at t
  if !s.maint.plugPresent then .next s
  else .next ({ s with maint := { s.maint with
      plugPresent := false, refresh := { s.maint.refresh with opened := none } } }.event 0x3F3 4 1 0 0 0)

/-- PLUG_REFITTED (R361): writes resume only if vehicle_id and every key_hash equal the values read at start. -/
def execPlugRefitted (t : Nat) (content : List (Nat × Byte)) (s : State) : Out :=
  let s := s.at t
  if s.maint.plugPresent then .next s
  else
    let plug := content.foldl (fun m (c : Nat × Byte) => Memory.write m c.1 c.2) []
    let s := { s with nv := { s.nv with plug := plug }, maint := { s.maint with plugPresent := true } }
    let same := match s.inForce with
      | some k =>
        let id := decodeIdentity (s.copyBytes k)
        id.vehicleId == s.maint.atStart.vehicleId && id.keyHash == s.maint.atStart.keyHash
      | none => s.maint.blank
    if same && !s.maint.plugDiffers then .next s
    else .next ({ s with maint := { s.maint with plugDiffers := true } }.event 0x3F3 4 2 0 0 0)

/-! ## Doorway restart (R37, R264, R362, R363) -/

/-- Code of the first condition against a doorway restart (R362, Table 12-10). -/
def State.restartRefusal (s : State) (d : Door) : Option Nat :=
  if s.maint.moduleTok.isSome then some 0x66
  else if s.pair.formed then some 0x68
  else if s.slotWriting s.inactive then some 0x65
  else if s.maint.restart.isSome then some 0x07
  else if s.tentering d then some 0x66
  else if s.cyc[d.1].state ≠ .service || !s.closedRead d || !s.lockRead d then some 0x60
  else if !s.zeroSpeed then some 0x61
  else s.plugCode

/-- The new sections of a doorway under check 6 against the running ones, then R224: 0x70 or 0xA3. -/
def State.sectionCode (s : State) (v : SlotView) (d : Door) (bucket : Bool) : Option Nat :=
  let g := v.section 0x03 (d.1 + 1)
  let rule := fun (k : Nat) (good : List Byte → Bool) => v.formOk s.nv.is2216 k (d.1 + 1) && good (v.section k (d.1 + 1))
  let ok := rule 3 (doorOk s.cfg.io d) && (!s.stepFitted d || rule 4 stepOk) && (!bucket || rule 5 bucketOk)
  if !ok then some 0x70
  else
    let o := (decodeDoor g 0).obs
    if o.edgeFilter ≠ s.cfg.bedstone.edgeFilter[d.1] ∨ o.edgeDiscMs ≠ s.cfg.bedstone.edgeDisc[d.1] then some 0xA3 else none

/-- The outputs of a doorway stand at their programmed safe states, the lock solenoid off (R264). -/
def State.holdOutputs (s : State) (d : Door) : State :=
  let s := (List.finRange 2).foldl (fun (s : State) (k : Fin 2) => s.modDout (d.out k) fun x =>
    let x := { x with fault := false, faultSticky := false, mismatch := none }
    let put := fun (p : DoPin) => if x.pin = p then x else { x with pin := p, blank := s.ns + 500000 }
    match s.cfg.io.dout[(d.out k).1].safe with
    | 0 => put .off
    | 1 => put .on
    | _ => x) s
  let s := (List.finRange 3).foldl (fun (s : State) (k : Fin 3) => s.modLs (d.ls k) fun x =>
    let x := { x with latched := false, tries := 0, pause := none, ended := false, openLd := false, openCond := false }
    match s.cfg.ls.sw[(d.ls k).1].safe with
    | 0 => { x.settle s.ns with on := false, active := 0 }
    | 1 => { x.settle s.ns with on := true, active := 1000 }
    | _ => x) s
  s.modLs (s.lockLs d) fun x => { x.settle s.ns with cmd := false, on := false, active := 0, shadow := 0 }

/-- The inputs of a doorway begin their filters anew on Miller's path (R240, R363); Runner and Bedstone take nothing from Miller but PROVEN
(R202). -/
def State.restartInputs (s : State) (d : Door) : State :=
  let s := (List.finRange 12).foldl (fun (s : State) (k : Fin 12) => s.modFi (d.fi k) fun x => { x with
    c := 0, given := 0, filtered := false, value := false, valid := false, edge := false }) s
  { s with io := { s.io with
    wbrk := dropBit s.io.wbrk d true, wdeg := dropBit s.io.wdeg d true, indet := dropBit s.io.indet d true } }

/-- A slot of a stopped and reloaded channel: its mode and states at their start, the image's coefficients; the angle of an Align lasts
until power is removed (R187), and the count of the last latch, kept by the engine (R26), is no change (R94). -/
def State.reloadSlot (s : State) (c : Ch) : State :=
  let g := s.imageCoef c
  let e := s.enc[c.1]
  s.modSlot c fun x => {
    coef := g, highWater := x.highWater, alignCount := x.alignCount, idxCount := x.idxCount, vCount := e.latched
    vTime := match e.edgeAt with | some t => unit20 t | none => 0 }

/-- Registers and programs of a doorway are loaded, its sticky bits released (R363 steps 2 and 3). DRIFT and PLAUSSC stay in force (R136,
R139), and a commit goes on; a trace that is not complete is discarded (R340). DEDUCED: the largest correction of R40 is kept, its restart
being that of the module (log 15). -/
def State.reloadDoor (s : State) (d : Door) : State :=
  let all : BitVec 32 := BitVec.allOnes 32
  let s := (s.releaseGov d.ch).releaseGov d.step
  let s := ((s.modEnc d.ch (Enc.clearBits all)).modEnc d.step (Enc.clearBits all)).modDrv d (Drv.clearBits all)
  let s := s.modEnc d.ch fun e => { e with ref := false, refClose := false }
  let s := s.modEnc d.step fun e => { e with ref := false, refClose := false }
  let s := ((s.reloadSlot d.ch).reloadSlot d.step).modCmp d fun _ => {}
  let s := s.modObs d fun o => {
    latch := o.latch, reqRunner := o.reqRunner, reqBed := o.reqBed, edgeFltR := o.edgeFltR, edgeFltB := o.edgeFltB
    bClose := o.bClose, bOpen := o.bOpen, temp := o.temp, drift := o.drift, plausSc := o.plausSc, plausClean := o.plausClean
    takeUp := o.takeUp, sending := o.sending, commit := o.commit, chunks := o.chunks }
  let s := s.modCyc d fun y => { y with
    lockFlt := false, stepFlt := false, sol := .off, proven := false, svc := .idle, backing := false, backDl := none
    backTest := none, unlockDl := none }
  let ring := { s.book.rings[d.1] with pending := [] }
  { s with
    maint := { s.maint with enginesStopped := s.maint.enginesStopped.set d.1 0 }
    book := { s.book with rings := s.book.rings.set d.1 ring } }

/-- Load a doorway's new sections into the running image. -/
def State.loadSections (s : State) (v : SlotView) (d : Door) (bucket : Bool) : State :=
  let crc := fun (k : Nat) => match v.find k (d.1 + 1) with | some e => e.crc | none => 0
  let g := decodeDoor (v.section 0x03 (d.1 + 1)) (crc 3)
  let st := if s.stepFitted d then decodeStep (v.section 0x04 (d.1 + 1)) (crc 4) else s.cfg.step[d.1]
  let bk := if bucket then decodeBucket (v.section 0x05 (d.1 + 1)) else s.cfg.bucket[d.1]
  { s with cfg := { s.cfg with door := s.cfg.door.set d.1 g, step := s.cfg.step.set d.1 st, bucket := s.cfg.bucket.set d.1 bk } }

/-- Live writes that wait on a doorway's two channels. -/
def State.waitingWrites (s : State) (d : Door) : Nat := s.slot[d.ch.1].pending.length + s.slot[d.step.1].pending.length

/-- DOORWAY_RESTART (R362, R363 steps 1 to 3). The answer tells the session how many of its pending live writes are discarded (R110,
log 48). -/
def execDoorwayRestart (t : Nat) (m : Msg) (d : Door) (bucket : Bool) (s : State) : Out :=
  let s := s.at t
  .next (s.tallyDoor 0x43 m d fun s =>
    match s.restartRefusal d with
    | some c => s.reply m c
    | none =>
      let v := s.slotView s.inactive
      match v.checks15 s.maint.identity with
      | some x => ((s.event 0x3F0 4 3 (BitVec.ofNat 32 x.1) (BitVec.ofNat 32 x.2) 0).outcome .doorwayRestart 0x63).reply m 0x00
      | none =>
        match s.sectionCode v d bucket with
        | some c => ((s.bumpIf (c == 0xA3) 0x80 10).outcome .doorwayRestart c).reply m 0x00
        | none =>
          let old := s.cfg.door[d.1].crc
          let lost := s.waitingWrites d
          let s := s.modCyc d fun y => { y with restarting := true }
          let s := ((s.endCaptureOn d).holdOutputs d).settlePairs d
          let s := ((s.loadSections v d bucket).reloadDoor d).restartInputs d
          let s := (s.selectCal d).bump (0x61 + d.1) 35
          let s := s.doorEvent d 44 2 0 old s.cfg.door[d.1].crc (if s.stepFitted d then s.cfg.step[d.1].crc else 0)
          { s with maint := { s.maint with restart := some d } }.reply m 0x00 (toLe 1 lost))

/-- Every input of a doorway has been given L + 4 samples (R240). -/
def State.inputsValid (s : State) (d : Door) : Bool := (List.finRange 12).all fun k => s.fiValid (d.fi k)

/-- R37 on a doorway: the door channel, and the step channel with the step's first state. A step whose retracted input does not read
active starts in STEP_FAULT, as R323 has it. DESIGN CHOICE: that start is no failed motion, so it sets no STEPFLT, is not counted and raises
no event (log 15). -/
def State.referenceDoor (s : State) (d : Door) : State :=
  let e := s.enc[d.ch.1]
  let s := if s.closedRead d && s.lockRead d && !e.lineBad && !e.supplyBad then s.takeReference d.ch else s
  if !s.stepFitted d then s
  else
    let e := s.enc[d.step.1]
    let s := if s.stepRetRead d && !s.stepExtRead d && !e.lineBad && !e.supplyBad then s.takeReference d.step else s
    if s.stepRetRead d then s.stepRetracted d
    else (s.modCyc d fun y => { y with step := .fault, stepDl := none, stepStart := none, stepHold := none }).request d.step .hold 0

/-- DOORWAY_RESTART_COMPLETE (R363 step 4). -/
def execDoorwayRestartComplete (t : Nat) (d : Door) (s : State) : Out :=
  let s := s.at t
  if s.maint.failed || s.maint.restart ≠ some d || !s.cyc[d.1].restarting || !s.inputsValid d then .next s
  else
    let s := { s with maint := { s.maint with restart := none } }.modCyc d fun y => { y with restarting := false }
    let s := s.referenceDoor d
    let s := if s.enc[d.ch.1].ref then s.holdAt d 0 else s.toUnreferenced d
    let s := (List.finRange 2).foldl (fun (s : State) (k : Fin 2) => s.driveDo (d.out k)) s
    let s := (List.finRange 3).foldl (fun (s : State) (k : Fin 3) => s.driveLs (d.ls k)) s
    let s := (s.settlePairs d).outcome .doorwayRestart 0
    .next (if s.maint.doorTok[d.1].isNone then s.serviceLost d else s)

/-! ## Image switch and switchover test (R322, R365, R366) -/

/-- A doorway token is held. -/
def State.anyDoorTok (s : State) : Bool := s.maint.doorTok.toList.any Option.isSome

/-- Every fitted doorway is CLOSED_LOCKED, or ISOLATED closed and locked (R365). -/
def State.allClosed (s : State) : Bool := (List.finRange 16).all fun d =>
  !s.fitted d || s.cyc[d.1].state == .closedLocked || (s.cyc[d.1].state == .isolated && s.closedRead d && s.lockRead d)

/-- A planned handover requested over Tally is refused (R322). -/
def State.handoverRefused (s : State) : Bool :=
  !s.pair.formed || !s.partnerReady || s.maint.tenter.isSome ||
  (List.finRange 16).any fun d => s.fitted d && (match s.cyc[d.1].state with
    | .unlocking | .locking | .proving | .service => true
    | _ => false)

/-- The conditions of an image switch before its verification: a code, or whether it goes by a planned handover (R365, R366). -/
def State.switchRefusal (s : State) : Option Nat :=
  if s.maint.restart.isSome then some 0x07
  else if s.anyDoorTok then some 0x66
  else if !s.depot then some 0x62
  else if !s.zeroSpeed then some 0x61
  else if s.slotWriting s.inactive then some 0x65
  else match s.plugCode with
    | some c => some c
    | none =>
      if s.pair.formed && !s.pair.token then none
      else if s.pair.formed && s.pair.backLink then (if s.handoverRefused then some 0x67 else none)
      else if s.allClosed then none else some 0x60

/-- IMAGE_SWITCH (R365, R366). It is answered at acceptance; a slot that then fails its verification ends it with outcome 0x63 (R372). -/
def execImageSwitch (t : Nat) (m : Msg) (s : State) : Out :=
  let s := s.at t
  .next (s.tally 0x44 m .configured fun s _ =>
    if s.maint.moduleTok ≠ some m.session then s.reply m 0x05
    else match s.switchRefusal with
      | some c => (s.bumpIf (c == 0x67) 0x84 7).reply m c
      | none =>
        let r := s.verifySlot s.inactive
        if r.1.isSome then (r.2.outcome .imageSwitch 0x63).reply m 0x00
        else if s.pair.formed && s.pair.token && s.pair.backLink then
          ((s.modPair fun p => { p with restartAfter := true }).requestHandover).reply m 0x00
        else s.replyThen m State.finishSwitch)

/-- SWITCHOVER_TEST (R322). -/
def execSwitchoverTest (t : Nat) (m : Msg) (s : State) : Out :=
  let s := s.at t
  .next (s.tally 0x45 m .configured fun s _ =>
    if s.maint.moduleTok ≠ some m.session then s.reply m 0x05
    else if !s.pair.token then s.reply m 0x69
    else if s.anyDoorTok then s.reply m 0x66
    else if s.handoverRefused then ((s.bump 0x84 7).outcome .switchover 0x67).reply m 0x67
    else (s.requestHandover.outcome .switchover 0).reply m 0x00)

/-- CALENDAR_SET (R298): only while holdover is the only valid source. -/
def execCalendarSet (t : Nat) (m : Msg) (sec : BitVec 32) (us : Nat) (s : State) : Out :=
  let s := s.at t
  .next (s.tally 0x47 m .configured fun s _ =>
    if 1000000 ≤ us then s.reply m 0x01
    else if s.bestSrc ≠ .holdover then (s.bump 0x80 14).reply m 0x83
    else
      let o : Int := ((sec.toNat * 1000000 + us : Nat) : Int) - s.cal.now s.ns
      let s := s.stepCalendar o 0x37E
      { s with cal := { s.cal with byTally := true } }.reply m 0x00)

/-! ## Identity and key area (R371, R373) -/

/-- IDENTITY_READ (R373): tally_key reads as zeros. -/
def execIdentityRead (t : Nat) (m : Msg) (copy : Fin 2) (offset len : Nat) (s : State) : Out :=
  let s := s.at t
  .next (s.tally 0x48 m .blank fun s _ =>
    if len = 0 || 1024 < len || 4096 < offset + len then s.reply m 0x01
    else if !s.maint.plugPresent then s.reply m 0x6D
    else s.reply m 0x00 (slice (putBytes (s.copyBytes copy) 0x1C (List.replicate 32 0)) offset len))

/-- Code against a key area request: it needs, on an area that is not blank, the module token and depot mode, and a plug that can be
written. -/
def State.keyCode (s : State) (m : Msg) : Option Nat :=
  if !s.maint.blank && s.maint.moduleTok != some m.session then some 0x05
  else if !s.maint.blank && !s.depot then some 0x62
  else s.plugCode

/-- KEY_AREA_STAGE (R373). -/
def execKeyAreaStage (t : Nat) (m : Msg) (offset : Nat) (data : List Byte) (s : State) : Out :=
  let s := s.at t
  .next (s.tally 0x49 m .blank fun s x =>
    match s.keyCode m with
    | some c => s.reply m c
    | none =>
    if offset % 1024 ≠ 0 || 4096 ≤ offset || data.length ≠ 1024 then s.reply m 0x01
    else (s.setSession { x with staged := mapPut (offset / 1024) data x.staged, stagedAt := s.ns }).reply m 0x00)

/-- The staged copy, once all four segments are there. -/
def Session.copy (x : Session) : Option (List Byte) :=
  match mapGet 0 x.staged, mapGet 1 x.staged, mapGet 2 x.staged, mapGet 3 x.staged with
  | some a, some b, some c, some d => some (a ++ b ++ c ++ d)
  | _, _, _, _ => none

/-- Code against a staged copy (R371, R373), none where it is accepted. -/
def State.commitCode (s : State) (copy : Option (List Byte)) (key sig : List Byte) : Option Nat :=
  match copy with
  | none => some 0x01
  | some l =>
    if leAt l 0xFFC 4 ≠ (crc32c (l.take 0xFFC)).toNat then some 0x01
    else
      let newer := match s.inForce with | some k => decide (leAt (s.copyBytes k) 4 4 < leAt l 4 4) | none => true
      let signed := if s.maint.blank then (decodeIdentity l).keyHash.toList.any fun h => h.any (· != 0)
        else s.maint.identity.trusts key && Config.ed25519 key sig l
      if newer && signed then none else some 0x6E

/-- Code of the first check against a commit (R20, R371, R373). -/
def State.commitRefusal (s : State) (m : Msg) (copy : Option (List Byte)) (key sig : List Byte) : Option Nat :=
  match s.keyCode m with
  | some c => some c
  | none => if key.length ≠ 32 || sig.length ≠ 64 then some 0x01 else s.commitCode copy key sig

/-- The older copy is written; the first one onto a blank area restarts the module (R371). -/
def State.commitCopy (s : State) (m : Msg) (l : List Byte) : State :=
  let first := s.maint.blank
  let s := ((s.writeCopy s.olderCopy l).event 0x3F8 2 0 (BitVec.ofNat 32 (leAt l 4 4)) 0 0).outcome .keyArea 0
  if first then s.replyThen m State.restartModule else s.reply m 0x00

/-- KEY_AREA_COMMIT (R371, R373): accepted or refused, it takes the staged copy; 0x71 where the write fails. -/
def execKeyAreaCommit (t : Nat) (m : Msg) (key : CommitKey) (sig : List Byte) (s : State) : Out :=
  let s := s.at t
  .next (s.tally 0x49 m .blank fun s x =>
    let copy := x.copy
    let s := s.setSession { x with staged := [], stagedAt := s.ns }
    match s.commitRefusal m copy key.bytes sig, key.failed with
    | some c, _ => (s.outcome .keyArea c).reply m c
    | none, some left => ((s.leaveCopy s.olderCopy left).outcome .keyArea 0x71).reply m 0x71
    | none, none => s.commitCopy m (copy.getD []))

/-- KEY_STAGE_TIMEOUT (R373): 60 s without a stage or commit request. -/
def execKeyStageTimeout (t : Nat) (session : BitVec 32) (s : State) : Out :=
  let s := s.at t
  match s.session session with
  | none => .next s
  | some x => if s.maint.failed || decide (s.ns < x.stagedAt + ms 60000) then .next s else .next (s.setSession { x with staged := [] })

/-! ## What stops an engine or Miller (R382, R383), and the service port's other frames (R370) -/

/-- BUCKET_PROGRAM_PARITY (R382): CUR and PWM-S act under R89; any other engine puts its doorway in FAULT_HELD with cause 3. -/
def execBucketProgramParity (t : Nat) (d : Door) (role : Fin 12) (s : State) : Out :=
  let s := s.at t
  if !s.fitted d || !s.engineRuns d role then .next s
  else
    let stopped := s.maint.enginesStopped[d.1] ||| ((1#12) <<< role.1)
    let s := { s with maint := { s.maint with enginesStopped := s.maint.enginesStopped.set d.1 stopped } }
    let s := (s.bump 0x80 26).doorEvent d 30 4 3 (BitVec.ofNat 32 role.1) 0 0
    if role = 2 ∨ role = 3 then .next s else .next (s.faultHeld d 3)

/-- MILLER_RAM_DOUBLE_ERROR (R383): Miller stops and its heartbeats end; Sluice takes the safe state at the heartbeat timeout of
R12 (SLUICE_HEARTBEAT_LOSS). -/
def execMillerRamDoubleError (t : Nat) (s : State) : Out :=
  let s := s.at t
  .next { s with maint := { s.maint with failed := true } }

/-- ARP_AND_ICMP_ECHO (R370): answered once step 3 is over. -/
def execArpAndIcmpEcho (t : Nat) (s : State) : Out :=
  let s := s.at t
  if s.tallyOpen then .next { s with maint := { s.maint with echoAt := some s.ns } } else .next s

/-- FRAGMENTED_DATAGRAM (R370). -/
def execFragmentedDatagram (t : Nat) (s : State) : Out := .next (s.at t).dropDatagram

end Sys2Proof.Machine
end

