-- ==== Sys2Proof/Machine/Startup.lean ====
section
/-!
DEFINITION. Sys2Proof/Machine/Startup.lean: start-up (R352-R355): power-on reset with steps 1 to 5, and the acceptance of the
configuration, which ends step 6 and begins steps 7 and 8.
-/
namespace Sys2Proof.Machine

/-! ## Step 1: Millbook and the calendar (R298, R331, R339, R348, R379) -/

/-- Every record of the store. -/
def NonVol.records (v : NonVol) : List Record := v.cycles ++ v.events ++ v.traces

/-- A copy of a fixed area fails its CRC-32C at start (R339). -/
def NonVol.spoil (v : NonVol) (x : AreaId × Bool) : NonVol :=
  match x.1 with
  | .checkpoint => { v with checkpoint := v.checkpoint.spoil x.2 }
  | .counters => { v with counters := v.counters.spoil x.2 }
  | .cal d => { v with cal := v.cal.set d.1 (v.cal[d.1].spoil x.2) }
  | .bias d => { v with bias := v.bias.set d.1 (v.bias[d.1].spoil x.2) }

/-- The record whose write-through was cut off stays as its write left it, with a CRC that fails (R348). -/
def NonVol.cutOff (v : NonVol) (left : Option (List Byte)) : NonVol :=
  let w := { v with torn := none }
  match v.torn, left with
  | some (p, q), some l => w.setPart p ((v.part p).map fun r => if r.seq = q then { r with bad := true, left := l } else r)
  | _, _ => w

/-- Highest sequence number of a valid record, and of the checkpoint's next number less one. -/
def NonVol.lastSeq (v : NonVol) : Option (BitVec 48) :=
  let top := (v.records.filter fun r => !r.bad).foldl (fun (a : Option Nat) r =>
    match a with | some x => some (max x r.seq.toNat) | none => some r.seq.toNat) none
  let cp := v.checkpoint.value.map fun x => x.nextSeq.toNat - 1
  match top, cp with
  | some a, some b => some (BitVec.ofNat 48 (max a b))
  | some a, none => some (BitVec.ofNat 48 a)
  | none, some b => some (BitVec.ofNat 48 b)
  | none, none => none

/-- Calendar time of the last valid record. -/
def NonVol.lastTime (v : NonVol) : Nat :=
  ((v.records.filter fun r => !r.bad).foldl (fun (a : Nat × Nat) r => if a.1 ≤ r.seq.toNat then (r.seq.toNat, r.calUs) else a) (0, 0)).2

/-- What Millbook takes up at power-on: of each fixed area the valid copy with the higher generation (R339). -/
def State.openBook (s : State) (b : BootIn) : State :=
  let nv := (b.badCopies.foldl NonVol.spoil s.nv).cutOff b.cut
  let cp := nv.checkpoint.value
  { s with
    counters := nv.counters.value.getD []
    cal := { s.cal with us := nv.lastTime }
    book := { s.book with
      intakeOpen := true, nextSeq := match nv.lastSeq with | some x => x + 1024 | none => 0, pfStart := nv.powerFailed
      bootCount := (match cp with | some c => c.bootCount | none => 0) + 1
      acceptedS := cp.bind Checkpoint.acceptedS, pondTest := cp.bind Checkpoint.pondTest }
    nv := { nv with powerFailed := false } }

/-- Each record that a cut-off write left raises its event, with its partition and sequence number (R348). -/
def State.incompletes (s : State) : State :=
  let l := s.nv.records.filter fun r => r.bad
  let s := { s with book := { s.book with incomp := s.book.incomp || !l.isEmpty } }
  l.foldl (fun (s : State) r => s.event 0x3D4 3 (r.body.part + 1) (r.seq.setWidth 32) 0 0) s

/-- The store at power-on (R343-R345): not fitted by the configuration, absent, or charged and tested. -/
def State.startPond (s : State) (present : Bool) : State :=
  if !s.cfg.recorder.fitted then s.setPond .notFitted
  else if present then s.fitPond false
  else s.setPond .absent

/-! ## Step 3: the identity area and the slot (R356, R359) -/

/-- The sector of a journal entry that stands open at start, before a slot is verified (R367). -/
def State.openEntry (s : State) : Option Nat := if s.maint.plugPresent then s.journal else none

/-- Its completion from the scratch sector is recorded, after the module start record (R331). -/
def State.journalEvent (s : State) (entry : Option Nat) : State :=
  match entry with
  | some off => (s.bump 0x80 21).event 0x3F4 3 0 (BitVec.ofNat 32 off) 0 0
  | none => s

/-- Read the identity and key area; with no valid copy it counts as blank. -/
def State.readIdentity (s : State) : State :=
  match (if s.maint.plugPresent then s.inForce else none) with
  | some k =>
    let id := decodeIdentity (s.copyBytes k)
    { s with maint := { s.maint with blank := false, identity := id, atStart := id } }
  | none => { s with maint := { s.maint with blank := true, identity := Identity.blank, atStart := Identity.blank } }

/-- The slot that boots, and whether it is a fall-back. -/
def State.selectSlot (s : State) : Option (Bool × Bool) :=
  let ok := fun (b : Bool) => ((s.slotView b).verify s.nv.is2216 s.maint.identity).isNone
  let a := s.maint.identity.activeB
  if s.maint.blank then none
  else if ok a then some (a, false)
  else if ok !a then some (!a, true)
  else none

/-- The failure of step 3: the refusals of the slots that were verified, or a blank area or absent plug, with which every image is refused and
no check of R358 is made (R354, R356). -/
def State.slotEvents (s : State) : State :=
  if s.maint.blank then s.event 0x3F0 4 3 0 0 0
  else
    let a := s.maint.identity.activeB
    let r := s.verifySlot a
    if r.1.isNone then s else (r.2.verifySlot !a).2

/-! ## Steps 4 and 5 -/

/-- Bedstone latches its block and checks it (R9). -/
def State.latchBlock (s : State) : State :=
  let ok := s.cfg.bedstone.crcOk
  let s := { s with safety := { s.safety with blockLatched := true, blockOk := ok } }
  if ok then s else s.event 0x3F0 4 4 0 0 0

/-- Millstone's registers are loaded, the biases restored and the calibration selected (R137, R148). -/
def State.loadRegisters (s : State) : State :=
  let s := s.eachCh fun s c => let g := s.imageCoef c; s.modSlot c fun x => { x with coef := g }
  s.eachDoor fun s d =>
    if !s.fitted d then s
    else
      let b := (s.nv.bias[d.1].value).getD (0, 0)
      (s.modObs d fun o => { o with bClose := b.1, bOpen := b.2 }).selectCal d

/-- The slot booted is in force: its image in RAM, counted, a fall-back recorded (R7, R359). -/
def State.bootSlot (s : State) (b fall : Bool) : State :=
  let s := s.bump 0x80 (if b then 17 else 16)
  if fall then (s.bump 0x80 18).event 0x3F1 4 0 (BitVec.ofNat 32 b.toNat) 0 0 else s

/-- The image of a slot becomes the running configuration. -/
def State.takeImage (s : State) (b fall : Bool) : State :=
  { s with cfg := (s.slotView b).image s.nv.is2216, maint := { s.maint with booted := some b, fallback := fall } }

/-- Steps 1 to 5 with a slot, or up to step 3 without one. The module start record is the first one (R331). A module whose image has
no pair takes the token at once, so that its inputs are fed when step 6 samples them (R305, R213). -/
def State.startSteps (s : State) (store : Bool) : State :=
  let s := { s with safety := { s.safety with running := true }, maint := { s.maint with step := 3 } }
  let entry := s.openEntry
  let s := (if entry.isSome then s.finishJournal else s).readIdentity
  let pick := s.selectSlot
  let s1 := match pick with | some (b, fall) => s.takeImage b fall | none => s
  let gen := match pick with | some _ => s1.cfg.generation | none => 0
  let slotNo : BitVec 32 := match pick with | some (b, _) => BitVec.ofNat 32 b.toNat | none => 0
  let fallNo : BitVec 32 := match pick with | some (_, fall) => BitVec.ofNat 32 fall.toNat | none => 0
  let s1 := ((s1.event 0x300 1 0 slotNo gen fallNo).journalEvent entry).incompletes
  let s1 := (s1.startPond store).slotEvents
  match pick with
  | none => s1
  | some (b, fall) =>
    let s1 := ((s1.bootSlot b fall).latchBlock).loadRegisters
    let s1 := { s1 with maint := { s1.maint with step := 5 } }
    if s1.cfg.pair.enable then s1 else s1.aloneToken

/-- POWER_ON_RESET (R352-R354): the module starts, with the checks of step 2 and the plug, strap and lines as found. A module that is
not in reset already has lost its power. -/
def execPowerOnReset (b : BootIn) (s : State) : Out :=
  let s := if s.maint.step = 1 && !s.maint.failed then s.renew else s.unpowered
  let s := { s with
    pair := { s.pair with posB := b.posB, posRead := true, tokIn := b.tokIn }
    maint := { s.maint with plugPresent := b.plugPresent } }
  let s := s.openBook b
  if !(b.millerRomOk && b.millerRamOk && b.runnerRomOk && b.runnerRamOk) then
    let s := (s.event 0x300 1 0 0 0 0).event 0x3F0 4 2 0 0 0
    .next { s with maint := { s.maint with failed := true } }
  else .next (s.startSteps b.storePresent)

/-! ## Acceptance (R353, R355) -/

/-- First state of a fitted doorway (R355). -/
def State.firstState (s : State) (d : Door) : State :=
  if !s.fitted d then s
  else
    let s := s.referenceDoor d
    if s.keyOperated d then s.goto d .isolated
    else if s.handleOperated d then (s.goto d .faultHeld).modCyc d fun y => { y with fcause := 5 }
    else if s.enc[d.ch.1].ref then s.proveAnew d
    else s.toUnreferenced d

/-- The inputs of every fitted doorway have been given L + 4 samples (R240). -/
def State.allInputsValid (s : State) : Bool := (List.finRange 16).all fun d => !s.fitted d || s.inputsValid d

/-- Steps 7 and 8 begin (R352); a module alone drives its outputs and pairs from here (R12, R64). -/
def State.startNetworks (s : State) : State :=
  let s := (s.startBus 0).startBus 1
  let s := s.modPair fun p => { p with formAt := some s.ns, desigAt := s.ns, arbAt := s.ns }
  if s.cfg.pair.enable then s.setPState .forming else (((s.setPState .alone).aloneToken).driveAll).eachDoor fun s d => s.settlePairs d

/-- CONFIGURATION_ACCEPTED (R353): the end of step 6. -/
def execConfigurationAccepted (t : Nat) (s : State) : Out :=
  let s := s.at t
  if s.maint.booted.isNone || s.maint.step ≠ 5 || s.maint.failed || !s.allInputsValid then .next s
  else
    let s := { s with
      maint := { s.maint with configured := true, step := 6 }
      sluice := { s.sluice with holding := false, latched := true, lastBeat := s.ns }
      safety := { s.safety with toggledAt := s.ns }
      tele := { s.tele with lastAccept := s.ns } }
    .next (s.eachDoor State.firstState).startNetworks

end Sys2Proof.Machine
end

