-- ==== Sys2Proof/Machine/Tick.lean ====
section
/-!
DEFINITION. Sys2Proof/Machine/Tick.lean: the control period (R10, R85): what one mill tick does, in the order of its phases.
-/
namespace Sys2Proof.Machine

/-- The drive gap of a takeover (R324): until 30 µs after TOK-OUT the modes in force are kept. -/
def State.inGap (s : State) : Bool := match s.pair.tookAt with | some x => decide (s.ns < x + 30000) | none => false

/-- The module follows its partner's stream: a pair's module without the token (R311). -/
def State.follows (s : State) : Bool := s.pair.formed && !s.pair.token && (s.pair.pstate.standby || s.pair.pstate == .split)

/-- Phase 0: the modes of every channel (R10, R92). A standby takes them from the stream; in SPLIT, where there is none, it keeps them (R311,
R313). -/
def State.latchModes (s : State) : State :=
  if s.follows then (if s.pair.pstate = .split then s.splitTick else s.trackStream)
  else if s.inGap then s
  else s.eachCh fun s c => if s.chFitted c then s.latchMode c else s

/-- Housekeeping of a period (R91), and the corrected errors of Miller RAM and Runner RAM (R381). Table 13-4 gives the count of the latter no
address, so it is kept where no address reads it (log 35). -/
def State.housekeep (s : State) (x : TickIn) : State :=
  let s := { s with housekeepingHigh := max s.housekeepingHigh x.housekeeping }.bump 0x80 0
  let s := (List.replicate x.ramFixed ()).foldl (fun (s : State) _ => s.bump 0x80 25) s
  (List.replicate x.runnerFixed ()).foldl (fun (s : State) _ => s.bump 0x180 25) s

/-- A period before the configuration is accepted: no channel is configured, so every slot is wasted, and the period counts
(R88, R91). -/
def State.emptyPeriod (s : State) (x : TickIn) : State :=
  (s.eachCh fun s c => s.account c .wasted (slotCycles c x)).housekeep x

/-- Phases 0 to 125 µs of Millstone: latch, 32 slots, output transfer, capture (R10, R85-R91). -/
def State.millstone (s : State) (x : TickIn) : State :=
  let s := s.eachDoor fun s d => if s.fitted d then s.takeUpTick d else s
  let s := s.eachCh State.ownedTick
  let s := s.latchModes.traceTick.captureCheck
  let s := s.eachCh (State.runSlot x)
  let s := (s.eachCh (State.transfer x)).captureTick
  s.housekeep x

/-- Drive stage and measured quantities of a period. -/
def State.driveTick (s : State) (x : TickIn) : State :=
  let s := s.eachCh fun s c => if s.chFitted c then s.scheduleClear c else s
  let s := s.eachDoor fun s d => if s.fitted d then (s.dvTick d).releaseBrake d else s
  let s := x.temp.foldl (fun (s : State) (p : Door × Int) => s.modObs p.1 fun o => { o with temp := p.2 }) s
  s.measureDemand x.demandW

/-- Miller at a tick: the doorways where this module decides (R312), outputs, a learning run, the calendar and the plug's refresh. -/
def State.millerTick (s : State) : State :=
  if s.maint.failed then s
  else
    let s := if s.follows then s else s.eachDoor State.doorTick
    s.functionTick.tenterTick.timeReview.refreshTick.dropCounts

/-- One period of an accepted module. -/
def State.period (s : State) (x : TickIn) : State :=
  let s := ((s.millstone x).driveTick x).loopTick
  (s.millerTick.arbTick.intakeTick).fantailTick

/-- Phase 0 (R10): outputs of the period before are in effect, and every input is latched. -/
def State.phase0 (s : State) : State := ((s.eachDoor State.outputsDue).latchInputs).eachCh State.latchCh

/-- LV at a tick (R346). -/
def State.lvTick (s : State) (low : Bool) : State :=
  { s with book := { s.book with lvLowAt := if low then some (s.book.lvLowAt.getD s.ns) else none } }

/-- MILL_TICK (R10): what has reached Miller in the period that ends is decided (R162), and the next one starts, at the next multiple of
125 µs on the mill clock (R16). -/
def execMillTick (x : TickIn) (s : State) : Out :=
  let s := s.decideTick.dropCounts
  let s := ((s.at ((s.ns / 125000 + 1) * 125000)).lvTick x.lvLow).phase0
  .next (if s.maint.configured then s.period x else (s.emptyPeriod x).intakeTick)

end Sys2Proof.Machine
end

