-- ==== Sys2Proof/Machine/Dispatch.lean ====
section
/-!
DEFINITION. Sys2Proof/Machine/Dispatch.lean: one arm per command, each a direct call of its meaning.
-/
namespace Sys2Proof.Machine

/-- The effect of a command on everything but the queue. -/
def exec (i : Instr) (s : State) : Host.Outcome State Fault Refusal :=
  match i with
  | .powerOnReset b => Sys2Proof.Machine.execPowerOnReset b s
  | .configurationAccepted t => Sys2Proof.Machine.execConfigurationAccepted t s
  | .heartbeatWrite t => Sys2Proof.Machine.execHeartbeatWrite t s
  | .sluiceHeartbeatLoss t => Sys2Proof.Machine.execSluiceHeartbeatLoss t s
  | .safeStateRequest t ch => Sys2Proof.Machine.execSafeStateRequest t ch s
  | .millTick x => Sys2Proof.Machine.execMillTick x s
  | .stagingAcknowledge t c => Sys2Proof.Machine.execStagingAcknowledge t c s
  | .encoderEdge t c a b => Sys2Proof.Machine.execEncoderEdge t c a b s
  | .indexPulse t c z => Sys2Proof.Machine.execIndexPulse t c z s
  | .encoderLineFault t c present => Sys2Proof.Machine.execEncoderLineFault t c present s
  | .encoderSupplyFault t c present => Sys2Proof.Machine.execEncoderSupplyFault t c present s
  | .encoderFaultClear t c => Sys2Proof.Machine.execEncoderFaultClear t c s
  | .curDwellEnd t d leg => Sys2Proof.Machine.execCurDwellEnd t d leg s
  | .deadTimeEnd t d leg => Sys2Proof.Machine.execDeadTimeEnd t d leg s
  | .pwmPeriodStart t d => Sys2Proof.Machine.execPwmPeriodStart t d s
  | .adcTrigger t d => Sys2Proof.Machine.execAdcTrigger t d s
  | .capConversionTrigger t => Sys2Proof.Machine.execCapConversionTrigger t s
  | .adcSequenceComplete t d v => Sys2Proof.Machine.execAdcSequenceComplete t d v s
  | .isolationPairTimeout t d phases => Sys2Proof.Machine.execIsolationPairTimeout t d phases s
  | .isolationPairConducting t d phases => Sys2Proof.Machine.execIsolationPairConducting t d phases s
  | .isolationPairsSensedOpen t => Sys2Proof.Machine.execIsolationPairsSensedOpen t s
  | .brakePathHoldExpiry t d => Sys2Proof.Machine.execBrakePathHoldExpiry t d s
  | .weirTrip t c cause ma => Sys2Proof.Machine.execWeirTrip t c cause ma s
  | .weirClearEdge t c sense => Sys2Proof.Machine.execWeirClearEdge t c sense s
  | .tripClearRequest t c => Sys2Proof.Machine.execTripClearRequest t c s
  | .dvUndervoltage t supply dv => Sys2Proof.Machine.execDvUndervoltage t supply dv s
  | .dvRecovered t supply => Sys2Proof.Machine.execDvRecovered t supply s
  | .dvClampActive t supply dv => Sys2Proof.Machine.execDvClampActive t supply dv s
  | .governorStartTick t c => Sys2Proof.Machine.execGovernorStartTick t c s
  | .governorReservationStage t => Sys2Proof.Machine.execGovernorReservationStage t s
  | .governorBudgetOverrun t w => Sys2Proof.Machine.execGovernorBudgetOverrun t w s
  | .governorHoldEnd t => Sys2Proof.Machine.execGovernorHoldEnd t s
  | .alignComplete t d => Sys2Proof.Machine.execAlignComplete t d s
  | .edgeFault t d ch => Sys2Proof.Machine.execEdgeFault t d ch s
  | .edgeFaultClear t d ch => Sys2Proof.Machine.execEdgeFaultClear t d ch s
  | .stepStall t d => Sys2Proof.Machine.execStepStall t d s
  | .stepStallRetry t d => Sys2Proof.Machine.execStepStallRetry t d s
  | .unlockTimeout t d => Sys2Proof.Machine.execUnlockTimeout t d s
  | .openTimeout t d => Sys2Proof.Machine.execOpenTimeout t d s
  | .closeTimeout t d => Sys2Proof.Machine.execCloseTimeout t d s
  | .reopenHoldExpiry t d => Sys2Proof.Machine.execReopenHoldExpiry t d s
  | .lockSwitchTimeout t d => Sys2Proof.Machine.execLockSwitchTimeout t d s
  | .lockSettleComplete t d => Sys2Proof.Machine.execLockSettleComplete t d s
  | .backdriveCheckEnd t d => Sys2Proof.Machine.execBackdriveCheckEnd t d s
  | .lockPullComplete t d => Sys2Proof.Machine.execLockPullComplete t d s
  | .stepExtendTimeout t d => Sys2Proof.Machine.execStepExtendTimeout t d s
  | .stepRetractTimeout t d => Sys2Proof.Machine.execStepRetractTimeout t d s
  | .cycleRecordTimeout t d => Sys2Proof.Machine.execCycleRecordTimeout t d s
  | .closeCommand t d src => Sys2Proof.Machine.execCloseCommand t d src s
  | .openCommand t d src => Sys2Proof.Machine.execOpenCommand t d src s
  | .doorReset t d src => Sys2Proof.Machine.execDoorReset t d src s
  | .runnerCycle t => Sys2Proof.Machine.execRunnerCycle t s
  | .runnerStop t cause => Sys2Proof.Machine.execRunnerStop t cause s
  | .runnerAliveLost t => Sys2Proof.Machine.execRunnerAliveLost t s
  | .safetyInputSample t runner bedstone => Sys2Proof.Machine.execSafetyInputSample t runner bedstone s
  | .testPulse t src => Sys2Proof.Machine.execTestPulse t src s
  | .pulseGridLock t => Sys2Proof.Machine.execPulseGridLock t s
  | .sourceFault t src ch => Sys2Proof.Machine.execSourceFault t src ch s
  | .sourceRetry t src => Sys2Proof.Machine.execSourceRetry t src s
  | .feedbackFault t g ch => Sys2Proof.Machine.execFeedbackFault t g ch s
  | .outputTest t g lowSide reachedOff => Sys2Proof.Machine.execOutputTest t g lowSide reachedOff s
  | .outputTestMissing t g => Sys2Proof.Machine.execOutputTestMissing t g s
  | .pairDiscrepancy t d pair ch => Sys2Proof.Machine.execPairDiscrepancy t d pair ch s
  | .channelDiscrepancy t d => Sys2Proof.Machine.execChannelDiscrepancy t d s
  | .reversalNotEvidenced t d check ch => Sys2Proof.Machine.execReversalNotEvidenced t d check ch s
  | .safetyReset t src => Sys2Proof.Machine.execSafetyReset t src s
  | .resetSourceJammed t src => Sys2Proof.Machine.execResetSourceJammed t src s
  | .resetSourceUnjammed t src => Sys2Proof.Machine.execResetSourceUnjammed t src s
  | .inputSample t x => Sys2Proof.Machine.execInputSample t x s
  | .wireBreak t n => Sys2Proof.Machine.execWireBreak t n s
  | .degradedResistor t n => Sys2Proof.Machine.execDegradedResistor t n s
  | .wireBreakClear t n => Sys2Proof.Machine.execWireBreakClear t n s
  | .inputEdgeStamp t inp level => Sys2Proof.Machine.execInputEdgeStamp t inp level s
  | .stampHoldoffEnd t inp => Sys2Proof.Machine.execStampHoldoffEnd t inp s
  | .vdoFault t conn => Sys2Proof.Machine.execVdoFault t conn s
  | .vdoFaultEnd t conn => Sys2Proof.Machine.execVdoFaultEnd t conn s
  | .doReadbackCheck t readback => Sys2Proof.Machine.execDoReadbackCheck t readback s
  | .doFault t n => Sys2Proof.Machine.execDoFault t n s
  | .lsOvercurrent t x => Sys2Proof.Machine.execLsOvercurrent t x s
  | .lsRetry t n => Sys2Proof.Machine.execLsRetry t n s
  | .lsTryCountReset t n => Sys2Proof.Machine.execLsTryCountReset t n s
  | .lsPwmPeriodStart t n => Sys2Proof.Machine.execLsPwmPeriodStart t n s
  | .openLoad t n mean => Sys2Proof.Machine.execOpenLoad t n mean s
  | .openLoadClear t x => Sys2Proof.Machine.execOpenLoadClear t x s
  | .lsSupplyOverLimit t supply ma => Sys2Proof.Machine.execLsSupplyOverLimit t supply ma s
  | .lsShedStep t supply ma => Sys2Proof.Machine.execLsShedStep t supply ma s
  | .lsShedRestore t x => Sys2Proof.Machine.execLsShedRestore t x s
  | .frameReceived t b f => Sys2Proof.Machine.execFrameReceived t b f s
  | .frameTransmitted t b x lost errors => Sys2Proof.Machine.execFrameTransmitted t b x lost errors s
  | .objectWithdrawn t b obj => Sys2Proof.Machine.execObjectWithdrawn t b obj s
  | .busCandidateTimeout t b => Sys2Proof.Machine.execBusCandidateTimeout t b s
  | .busRateAdopted t b => Sys2Proof.Machine.execBusRateAdopted t b s
  | .busFallbackTiming t b => Sys2Proof.Machine.execBusFallbackTiming t b s
  | .busOff t b => Sys2Proof.Machine.execBusOff t b s
  | .busOffRecovery t b => Sys2Proof.Machine.execBusOffRecovery t b s
  | .safeTelegramCopy t b x => Sys2Proof.Machine.execSafeTelegramCopy t b x s
  | .telegramCopyTimeout t b => Sys2Proof.Machine.execTelegramCopyTimeout t b s
  | .commandTelegramsLost t => Sys2Proof.Machine.execCommandTelegramsLost t s
  | .singleBusModeEnter t => Sys2Proof.Machine.execSingleBusModeEnter t s
  | .singleBusModeLeave t => Sys2Proof.Machine.execSingleBusModeLeave t s
  | .outputCommand t b x => Sys2Proof.Machine.execOutputCommand t b x s
  | .groupStatusTelegram t => Sys2Proof.Machine.execGroupStatusTelegram t s
  | .statusPageSend t => Sys2Proof.Machine.execStatusPageSend t s
  | .timeReference t b x sof => Sys2Proof.Machine.execTimeReference t b x sof s
  | .timeSourceInvalid t => Sys2Proof.Machine.execTimeSourceInvalid t s
  | .identityFrameSend t => Sys2Proof.Machine.execIdentityFrameSend t s
  | .identityFrame t f => Sys2Proof.Machine.execIdentityFrame t f s
  | .pairFormation t => Sys2Proof.Machine.execPairFormation t s
  | .tokenInReleased t => Sys2Proof.Machine.execTokenInReleased t s
  | .tokenInAsserted t => Sys2Proof.Machine.execTokenInAsserted t s
  | .tokenAssertDelayEnd t => Sys2Proof.Machine.execTokenAssertDelayEnd t s
  | .plannedHandover t => Sys2Proof.Machine.execPlannedHandover t s
  | .readySymbol t => Sys2Proof.Machine.execReadySymbol t s
  | .activeFrameReceived t x f => Sys2Proof.Machine.execActiveFrameReceived t x f s
  | .backFrameReceived t x f => Sys2Proof.Machine.execBackFrameReceived t x f s
  | .calibrationTakeUp t d => Sys2Proof.Machine.execCalibrationTakeUp t d s
  | .liveWriteCheckTimeout t => Sys2Proof.Machine.execLiveWriteCheckTimeout t s
  | .streamLost t => Sys2Proof.Machine.execStreamLost t s
  | .streamRegained t => Sys2Proof.Machine.execStreamRegained t s
  | .arbiterDesignation t arb1 arb2 => Sys2Proof.Machine.execArbiterDesignation t arb1 arb2 s
  | .arbiterDesignationInvalid t => Sys2Proof.Machine.execArbiterDesignationInvalid t s
  | .flushPeriodic t => Sys2Proof.Machine.execFlushPeriodic t s
  | .flushComplete t => Sys2Proof.Machine.execFlushComplete t s
  | .checkpointWrite t => Sys2Proof.Machine.execCheckpointWrite t s
  | .tokenBucketRefill t code => Sys2Proof.Machine.execTokenBucketRefill t code s
  | .millpondPresenceOpen t cause => Sys2Proof.Machine.execMillpondPresenceOpen t cause s
  | .millpondCharged t => Sys2Proof.Machine.execMillpondCharged t s
  | .millpondPeriodicTest t => Sys2Proof.Machine.execMillpondPeriodicTest t s
  | .millpondTestComplete t uf mohm => Sys2Proof.Machine.execMillpondTestComplete t uf mohm s
  | .millpondVoltageChange t mv => Sys2Proof.Machine.execMillpondVoltageChange t mv s
  | .millpondReplacementDue t => Sys2Proof.Machine.execMillpondReplacementDue t s
  | .powerFailDeclared x => Sys2Proof.Machine.execPowerFailDeclared x s
  | .lvDipRiddenThrough t us => Sys2Proof.Machine.execLvDipRiddenThrough t us s
  | .powerFailHoldEnd t cause => Sys2Proof.Machine.execPowerFailHoldEnd t cause s
  | .millbookRefreshScan t => Sys2Proof.Machine.execMillbookRefreshScan t s
  | .refreshSector t => Sys2Proof.Machine.execRefreshSector t s
  | .plugRemoved t => Sys2Proof.Machine.execPlugRemoved t s
  | .plugRefitted t content => Sys2Proof.Machine.execPlugRefitted t content s
  | .openSession t nonce => Sys2Proof.Machine.execOpenSession t nonce s
  | .closeSession t m => Sys2Proof.Machine.execCloseSession t m s
  | .sessionTimeout t session => Sys2Proof.Machine.execSessionTimeout t session s
  | .tagFailure t session => Sys2Proof.Machine.execTagFailure t session s
  | .tokenTake t m k => Sys2Proof.Machine.execTokenTake t m k s
  | .tokenRelease t m k => Sys2Proof.Machine.execTokenRelease t m k s
  | .readWords t m addr count => Sys2Proof.Machine.execReadWords t m addr count s
  | .clearStatus t m w mask => Sys2Proof.Machine.execClearStatus t m w mask s
  | .readRecords t m x first limit => Sys2Proof.Machine.execReadRecords t m x first limit s
  | .readStamps t m n => Sys2Proof.Machine.execReadStamps t m n s
  | .readHopper t m b x => Sys2Proof.Machine.execReadHopper t m b x s
  | .readCapture t m first count => Sys2Proof.Machine.execReadCapture t m first count s
  | .maintStatus t m => Sys2Proof.Machine.execMaintStatus t m s
  | .serviceEnter t m d => Sys2Proof.Machine.execServiceEnter t m d s
  | .serviceLeave t m d => Sys2Proof.Machine.execServiceLeave t m d s
  | .serviceTokenLost t d => Sys2Proof.Machine.execServiceTokenLost t d s
  | .jog t m c speed => Sys2Proof.Machine.execJog t m c speed s
  | .backdriveTest t m d => Sys2Proof.Machine.execBackdriveTest t m d s
  | .tenterStart t m d => Sys2Proof.Machine.execTenterStart t m d s
  | .tenterStop t m d => Sys2Proof.Machine.execTenterStop t m d s
  | .tenterRunEnd t => Sys2Proof.Machine.execTenterRunEnd t s
  | .liveWrite t m c offset value => Sys2Proof.Machine.execLiveWrite t m c offset value s
  | .inject t m payload => Sys2Proof.Machine.execInject t m payload s
  | .captureEnd t => Sys2Proof.Machine.execCaptureEnd t s
  | .slotWrite t m slotB offset data => Sys2Proof.Machine.execSlotWrite t m slotB offset data s
  | .slotRead t m slotB offset len => Sys2Proof.Machine.execSlotRead t m slotB offset len s
  | .slotVerify t m slotB => Sys2Proof.Machine.execSlotVerify t m slotB s
  | .slotWriteIdleTimeout t slotB => Sys2Proof.Machine.execSlotWriteIdleTimeout t slotB s
  | .doorwayRestart t m d bucket => Sys2Proof.Machine.execDoorwayRestart t m d bucket s
  | .doorwayRestartComplete t d => Sys2Proof.Machine.execDoorwayRestartComplete t d s
  | .imageSwitch t m => Sys2Proof.Machine.execImageSwitch t m s
  | .switchoverTest t m => Sys2Proof.Machine.execSwitchoverTest t m s
  | .millpondTest t m => Sys2Proof.Machine.execMillpondTest t m s
  | .calendarSet t m sec us => Sys2Proof.Machine.execCalendarSet t m sec us s
  | .identityRead t m copy offset len => Sys2Proof.Machine.execIdentityRead t m copy offset len s
  | .keyAreaStage t m offset data => Sys2Proof.Machine.execKeyAreaStage t m offset data s
  | .keyAreaCommit t m key sig => Sys2Proof.Machine.execKeyAreaCommit t m key sig s
  | .keyStageTimeout t session => Sys2Proof.Machine.execKeyStageTimeout t session s
  | .bucketProgramParity t d role => Sys2Proof.Machine.execBucketProgramParity t d role s
  | .millerRamDoubleError t => Sys2Proof.Machine.execMillerRamDoubleError t s
  | .millpondFitted t => Sys2Proof.Machine.execMillpondFitted t s
  | .busError t b tec rec => Sys2Proof.Machine.execBusError t b tec rec s
  | .windowComparatorCrossing t d leg ma => Sys2Proof.Machine.execWindowComparatorCrossing t d leg ma s
  | .brakeLimitExceeded t d ma => Sys2Proof.Machine.execBrakeLimitExceeded t d ma s
  | .isolationPairsSensedClosed t d => Sys2Proof.Machine.execIsolationPairsSensedClosed t d s
  | .arpAndIcmpEcho t => Sys2Proof.Machine.execArpAndIcmpEcho t s
  | .fragmentedDatagram t => Sys2Proof.Machine.execFragmentedDatagram t s

end Sys2Proof.Machine
end

