-- ==== Sys2Proof/Safety.lean ====
section
/-!
DEFINITION. Sys2Proof/Safety.lean: what counts as a safe state of the module, in the terms the claims use.
-/
namespace Sys2Proof.Machine

/-- The plug's bytes stand in their canonical form. -/
def State.plugOk (s : State) : Prop := Memory.wf s.nv.plug = true

/-- The module is in reset or starting up: Sluice holds the start-up state (R12), as every restart leaves it. -/
def State.restarted (s : State) : Prop := s.sluice.holding = true ∧ s.sluice.safe = false

/-- What Sluice's safe state means for the drives (R12, R23): every doorway's isolation pairs are commanded open, and no bridge
switches. -/
def State.pairsSafe (s : State) : Prop :=
  s.sluice.safe = true → ∀ d : Door, s.drv[d.1].pairsCmd = false ∧ s.drv[d.1].bridgeOn = false

/-- What Sluice's safe state means for the door loops (R12, R206): no loop group is energised. -/
def State.loopsSafe (s : State) : Prop := s.sluice.safe = true → ∀ g : Group, s.safety.grp[g.1].on = false

/-- An energised loop group has the enables of both channels (R8, R206). -/
def State.loopsGated (s : State) : Prop :=
  ∀ g : Group, s.safety.grp[g.1].on = true →
    s.safety.runner.enable.getLsbD g.1 = true ∧ s.safety.bedstone.enable.getLsbD g.1 = true

end Sys2Proof.Machine
end

