-- ==== Sys2Proof/Certificates/Slice0/Obligations.lean ====
section
/-!
DEFINITION. Sys2Proof/Certificates/Slice0/Obligations.lean: the statements about the module, for the provers.

`s` is the state before a command, `t` the mill clock in ns at which the command happens, and `r` the state with the clock moved
to it. What a statement's next state does not name is as before, where it gives the whole next state. A statement of several
parts joins them under one name; each part is a `Claim`.
-/
open Sys2Proof Sys2Proof.Machine

/-- The front command runs with the queue's rest (one command a step). -/
def Obligations.StepRunsFrontCommand : Prop :=
  ∀ (s : State) (c : Instr) (rest : List Instr),
    step { s with pending := c :: rest } = exec c { s with pending := rest }

/-- No command stops the module: every command, in every state, has a next state. No rule of the spec gives this block a stop. -/
def Obligations.EveryCommandCompletes : Prop := ∀ (c : Instr) (s : State), ∃ u, exec c s = .next u

/-- No command touches the commands that wait behind it. -/
def Obligations.QueueKept : Prop := ∀ (c : Instr) (s u : State), exec c s = .next u → u.pending = s.pending

/-- Every step keeps the plug's bytes in their canonical form. -/
def Obligations.PlugStaysCanonical : Prop := ∀ s u : State, step s = .next u → s.plugOk → u.plugOk

/-- At reset the plug's bytes are in canonical form, and the three safety invariants hold. -/
def Obligations.InvariantsAtReset : Prop := State.reset.plugOk ∧ State.reset.pairsSafe ∧ State.reset.loopsSafe ∧ State.reset.loopsGated

/-- R16: the mill clock never runs backwards, but for a restart, which leaves the clock at 0 and Sluice holding the start-up state. -/
def Obligations.ClockOnlyForward : Prop := ∀ (c : Instr) (s u : State), exec c s = .next u → s.ns ≤ u.ns ∨ (u.restarted ∧ u.ns = 0)

/-- R13, R221: once Sluice has taken the safe state it holds it, whatever command follows, until the module restarts. -/
def Obligations.SafeStateHeldUntilRestart : Prop :=
  ∀ (c : Instr) (s u : State), exec c s = .next u → s.sluice.safe = true → u.sluice.safe = true ∨ u.restarted

/-- R12, R23, R64: in the safe state no isolation pair is commanded closed and no door bridge switches; every step keeps this. -/
def Claim.SafeStateKeepsPairsOpen : Prop := ∀ s u : State, step s = .next u → s.pairsSafe → u.pairsSafe

/-- R12, R13, R206: in the safe state no loop group is energised; every step keeps this. -/
def Claim.SafeStateKeepsLoopsOff : Prop := ∀ s u : State, step s = .next u → s.loopsSafe → u.loopsSafe

/-- R8, R206: a loop group is energised only while Runner and Bedstone both enable it; every step keeps this. -/
def Claim.LoopsNeedBothChannels : Prop := ∀ s u : State, step s = .next u → s.loopsGated → u.loopsGated

/-- In the safe state no isolation pair is commanded closed, no door bridge switches and no loop group is energised, and a group is
energised only with the enables of both channels; every step keeps this. -/
def Obligations.SafeStateKeepsDrivesAndLoopsOff : Prop :=
  Claim.SafeStateKeepsPairsOpen ∧ Claim.SafeStateKeepsLoopsOff ∧ Claim.LoopsNeedBothChannels

/-- R256: a latched switch is released only by a Tally clear command or by a restart of its doorway or the module. A door reset does
not release it. -/
def Obligations.LatchedSwitchReleasedOnly : Prop :=
  ∀ (c : Instr) (s u : State) (n : Ls), exec c s = .next u → s.io.ls[n.1].latched = true → u.io.ls[n.1].latched = false →
    (∃ t m w mask, c = .clearStatus t m w mask) ∨ (∃ t m b, c = .doorwayRestart t m n.door b) ∨ u.restarted

/-- R352, R354, R12, R16: power-on reset starts the mill clock at 0, with Sluice holding the start-up state, nothing configured, every
isolation pair open, every output off or high-impedance and both loop groups off. A failed check of step 2 stops the start with
nothing booted; passed, Runner runs and the start comes to step 5 with a booted slot, or waits at step 3 without one. The drive token is
taken at once only by a booted module whose image has no pair and whose TOK-IN reads released, which is the model's choice (log 37).
The power-on spans count on from the valid copy of the checkpoint with the higher generation (R339). -/
def Obligations.PowerOnReset : Prop :=
  ∀ (s : State) (b : BootIn), ∃ u, exec (.powerOnReset b) s = .next u ∧
    u.ns = 0 ∧ u.restarted ∧ u.maint.configured = false ∧ u.pair.posB = b.posB ∧ u.pair.tokIn = b.tokIn ∧
    u.book.bootCount = (match (b.badCopies.foldl NonVol.spoil s.nv).checkpoint.value with | some c => c.bootCount | none => 0) + 1 ∧ u.nv.is2216 = s.nv.is2216 ∧
    (∀ d : Door, u.drv[d.1].pairsCmd = false ∧ u.drv[d.1].pairsSensed = false ∧ u.drv[d.1].bridgeOn = false) ∧
    (∀ n : Dout, u.io.dout[n.1].pin = .z) ∧ (∀ n : Ls, u.io.ls[n.1].on = false) ∧
    (∀ g : Group, u.safety.grp[g.1].on = false) ∧
    (if b.millerRomOk ∧ b.millerRamOk ∧ b.runnerRomOk ∧ b.runnerRamOk then
      u.maint.failed = false ∧ u.safety.running = true ∧ u.maint.step = (if u.maint.booted.isSome then 5 else 3) ∧
        u.pair.token = (u.maint.booted.isSome && !u.cfg.pair.enable && !b.tokIn)
    else u.maint.failed = true ∧ u.safety.running = false ∧ u.maint.booted = none ∧ u.pair.token = false)

/-- R353, R12: a booted module at step 5 whose filters have their samples is accepted: the heartbeat starts, Sluice lets go and the
programmed safe states are latched. Start-up goes on with the pair's formation, the drives as they were, or alone, and then with the token. -/
def Obligations.ConfigurationAccepted : Prop :=
  ∀ (s : State) (t : Nat), let r := s.at t
    s.maint.booted.isSome = true → s.maint.step = 5 → s.maint.failed = false → s.allInputsValid = true →
    ∃ u, exec (.configurationAccepted t) s = .next u ∧
      u.maint.configured = true ∧ u.maint.step = 6 ∧
      u.sluice = { s.sluice with holding := false, latched := true, lastBeat := r.ns } ∧
      u.pair.formAt = some r.ns ∧ u.nv = s.nv ∧ u.cfg = s.cfg ∧
      (s.cfg.pair.enable = true → u.pair.pstate = .forming ∧ u.pair.token = s.pair.token ∧ u.drv = s.drv) ∧
      (s.cfg.pair.enable = false → u.pair.pstate = .alone ∧
        (s.pair.tokIn = false → s.pair.tokenBarred = false → s.sluice.safe = false →
          (∀ d : Door, s.drv[d.1].isoBlocked = false) → u.pair.token = true) ∧
        (∀ d : Door, s.fitted d = false → s.drv[d.1].pairsCmd = false → u.drv[d.1] = s.drv[d.1])) ∧
      (∀ d : Door, s.fitted d = true → s.keyOperated d = true → u.cyc[d.1].state = .isolated) ∧
      (∀ d : Door, s.fitted d = true → s.keyOperated d = false → s.handleOperated d = true →
        u.cyc[d.1].state = .faultHeld ∧ u.cyc[d.1].fcause = 5) ∧
      (∀ d : Door, s.fitted d = false → u.cyc[d.1] = s.cyc[d.1])

/-- R12, R13: a heartbeat of an accepted module restarts Sluice's timeout and changes nothing else; in the safe state a heartbeat
changes nothing. -/
def Claim.HeartbeatOnlyRestartsTimeout : Prop :=
  ∀ (s : State) (t : Nat), let r := s.at t
    (s.sluice.holding = false → s.sluice.safe = false → s.maint.failed = false →
      exec (.heartbeatWrite t) s = .next { r with sluice := { s.sluice with lastBeat := r.ns } }) ∧
    (s.sluice.safe = true → exec (.heartbeatWrite t) s = .next r)

/-- R383, R12: a double-bit error in Miller RAM stops Miller, and no heartbeat of it restarts Sluice's timeout from then on. That the error
takes the safe state only through the heartbeats that end is the model's choice (log 43). -/
def Claim.MillerRamErrorEndsHeartbeat : Prop :=
  ∀ (s : State) (t : Nat), exec (.millerRamDoubleError t) s = .next { s.at t with maint := { s.maint with failed := true } } ∧
    (s.maint.failed = true → exec (.heartbeatWrite t) s = .next (s.at t))

/-- R12, R13, R221: a heartbeat timeout and a safe-state request of either channel each make Sluice take the safe state, whether
Miller runs or not: door loops off, the outputs of their groups too where they are not stuck on (R211), every pair commanded open, every
braking path on or waiting for its pairs, injection and capture ended, the token barred, and outside a pair every digital output and
switch in its programmed safe state. -/
def Claim.SluiceTakesSafeState : Prop :=
  ∀ (s : State) (t : Nat) (c : Instr), let r := s.at t
    s.sluice.safe = false →
    (c = .sluiceHeartbeatLoss t ∧ s.sluice.holding = false ∧ s.sluice.lastBeat + ms s.cfg.pers.heartbeatMs ≤ r.ns ∨
     c = .safeStateRequest t .runner ∧ s.safety.reqLine.getLsbD 0 = true ∨
     c = .safeStateRequest t .bedstone ∧ s.safety.reqLine.getLsbD 1 = true) →
    ∃ u, exec c s = .next u ∧ u.sluice.safe = true ∧ u.pair.tokenBarred = true ∧ u.capture.active = false ∧
      (s.capture.active = true → u.capture.running = false ∧ u.capture.injecting = false) ∧
      (∀ d : Door, u.drv[d.1].pairsCmd = false ∧ u.drv[d.1].bridgeOn = false ∧ u.drv[d.1].lowBrk = false ∧
        (u.drv[d.1].brake.isSome = true ∨ u.drv[d.1].brakeAsked = true)) ∧
      (∀ g : Group, u.safety.grp[g.1].on = false ∧ u.safety.grp[g.1].p = s.safety.grp[g.1].stuckP ∧
        u.safety.grp[g.1].m = s.safety.grp[g.1].stuckM) ∧
      (s.pair.formed = false → s.sluice.latched = true →
        (∀ n : Dout, u.io.dout[n.1].pin = (match s.cfg.io.dout[n.1].safe with | 0 => .off | 1 => .on | _ => s.io.dout[n.1].pin)) ∧
        (∀ n : Ls, u.io.ls[n.1].on = (match s.cfg.ls.sw[n.1].safe with | 0 => false | 1 => true | _ => s.io.ls[n.1].on))) ∧
      u.maint.failed = s.maint.failed ∧ u.enc = s.enc ∧ u.cyc = s.cyc ∧ u.slot = s.slot ∧ u.nv = s.nv ∧ u.cfg = s.cfg

/-- A heartbeat only restarts the timeout; a double RAM error of Miller ends Miller and its heartbeats and nothing else (the model's
choice, log 43); their loss and a safe-state request take the safe state. -/
def Obligations.HeartbeatAndSluice : Prop :=
  Claim.HeartbeatOnlyRestartsTimeout ∧ Claim.MillerRamErrorEndsHeartbeat ∧ Claim.SluiceTakesSafeState

/-- R10, R16, R26, R27, R88, R91: a mill tick moves the clock to the next multiple of 125 µs, and latches and extends every fitted channel
by the signed 24-bit step since the last latch; no channel counter moves. The period is counted and the housekeeping high-water
mark kept. Before the configuration is accepted no channel is configured, so every one of the 32 slots is counted as Wasted, and
the drives change only by the outputs that come into effect. -/
def Claim.MillTickLatches : Prop :=
  ∀ (s : State) (x : TickIn), ∃ u, exec (.millTick x) s = .next u ∧
    u.ns = (s.ns / 125000 + 1) * 125000 ∧
    (∀ c : Ch, u.enc[c.1].count = s.enc[c.1].count) ∧
    (∀ c : Ch, s.chFitted c = true →
      u.enc[c.1].latched = s.enc[c.1].count ∧ u.enc[c.1].last = s.enc[c.1].count ∧
      u.enc[c.1].ext = s.enc[c.1].ext + (s.enc[c.1].count - s.enc[c.1].last).signExtend 48) ∧
    (∀ c : Ch, s.chFitted c = false → u.enc[c.1].ext = s.enc[c.1].ext) ∧
    u.cfg = s.cfg ∧ u.sluice = s.sluice ∧ u.sup = s.sup ∧
    u.housekeepingHigh = max s.housekeepingHigh x.housekeeping ∧ u.counter 0x80 0 = (s.counter 0x80 0).inc ∧
    (s.maint.configured = false →
      (∀ c : Ch, u.slot[c.1].lastClass = .wasted ∧ u.counter (0x31 + c.1) 1 = (s.counter (0x31 + c.1) 1).inc) ∧
      (∀ d : Door, u.drv[d.1] = ((s.at u.ns).outputsDue d).drv[d.1]) ∧ u.pair = s.pair ∧ u.nv.plug = s.nv.plug)

/-- R87, R89: an acknowledge of a running engine gives the staging register back and ends the run of missing acknowledges; a
stopped engine acknowledges nothing. -/
def Claim.StagingAcknowledge : Prop :=
  ∀ (s : State) (t : Nat) (c : Ch), let r := s.at t
    let running := s.engineRuns c.door (if c.isStep then 3 else 2)
    (running = true → exec (.stagingAcknowledge t c) s = .next (r.modSlot c fun x => { x with owned := false, unackRun := 0 })) ∧
    (running = false → exec (.stagingAcknowledge t c) s = .next r)

/-- R10, R85, R162: once the configuration is accepted, a tick decides the commands of the period that ends, latches the inputs, runs the
slots, the output transfer and the drive stages, decides the loops, lets Miller handle its items doorway by doorway, takes records in and sends
the Cesil frame. A module that follows its partner's stream handles no door items (R312), and a failed Miller nothing (R383). -/
def Claim.TickOrder : Prop :=
  ∀ (s : State) (x : TickIn), s.maint.configured = true →
    let w := ((s.decideTick.dropCounts.at ((s.decideTick.dropCounts.ns / 125000 + 1) * 125000)).lvTick x.lvLow).phase0
    exec (.millTick x) s = .next (w.period x) ∧
    w.period x = (((((w.millstone x).driveTick x).loopTick.millerTick).arbTick).intakeTick).fantailTick ∧
    (∀ v : State, v.maint.failed = true → v.millerTick = v) ∧
    (∀ v : State, v.maint.failed = false → v.millerTick =
      ((if v.follows then v else v.eachDoor State.doorTick).functionTick.tenterTick.timeReview.refreshTick).dropCounts)

/-- R88, R89, R91: every tick counts each of the 32 slots in exactly one class. A channel in a moving mode that is starved for the fourth period
in a row is braked, with a Major event, and the brake ends with the fourth retired slot in a row at stand-still. -/
def Claim.SlotAccounting : Prop :=
  let place := fun (k : SlotClass) => match k with | .retired => 0 | .wasted => 1 | .starvedFront => 2 | .starvedBack => 3
  (∀ (s : State) (x : TickIn), ∃ u, exec (.millTick x) s = .next u ∧ ∀ (c : Ch) (k : Fin 4),
    u.counter (0x31 + c.1) k.1 = if k.1 = place u.slot[c.1].lastClass then (s.counter (0x31 + c.1) k.1).inc else s.counter (0x31 + c.1) k.1) ∧
  ∀ (s : State) (c : Ch) (k : SlotClass) (cycles : Nat), let u := s.account c k cycles
    let y := s.slot[c.1]
    let starved : Prop := k = .starvedFront ∨ k = .starvedBack
    u = { s with slot := u.slot, counters := u.counters, book := u.book } ∧
    u.counter (0x31 + c.1) (place k) = (s.counter (0x31 + c.1) (place k)).inc ∧
    u.slot[c.1].lastClass = k ∧ u.slot[c.1].highWater = max y.highWater cycles ∧
    (u.slot[c.1].starve = true ↔ y.starve = true ∨ starved) ∧
    u.slot[c.1].retiredRun = (if k = .retired then y.retiredRun + 1 else 0) ∧
    (¬ starved → u.slot[c.1].starvedRun = 0) ∧
    (starved → y.mode.moving = true → u.slot[c.1].starvedRun = y.starvedRun + 1) ∧
    (u.slot[c.1].starveBrake = true ↔
      (y.starveBrake = false ∧ starved ∧ y.mode.moving = true ∧ 3 ≤ y.starvedRun) ∨
      (y.starveBrake = true ∧ ¬ (k = .retired ∧ 3 ≤ y.retiredRun ∧ s.enc[c.1].still = true))) ∧
    (y.starveBrake = true → u.slot[c.1].starveBrake = false → u.slot[c.1].brakeEnded = true) ∧
    (∀ e : Ch, e ≠ c → u.slot[e.1] = s.slot[e.1])

/-- R93: at the latch a stopped channel is Stopped, else a braked one Brake, else a closing door with a detection or a latched edge Reverse;
else Miller's request is taken, which on a door without an angle is Stopped for any mode that needs one. The request is used up either way. -/
def Claim.ModeResolution : Prop :=
  ∀ (s : State) (c : Ch), let u := s.latchMode c
    let x := s.slot[c.1]
    let seen : Bool := s.obs[c.door.1].detClose || s.obs[c.door.1].latch
    let turns : Prop := c.isStep = false ∧ x.mode.closing x.arg = true ∧ seen = true
    let free : Prop := s.modeStopped c = false ∧ s.modeBraked c = false
    u.slot[c.1].req = none ∧ (∀ e : Ch, e ≠ c → u.slot[e.1] = s.slot[e.1]) ∧
    (s.modeStopped c = true → u.slot[c.1].mode = .stopped) ∧
    (s.modeStopped c = false → s.modeBraked c = true → u.slot[c.1].mode = .brake) ∧
    (free → turns → u.slot[c.1].mode = .reverse ∧ u.obs[c.door.1].detClose = false ∧
      (∀ m a, x.req = some (m, a) → m ≠ .reverse → u.slot[c.1].superseded = true)) ∧
    (free → ¬ turns → x.req = none → u.slot[c.1].mode = x.mode ∧ u.slot[c.1].arg = x.arg) ∧
    (∀ m a, free → ¬ turns → x.req = some (m, a) →
      (c.isStep = true ∨ m.needsAngle = false ∨ s.hasAngle c.door = true → u.slot[c.1].mode = m ∧ u.slot[c.1].arg = a) ∧
      (c.isStep = false → m.needsAngle = true → s.hasAngle c.door = false →
        u.slot[c.1].mode = .stopped ∧ u.slot[c.1].superseded = true))

/-- A mill tick latches every channel, counts each slot once and runs its phases in order; an acknowledge gives the staging register back. -/
def Obligations.MillTickAndStaging : Prop :=
  Claim.MillTickLatches ∧ Claim.StagingAcknowledge ∧ Claim.TickOrder ∧ Claim.SlotAccounting ∧ Claim.ModeResolution

/-- R25, R30, R382: an edge of one line of a fitted channel moves the 24-bit counter by one, wrapping, up where A leads B unless the
channel is inverted. The edge is counted even where it stands too close to the one before; that one is then counted as a
spacing fault and shown. Every other channel, the drives and the safety functions are untouched. Last, the step of a door channel is handed to
the compare engine. A stopped ENC engine counts nothing. -/
def Claim.EncoderEdge : Prop :=
  ∀ (s : State) (t : Nat) (c : Ch) (a b : Bool), let r := s.at t
    let e := s.enc[c.1]
    let leads : Bool := phaseStep e.a e.b a b = 1
    let up : Bool := if leads then !(s.encCfg c).invert else (s.encCfg c).invert
    (s.encRuns c = false → exec (.encoderEdge t c a b) s = .next r) ∧
    (s.chFitted c = true → s.encRuns c = true → (phaseStep e.a e.b a b = 1 ∨ phaseStep e.a e.b a b = 3) →
    ∃ u, exec (.encoderEdge t c a b) s = .next u ∧
      u = { r with enc := u.enc, cmp := u.cmp, slot := u.slot, obs := u.obs, cyc := u.cyc, io := u.io, counters := u.counters,
                   book := u.book } ∧
      u.enc[c.1].count = (if up then e.count + 1 else e.count - 1) ∧ u.enc[c.1].a = a ∧ u.enc[c.1].b = b ∧
      u.enc[c.1].edgeAt = some r.ns ∧ u.enc[c.1].ext = e.ext ∧ u.enc[c.1].reference = e.reference ∧
      (∀ p, e.edgeAt = some p → r.ns - p < (s.encCfg c).minEdgeNs →
        u.enc[c.1].spacing = true ∧ u.counter (c.1 + 1) 0 = (s.counter (c.1 + 1) 0).inc) ∧
      (∀ k : Ch, k ≠ c → u.enc[k.1] = s.enc[k.1] ∧ u.slot[k.1] = s.slot[k.1]) ∧
      (∀ k : Door, k ≠ c.door → u.cmp[k.1] = s.cmp[k.1] ∧ u.obs[k.1] = s.obs[k.1] ∧ u.cyc[k.1] = s.cyc[k.1]) ∧
      (c.isStep = false → ∃ w : State, u = w.cmpStep c.door e.strokeNow u.enc[c.1].strokeNow ∧ w.cmp = s.cmp ∧ w.cfg = s.cfg ∧
        w.maint = s.maint ∧ w.enc[c.1].count = u.enc[c.1].count) ∧
      (c.isStep = true → u.cmp = s.cmp))

/-- R44, R45, R47, R382: a step of the stroke from `old` to `new` with a set armed. An armed entry of the set fires, and is disarmed, where
`new` is its position reached from the approach side; a fired one is armed again once the stroke is back beyond its position by the re-arm
distance. Where one entry alone fires, it is counted, LASTCMP and CMPVALID show it, and its action is delivered: the window flag, deceleration or
lock-zone with its item, a step cue (the model delivers the cue of the armed set, R189, R190), a pin's command, a marker. With no set armed, or a
stopped CMP engine, nothing happens. -/
def Claim.CompareFires : Prop :=
  ∀ (s : State) (d : Door) (old new : Int) (opening : Bool), let u := s.cmpStep d old new
    let at_ := fun (k : Fin 32) => s.cfg.door[d.1].cmp[k.1]
    let used := fun (k : Fin 32) => inSet opening k = true ∧ (at_ k).action ≠ 0
    let met := fun (k : Fin 32) => new = (at_ k).pos ∧ old = if opening then ((at_ k).pos : Int) - 1 else ((at_ k).pos : Int) + 1
    let back := fun (k : Fin 32) => if opening then new ≤ (at_ k).pos - s.cfg.door[d.1].enc.rearm else (at_ k).pos + s.cfg.door[d.1].enc.rearm ≤ new
    (s.engineRuns d 6 = false ∨ s.cmp[d.1].set = none → u = s) ∧
    (s.engineRuns d 6 = true → s.cmp[d.1].set = some opening →
      u.cmp[d.1].set = some opening ∧
      (∀ k : Fin 32, u.cmp[d.1].armed.getLsbD k.1 = true ↔
        (s.cmp[d.1].armed.getLsbD k.1 = true ∧ ¬(used k ∧ met k)) ∨ (s.cmp[d.1].armed.getLsbD k.1 = false ∧ used k ∧ back k)) ∧
      (∀ k : Fin 32, used k → met k → s.cmp[d.1].armed.getLsbD k.1 = true → (∀ j : Fin 32, j ≠ k → used j → (at_ j).pos ≠ (at_ k).pos) →
        u.enc[d.ch.1] = { s.enc[d.ch.1] with lastCmp := BitVec.ofNat 5 k.1, cmpValid := true } ∧
        u.counter (d.1 + 1) 6 = (s.counter (d.1 + 1) 6).inc ∧
        u.cmp[d.1].window = (if (at_ k).action = 1 then true else if (at_ k).action = 2 then false else s.cmp[d.1].window) ∧
        u.cmp[d.1].decel = ((at_ k).action = 3 || s.cmp[d.1].decel) ∧ u.cmp[d.1].decelItem = ((at_ k).action = 3 || s.cmp[d.1].decelItem) ∧
        u.cmp[d.1].lzone = ((at_ k).action = 4 || s.cmp[d.1].lzone) ∧ u.cmp[d.1].lzoneItem = ((at_ k).action = 4 || s.cmp[d.1].lzoneItem) ∧
        u.cmp[d.1].cueItems = s.cmp[d.1].cueItems ++ (if (at_ k).action = 5 ∧ opening = ((at_ k).arg == 1) then [opening] else []) ∧
        u.cmp[d.1].marker = (if (at_ k).action = 8 then some (at_ k).arg else s.cmp[d.1].marker) ∧
        ((at_ k).action = 6 ∨ (at_ k).action = 7 →
          u.io.dout[(d.out (if (at_ k).arg = 0 then 0 else 1)).1].cmpCmd = ((at_ k).action = 6 : Bool))) ∧
      ((∀ k : Fin 32, used k → ¬met k) →
        u = { s with cmp := u.cmp } ∧ u.cmp[d.1] = { s.cmp[d.1] with armed := u.cmp[d.1].armed }))

/-- R45, R47: arming a set clears the state flags and CMPVALID, arms the entries of the set that lie ahead of the leaf, and applies those at or
behind it silently: no silent application is counted or shown in LASTCMP, and none delivers a trace marker. A deceleration or lock-zone entry
behind the leaf is delivered as if it had fired. -/
def Claim.CompareArms : Prop :=
  ∀ (s : State) (d : Door) (opening : Bool), let u := s.armCmp d opening
    let at_ := fun (k : Fin 32) => s.cfg.door[d.1].cmp[k.1]
    let used := fun (k : Fin 32) => inSet opening k = true ∧ (at_ k).action ≠ 0
    let behind := fun (k : Fin 32) => if opening then (at_ k).pos ≤ s.enc[d.ch.1].stroke else s.enc[d.ch.1].stroke ≤ (at_ k).pos
    u.enc[d.ch.1] = { s.enc[d.ch.1] with cmpValid := false } ∧ u.counters = s.counters ∧ u.cmp[d.1].set = some opening ∧
    (∀ k : Fin 32, u.cmp[d.1].armed.getLsbD k.1 = true ↔ used k ∧ ¬behind k) ∧
    (u.cmp[d.1].decel = true ↔ ∃ k, used k ∧ behind k ∧ (at_ k).action = 3) ∧
    (u.cmp[d.1].lzone = true ↔ ∃ k, used k ∧ behind k ∧ (at_ k).action = 4) ∧
    ((∀ k, used k → behind k → (at_ k).action ≠ 1) → u.cmp[d.1].window = false) ∧
    ((∃ k, used k ∧ behind k ∧ (at_ k).action = 1) → (∀ k, used k → behind k → (at_ k).action ≠ 2) → u.cmp[d.1].window = true) ∧
    u.cmp[d.1].marker = s.cmp[d.1].marker ∧
    (∀ k : Door, k ≠ d → u.cmp[k.1] = s.cmp[k.1]) ∧ u = { s with cmp := u.cmp, enc := u.enc, io := u.io }

/-- An edge moves the counter by one and may fire compare entries, which a set's arming has made ready. -/
def Obligations.EncoderEdgeCounts : Prop := Claim.EncoderEdge ∧ Claim.CompareFires ∧ Claim.CompareArms

/-- R31: a sample of a running ENC engine in which both lines have changed leaves the counter as it was, and the channel is at once in
encoder fault. -/
def Obligations.IllegalTransition : Prop :=
  ∀ (s : State) (t : Nat) (c : Ch) (a b : Bool),
    s.chFitted c = true → s.encRuns c = true → a ≠ s.enc[c.1].a → b ≠ s.enc[c.1].b →
    ∃ u, exec (.encoderEdge t c a b) s = .next u ∧ u.enc[c.1].count = s.enc[c.1].count ∧ u.enc[c.1].encFlt = true

/-- R34: an index pulse corrects neither the counter nor the extended position nor the reference of any channel. With the gate off,
a rising Z of a fitted channel is taken as the index at the running count, while its ENC engine runs (R382). -/
def Obligations.IndexPulseNeverCorrects : Prop :=
  ∀ (s : State) (t : Nat) (c : Ch) (z : Bool), ∃ u, exec (.indexPulse t c z) s = .next u ∧
    (∀ k : Ch, u.enc[k.1].count = s.enc[k.1].count ∧ u.enc[k.1].ext = s.enc[k.1].ext ∧
      u.enc[k.1].reference = s.enc[k.1].reference ∧ u.enc[k.1].last = s.enc[k.1].last) ∧
    (s.chFitted c = true → s.encRuns c = true → u.enc[c.1].z = z ∧
      ((s.encCfg c).indexGate = false → z = true → s.enc[c.1].z = false →
        u.enc[c.1].idxAt = some s.enc[c.1].count ∧ u.slot[c.1].idxCount = some s.enc[c.1].count)) ∧
    u.drv = s.drv ∧ u.safety = s.safety ∧ u.io = s.io ∧ u.nv = s.nv ∧ u.cfg = s.cfg

/-- R32, R36: a line or supply fault puts a fitted channel at once in encoder fault: the reference is lost, a moving channel is
marked for braking until rest, and a doorway that is CLOSED_LOCKED or RELEASED keeps its state. The end of the condition alone clears
nothing; a second without any condition does, and restores no reference. -/
def Obligations.EncoderFaults : Prop :=
  ∀ (s : State) (t : Nat) (c : Ch), let r := s.at t
    let e := s.enc[c.1]
    s.chFitted c = true →
    (∀ i : Instr, i = .encoderLineFault t c true ∨ i = .encoderSupplyFault t c true →
      ∃ u, exec i s = .next u ∧ u = { r with enc := u.enc, cyc := u.cyc, counters := u.counters, book := u.book } ∧
        u.enc[c.1].encFlt = true ∧ u.enc[c.1].count = e.count ∧ u.enc[c.1].faultAt = r.ns ∧
        (e.encFlt = false → u.enc[c.1].ref = false ∧ u.enc[c.1].faultBrake = !e.still) ∧
        (s.cyc[c.door.1].state = .closedLocked ∨ s.cyc[c.door.1].state = .released → u.cyc = s.cyc) ∧
        (∀ k : Ch, k ≠ c → u.enc[k.1] = s.enc[k.1])) ∧
    (exec (.encoderLineFault t c false) s = .next (r.modEnc c fun e => { e with faultAt := r.ns, lineBad := false }) ∧
     exec (.encoderSupplyFault t c false) s = .next (r.modEnc c fun e => { e with faultAt := r.ns, supplyBad := false })) ∧
    (e.encFlt = true → e.lineBad = false → e.supplyBad = false →
      (e.faultAt + 1000000000 ≤ r.ns →
        ∃ u, exec (.encoderFaultClear t c) s = .next u ∧ u = { r with enc := u.enc } ∧ u.enc[c.1].encFlt = false ∧
          u.enc[c.1].ref = e.ref ∧ u.enc[c.1].count = e.count ∧ ∀ k : Ch, k ≠ c → u.enc[k.1] = s.enc[k.1]) ∧
      (r.ns < e.faultAt + 1000000000 → exec (.encoderFaultClear t c) s = .next r))

/-- R52-R54: a window comparator of a switching bridge whose leg waits out no dwell commands the leg to the level that brings the
current back: below the lower threshold high, above the upper one low. A leg that changes level turns its conducting switch off
at once, and its dwell and dead time run from the command. A crossing inside a dwell is only noted. Nothing else of the module
changes; `q` is the state with the outputs that have come into effect by then, and `x` its drive of the doorway. -/
def Claim.CurLegSwitches : Prop :=
  ∀ (s : State) (t : Nat) (d : Door) (leg : Fin 3) (ma : Int),
    let r := s.at t
    let g := s.cfg.door[d.1].drive
    let q := r.outputsDue d
    let x := q.drv[d.1]
    let ref := (x.refsNow r.ns)[leg.1]
    (x.bridgeOn = true → x.lowBrk = false → s.engineRuns d 2 = true → x.legs[leg.1].dwell = none →
      (2 * ma < 2 * ref - g.bandMa → x.legs[leg.1].high = false →
        exec (.windowComparatorCrossing t d leg ma) s = .next (q.modDrv d fun _ => { x with
          legs := x.legs.set leg.1 { high := true, on := false, dwell := some (r.ns + g.dwellNs), dead := some (r.ns + g.deadNs)
                                     cmp := some true } })) ∧
      (¬ 2 * ma < 2 * ref - g.bandMa → 2 * ref + g.bandMa < 2 * ma → x.legs[leg.1].high = true →
        exec (.windowComparatorCrossing t d leg ma) s = .next (q.modDrv d fun _ => { x with
          legs := x.legs.set leg.1 { high := false, on := false, dwell := some (r.ns + g.dwellNs), dead := some (r.ns + g.deadNs)
                                     cmp := some false } }))) ∧
    (x.legs[leg.1].dwell ≠ none →
      exec (.windowComparatorCrossing t d leg ma) s = .next (q.modDrv d fun _ => { x with
        legs := x.legs.set leg.1 { x.legs[leg.1] with cmp := windowLevel ref ma g.bandMa } }))

/-- R52-R54, R63, R67: a dwell that has run out is over, and the leg of a switching bridge then does what its comparator commands, the leg
of a bridge under low-side braking turns its low side on. Low sides that were off for one dwell turn on again, where no dwell of theirs
runs. A dead time that has run out turns the opposite switch on where the bridge switches, under low-side braking the low side only; a
step bridge's dead time ends. -/
def Claim.DwellAndDeadTimeEnd : Prop :=
  ∀ (s : State) (t : Nat) (d : Door) (leg : Fin 3),
    let r := s.at t
    let g := s.cfg.door[d.1].drive
    let q := r.outputsDue d
    let x := q.drv[d.1]
    let free := { x.legs[leg.1] with dwell := none }
    let after : LegSt := match x.legs[leg.1].cmp with
      | some high => if x.bridgeOn && s.engineRuns d 2 then free.command high r.ns g.dwellNs g.deadNs else free
      | none => free
    (due x.legs[leg.1].dwell r.ns = true → x.lowOff = none →
      (x.lowBrk = false →
        exec (.curDwellEnd t d leg) s = .next (q.modDrv d fun _ => { x with legs := x.legs.set leg.1 after })) ∧
      (x.lowBrk = true →
        exec (.curDwellEnd t d leg) s = .next (q.modDrv d fun _ => { x with
          legs := x.legs.set leg.1 (free.lowOn r.ns g.dwellNs g.deadNs) }))) ∧
    (due x.lowOff r.ns = true → x.lowBrk = true →
      ∃ y, exec (.curDwellEnd t d leg) s = .next (q.modDrv d fun _ => y) ∧ y.lowOff = none ∧ y.lowBrk = true ∧
        ∀ k : Fin 3, x.legs[k.1].dwell = none → x.legs[k.1].on = false →
          y.legs[k.1].high = false ∧ y.legs[k.1].on = true ∧ y.legs[k.1].dwell = some (r.ns + g.dwellNs)) ∧
    (due x.legs[leg.1].dead r.ns = true →
      exec (.deadTimeEnd t d (.door leg)) s = .next (q.modDrv d fun _ => { x with
        legs := x.legs.set leg.1 { x.legs[leg.1] with
          dead := none, on := x.bridgeOn && (!x.lowBrk || (!x.legs[leg.1].high && x.lowOff.isNone)) } })) ∧
    (due x.stepDead r.ns = true → exec (.deadTimeEnd t d .step) s = .next (q.modDrv d fun _ => { x with stepDead := none }))

/-- R59-R61: at its period start a step bridge in DRIVE takes the command word, with an on-time of duty × 625 / 256 clocks. An
on-time below the minimum pulse with its dead time gives no pulse, a low-side gap below it gives a full-on period, the seventh
period in a row without a low-side pulse is followed by a forced one, and every other period has its pulse. A period in COAST or with the
bridge off counts as one without a low-side pulse, which is the model's choice (log 30); one in BRAKE is not, as its low sides are on. -/
def Claim.StepPwmPeriod : Prop :=
  ∀ (s : State) (t : Nat) (d : Door),
    let r := s.at t
    let g := s.cfg.step[d.1].drive
    let w := s.drv[d.1].shadowNow r.ns
    let c := w.duty.toNat * 625 / 256
    let thr := (g.minPulseNs + g.deadNs) / 5
    let dead := if w.dir ≠ s.drv[d.1].active.dir ∨ w.mode ≠ s.drv[d.1].active.mode then some (r.ns + g.deadNs) else none
    (r.ns + 50000 - g.phaseOffsetNs % 50000) % 50000 = 0 → s.stepFitted d = true → s.engineRuns d 3 = true →
    (r.stepBridgeOn d = false → exec (.pwmPeriodStart t d) s = .next (r.modDrv d fun y => { y with
      active := w, shape := .coast, fullRun := y.fullRun + 1, stepDead := none })) ∧
    (r.stepBridgeOn d = true → w.mode = .coast → exec (.pwmPeriodStart t d) s = .next (r.modDrv d fun y => { y with
      active := w, shape := .coast, fullRun := y.fullRun + 1, stepDead := dead })) ∧
    (r.stepBridgeOn d = true → w.mode = .brake → exec (.pwmPeriodStart t d) s = .next (r.modDrv d fun y => { y with
      active := w, shape := .brake, fullRun := 0, stepDead := dead })) ∧
    (r.stepBridgeOn d = true → w.mode = .drive →
    ∃ k, exec (.pwmPeriodStart t d) s = .next { (r.modDrv d fun y => { y with
          active := w
          stepDead := dead
          shape := (pwmShape w.duty (g.deadNs / 5) thr y.fullRun).1
          fullRun := if (pwmShape w.duty (g.deadNs / 5) thr y.fullRun).1 = .fullOn then y.fullRun + 1 else 0
          drop := y.drop || (pwmShape w.duty (g.deadNs / 5) thr y.fullRun).2
          fullOn := y.fullOn || decide ((pwmShape w.duty (g.deadNs / 5) thr y.fullRun).1 = .fullOn) }) with counters := k } ∧
      (∀ run dead, run < 7 → c < thr → pwmShape w.duty dead thr run = (.off, decide (c ≠ 0))) ∧
      (∀ run dead, run < 7 → thr ≤ c → 10000 - c < thr → pwmShape w.duty dead thr run = (.fullOn, false)) ∧
      (∀ run dead, run < 7 → thr ≤ c → thr ≤ 10000 - c → pwmShape w.duty dead thr run = (.pulse dead c (c + dead), false)) ∧
      (∀ run dead, 7 ≤ run → pwmShape w.duty dead thr run = (.forcedOff thr, false)))

/-- How the legs of the door bridge and the periods of the step bridge switch. -/
def Obligations.BridgesSwitch : Prop := Claim.CurLegSwitches ∧ Claim.DwellAndDeadTimeEnd ∧ Claim.StepPwmPeriod

/-- R55-R57: a trigger on the 5 µs grid starts a sequence of 3.2 µs; one that finds the bank converting is dropped, counted and shown in
ADCOVR. A sequence that completes keeps its values at the head of the last five, with the link voltage and whether it lies below
60 V; a value at a full-scale code counts as not completed, sets RANGE and is counted. -/
def Claim.AdcSequences : Prop :=
  ∀ (s : State) (t : Nat) (d : Door),
    let r := s.at t
    let x := s.drv[d.1]
    let p := supplyOf d
    (s.fitted d = true → r.ns % 5000 = 0 →
      (r.bankBusy d = false →
        exec (.adcTrigger t d) s = .next (r.modDrv d fun y => { y with busy := some (r.ns + 3200), busyCap := false })) ∧
      (r.bankBusy d = true →
        ∃ u, exec (.adcTrigger t d) s = .next u ∧ u = { r with drv := u.drv, counters := u.counters } ∧
          u.drv[d.1].adcOvr = true ∧ u.drv[d.1].bank = (none :: x.bank).take 5 ∧ u.drv[d.1].busy = x.busy ∧
          u.counter (0x21 + d.1) 1 = (s.counter (0x21 + d.1) 1).inc)) ∧
    (∀ (ia ib ic istep : Int) (dv : Nat), due x.busy r.ns = true → x.busyCap = false →
      ∃ u, exec (.adcSequenceComplete t d (.periodic ia ib ic istep dv)) s = .next u ∧
        u = { r with drv := u.drv, sup := s.sup.set p.1 { s.sup[p.1] with low := decide (dv < 600) }, counters := u.counters } ∧
        u.drv[d.1].busy = none ∧ u.drv[d.1].dv = dv ∧
        u.drv[d.1].bank = (some { ia := inRange 12000 ia, ib := inRange 12000 ib, ic := inRange 12000 ic,
                                  istep := inRange 6000 istep } :: x.bank).take 5 ∧
        (u.drv[d.1].range = true ↔ x.range = true ∨ ia.natAbs ≥ 12000 ∨ ib.natAbs ≥ 12000 ∨ ic.natAbs ≥ 12000 ∨ istep.natAbs ≥ 6000) ∧
        u.counter (0x21 + d.1) 2 =
          Ctr.inc^[(decide (ia.natAbs ≥ 12000)).toNat + (decide (ib.natAbs ≥ 12000)).toNat + (decide (ic.natAbs ≥ 12000)).toNat +
            (decide (istep.natAbs ≥ 6000)).toNat] (s.counter (0x21 + d.1) 2))

/-- R56, R113: a CAP conversion triggers at its phase of each period that the capture has recorded, taking 0.64 µs for each code asked
for, while its engine runs (R382); its values enter that period's entry of the capture buffer, whichever period they complete in. -/
def Claim.CapConversion : Prop :=
  ∀ (s : State) (t : Nat) (q : InjectReq),
    let r := s.at t
    s.capture.req = some q →
    (s.engineRuns q.door 11 = true → r.sampled = true → (InjectReq.singles q) ≠ [] → r.ns % 125000 = 20 * q.capPhase → r.bankBusy q.door = false →
      exec (.capConversionTrigger t) s =
        .next (({ r with capture := { s.capture with capAt := s.capture.samples.length } } : State).modDrv q.door fun y => { y with
          busy := some (r.ns + 640 * (InjectReq.singles q).length), busyCap := true })) ∧
    (s.engineRuns q.door 11 = false → exec (.capConversionTrigger t) s = .next r) ∧
    (∀ values : List Int, due s.drv[q.door.1].busy r.ns = true → s.drv[q.door.1].busyCap = true →
      ∃ u, exec (.adcSequenceComplete t q.door (.capture values)) s = .next u ∧
        u = { r with drv := u.drv, counters := u.counters, capture := { s.capture with
          samples := patchAt (patchEntry q ((InjectReq.singles q).zip (values.map (inRange 12000)))) s.capture.capAt s.capture.samples } } ∧
        u.drv[q.door.1].busy = none ∧ u.drv[q.door.1].busyCap = false)

/-- Conversion sequences and CAP conversions. -/
def Obligations.AdcConversions : Prop := Claim.AdcSequences ∧ Claim.CapConversion

/-- R52, R65, R304: pairs commanded closed that sense closed let CUR switch, unless Weir holds a trip, and a leg whose comparator commands a
level takes it at once, unless a dwell runs; when every pair commanded open
senses open, a braking path that waited for it is on, and a module that gives up its token with every pair open releases TOK-OUT. A pair
that is commanded and sensed closed is not touched. -/
def Claim.IsolationPairsSensed : Prop :=
  ∀ (s : State) (t : Nat),
    let r := s.at t
    (∀ d : Door, s.drv[d.1].pairsCmd = true → s.drv[d.1].isoFaulted = false →
      let x := s.drv[d.1]
      let g := s.cfg.door[d.1].drive
      let on := x.weir.trip.isNone && !x.lowBrk && s.engineRuns d 2
      exec (.isolationPairsSensedClosed t d) s = .next (r.modDrv d fun _ => { x with
        pairsSensed := true, bridgeOn := x.weir.trip.isNone
        legs := x.legs.map fun l => match l.cmp with
          | some high => if on && l.dwell.isNone then l.command high r.ns g.dwellNs g.deadNs else l
          | none => l })) ∧
    (∃ u, exec (.isolationPairsSensedOpen t) s = .next u ∧ u = { r with drv := u.drv, pair := u.pair, io := u.io } ∧
      (∀ d : Door, s.drv[d.1].pairsCmd = false → s.drv[d.1].isoBlocked = false →
        u.drv[d.1].pairsSensed = false ∧ u.drv[d.1].brakeAsked = false ∧
        (s.drv[d.1].brakeAsked = true → u.drv[d.1].brake = some (r.ns + ms s.cfg.pers.brakeHoldMs))) ∧
      (∀ d : Door, s.drv[d.1].pairsCmd = true → s.drv[d.1].pairsSensed = true → u.drv[d.1] = s.drv[d.1]) ∧
      ((∀ d : Door, s.drv[d.1].pairsCmd = false ∧ s.drv[d.1].isoBlocked = false) →
        (s.pair.releasing = true ∨ s.pair.tokenBarred = true) → u.pair.token = false))

/-- R66: a pair that does not conduct 20 µs after it was commanded closed, or conducts 20 µs after it was commanded open, is an
isolation fault: ISOFLT is set, the fault is counted, the doorway is FAULT_HELD with cause 2, and a pair that cannot open is
blocked until restart. -/
def Claim.IsolationFault : Prop :=
  ∀ (s : State) (t : Nat) (d : Door) (phases : BitVec 3),
    let st := s.cyc[d.1].state
    s.fitted d = true → st ≠ .isolated → st ≠ .faultHeld → phases ≠ 0 → s.drv[d.1].pairsAt + 20000 ≤ (s.at t).ns →
    ((s.drv[d.1].pairsCmd = true → s.drv[d.1].pairsSensed = false →
      ∃ u, exec (.isolationPairTimeout t d phases) s = .next u ∧
        u.drv[d.1].isoFlt = true ∧ u.drv[d.1].bridgeOn = false ∧ u.cyc[d.1].state = .faultHeld ∧ u.cyc[d.1].fcause = 2 ∧
        u.drv[d.1].isoBlocked = s.drv[d.1].isoBlocked ∧ u.counter (0x21 + d.1) 13 = (s.counter (0x21 + d.1) 13).inc) ∧
     (s.drv[d.1].pairsCmd = false → s.drv[d.1].isoBlocked = false →
      ∀ c : Instr, c = .isolationPairConducting t d phases ∨ c = .isolationPairTimeout t d phases →
      ∃ u, exec c s = .next u ∧
        u.drv[d.1].isoFlt = true ∧ u.drv[d.1].isoBlocked = true ∧ u.drv[d.1].bridgeOn = false ∧ u.pair.iso = true ∧
        u.cyc[d.1].state = .faultHeld ∧ u.cyc[d.1].fcause = 2 ∧ u.counter (0x21 + d.1) 13 = (s.counter (0x21 + d.1) 13).inc))

/-- Isolation pairs: what their sensing allows, and isolation faults. -/
def Obligations.IsolationPairs : Prop := Claim.IsolationPairsSensed ∧ Claim.IsolationFault

/-- R67, R68: above the brake limit the low sides turn off for one minimum dwell; when brake_hold_ms have passed the braking path
turns off. Neither touches another doorway. -/
def Claim.BrakingLimits : Prop :=
  ∀ (s : State) (t : Nat) (d : Door),
    let r := s.at t
    let g := s.cfg.door[d.1].drive
    let q := r.outputsDue d
    let x := q.drv[d.1]
    (∀ ma : Nat, x.lowBrk = true → x.lowOff = none → g.brakeLimitMa < ma →
      exec (.brakeLimitExceeded t d ma) s = .next (q.modDrv d fun _ => { x with
        lowOff := some (r.ns + g.dwellNs), legs := x.legs.map LegSt.off })) ∧
    (∀ b : Nat, s.drv[d.1].brake = some b → b ≤ r.ns →
      ∃ y, exec (.brakePathHoldExpiry t d) s = .next (r.modDrv d fun _ => y) ∧ y.brake = none ∧ y.brakeAsked = false)

/-- R74: below 60 V for more than 10 ms a DV supply is in fault: its event is recorded, every fitted channel on it is braked from the running
tick, and its reservations end. A doorway whose brake has been in force for a period with the leaf at rest is requested Stopped, and with
its step bridge braked no more its bridges are stopped with the pairs open. Recovery lets them close again. A clamp active for more
than 100 ms in a second marks every doorway of the supply. The other supply's doorways are untouched. -/
def Claim.DvSupply : Prop :=
  ∀ (s : State) (t : Nat) (p : Fin 2) (dv : Nat),
    let r := s.at t
    (dv < 600 → s.sup[p.1].uv = false →
      ∃ u, exec (.dvUndervoltage t p dv) s = .next u ∧
        u = { r with sup := s.sup.set p.1 { uv := true, low := true }, drv := u.drv, gov := u.gov, counters := u.counters
                     book := (r.event 0x302 4 (p.1 + 1) (BitVec.ofNat 32 dv) 0 0).book } ∧
        (∀ d : Door, supplyOf d = p →
          (s.fitted d = true → u.drv[d.1].dvBrake = some r.tick ∧ ∀ x ∈ u.gov.res, x.ch = d.ch → x.ended = true) ∧
          (s.stepFitted d = true → u.drv[d.1].dvBrakeStep = some r.tick ∧ ∀ x ∈ u.gov.res, x.ch = d.step → x.ended = true)) ∧
        (∀ d : Door, supplyOf d ≠ p → u.drv[d.1] = s.drv[d.1])) ∧
    (∀ (d : Door) (k : Nat), s.sup[(supplyOf d).1].uv = true → s.drv[d.1].dvBrake = some k → k + 2 ≤ s.tick →
      s.enc[d.ch.1].still = true → s.drv[d.1].dvBrakeStep = none → s.drv[d.1].dvStopped = false →
      (s.dvTick d).drv[d.1].dvStopped = true ∧ (s.dvTick d).drv[d.1].pairsCmd = false ∧ (s.dvTick d).drv[d.1].dvBrake = none ∧
      (s.dvTick d).slot[d.ch.1].req = some (.stopped, 0)) ∧
    (∃ u, exec (.dvRecovered t p) s = .next u ∧ u = { r with sup := s.sup.set p.1 {}, drv := u.drv } ∧
      (∀ d : Door, supplyOf d = p → u.drv[d.1].dvStopped = false ∧ u.drv[d.1].dvBrake = none ∧ u.drv[d.1].dvBrakeStep = none) ∧
      (∀ d : Door, supplyOf d ≠ p → u.drv[d.1] = s.drv[d.1])) ∧
    (∃ u, exec (.dvClampActive t p dv) s = .next u ∧ u = { r with drv := u.drv, counters := u.counters, book := u.book } ∧
      ∀ d : Door, u.drv[d.1] = if supplyOf d = p then { s.drv[d.1] with clamp := true } else s.drv[d.1])

/-- Limits of braking, and DV supply faults. -/
def Obligations.BrakingAndSupply : Prop := Claim.BrakingLimits ∧ Claim.DvSupply

/-- R70-R73: a Weir trip of a fitted channel turns its bridge off at once and is latched with its cause. It is counted by cause; the
channel's set-points are zero, and what the doorway's channels have reserved ends (R79, R93); the doorway's pairs are commanded open, its
lock solenoid is off, and where its leaf is moving the braking path is on or waits for the pairs. At the automatic-clear limit of trips in
10 s the doorway is FAULT_HELD, with cause 1 where it was not already. No other doorway's drive or cycle changes. -/
def Claim.WeirTripLatches : Prop :=
  ∀ (s : State) (t : Nat) (c : Ch) (cause : TripCause) (ma : Nat),
    let d := c.door
    s.chFitted c = true → (s.weirOf c).trip = none → (cause = .overCurrent → s.weirOc c < ma) →
    ∃ u, exec (.weirTrip t c cause ma) s = .next u ∧
      (u.weirOf c).trip = some cause ∧
      (c.isStep = false → u.drv[d.1].bridgeOn = false ∧ u.drv[d.1].lowBrk = false ∧ (∀ k : Fin 3, u.drv[d.1].legs[k.1].on = false) ∧
        u.drv[d.1].refs = Vector.replicate 3 0) ∧
      (c.isStep = true → u.drv[d.1].shape = .coast ∧ u.drv[d.1].shadow.duty = 0) ∧
      u.drv[d.1].pairsCmd = false ∧ u.cyc[d.1].sol = .off ∧ (∀ x ∈ u.gov.res, x.ch = d.ch ∨ x.ch = d.step → x.ended = true) ∧
      (s.enc[d.ch.1].still = false → u.drv[d.1].brake.isSome = true ∨ u.drv[d.1].brakeAsked = true) ∧
      u.counter (0x21 + d.1) ((if c.isStep then 9 else 6) + (TripCause.code cause - 1)) =
        (s.counter (0x21 + d.1) ((if c.isStep then 9 else 6) + (TripCause.code cause - 1))).inc ∧
      (s.autoClearMax c ≤ (((s.at t).ns :: (s.weirOf c).times).filter fun x => (s.at t).ns < x + 10000000000).length →
        s.fitted d = true → s.cyc[d.1].state ≠ .isolated →
        u.cyc[d.1].state = .faultHeld ∧ (s.cyc[d.1].state ≠ .faultHeld → u.cyc[d.1].fcause = 1)) ∧
      (∀ k : Door, k ≠ d → u.drv[k.1] = s.drv[k.1] ∧ u.cyc[k.1] = s.cyc[k.1])

/-- R72, R73: a due clear request stands until the next edge; the edge clears the trip where the current is below 90 % of the
threshold, every switch is off and the gate supply is back, and is refused, counted and repeated 100 ms later otherwise. A
request still refused a second after the first puts the doorway in FAULT_HELD with cause 1. A Miller that has failed requests nothing
(R383). -/
def Claim.WeirClears : Prop :=
  ∀ (s : State) (t : Nat) (c : Ch) (cause : TripCause),
    let r := s.at t
    let w := s.weirOf c
    w.trip = some cause →
    (s.maint.failed = true → exec (.tripClearRequest t c) s = .next r) ∧
    (s.maint.failed = false → w.held = false → due w.clearAt r.ns = true → (∀ f, w.firstClear = some f → r.ns < f + ms 1000) →
      exec (.tripClearRequest t c) s = .next (r.modWeir c fun w => { w with
        requested := true, clearAt := none, firstClear := some (w.firstClear.getD r.ns) })) ∧
    (∀ f, s.maint.failed = false → w.held = false → due w.clearAt r.ns = true → w.firstClear = some f → f + ms 1000 ≤ r.ns → s.fitted c.door = true →
      s.cyc[c.door.1].state ≠ .isolated → s.cyc[c.door.1].state ≠ .faultHeld →
      ∃ u, exec (.tripClearRequest t c) s = .next u ∧ (u.weirOf c).trip = some cause ∧ (u.weirOf c).held = true ∧
        u.cyc[c.door.1].state = .faultHeld ∧ u.cyc[c.door.1].fcause = 1) ∧
    (∀ sense : WeirSense, w.requested = true →
      (sense.ma * 10 < 9 * s.weirOc c → sense.switchesOff = true → sense.gateOk = true →
        ∃ u, exec (.weirClearEdge t c sense) s = .next u ∧ u = { r with drv := u.drv } ∧ (u.weirOf c).trip = none ∧
          (u.weirOf c).requested = false) ∧
      (9 * s.weirOc c ≤ sense.ma * 10 ∨ sense.switchesOff = false ∨ sense.gateOk = false →
        ∃ u, exec (.weirClearEdge t c sense) s = .next u ∧ u = { r with drv := u.drv, counters := u.counters } ∧
          (u.weirOf c).trip = some cause ∧ (u.weirOf c).clearAt = some (r.ns + ms 100) ∧ u.drv[c.door.1].clrRef = true ∧
          u.counter (0x21 + c.door.1) 12 = (s.counter (0x21 + c.door.1) 12).inc))

/-- A Weir trip turns its bridge off and is latched; how it clears. -/
def Obligations.WeirTripsAndClears : Prop := Claim.WeirTripLatches ∧ Claim.WeirClears

/-- R75, R79, R80: a budget overrun of an accepted module whose Miller runs (R383) holds every grant; the hold ends no earlier than 100 ms
after the latest tick over budget. A reservation counts its start-stage power up to its stage end, its run-stage power from there to its
stop and nothing from its stop on, and is dropped only when no 10 s window can reach it any more. -/
def Obligations.GovernorHold : Prop :=
  ∀ (s : State) (t : Nat),
    let r := s.at t
    (∀ w : Nat, s.cfg.pers.budgetW < w → s.millerRuns = true →
      ∃ u, exec (.governorBudgetOverrun t w) s = .next u ∧ u = { r with gov := u.gov, counters := u.counters, book := u.book } ∧
        u.gov = { s.gov with demandW := w, hold := true, lastOver := some r.tick } ∧
        u.counter 0x80 2 = (s.counter 0x80 2).inc ∧
        (∀ c : Ch, ∀ k, k < r.tick + 800 → u.available c k = 0)) ∧
    (∀ x : Nat, s.maint.failed = false → s.gov.hold = true → s.gov.lastOver = some x → x + 800 ≤ r.tick →
      exec (.governorHoldEnd t) s = .next { r with gov := { s.gov with hold := false } }) ∧
    (∃ u, exec (.governorReservationStage t) s = .next u ∧ u = { r with gov := { s.gov with res := u.gov.res } } ∧
      (∀ x ∈ u.gov.res, x ∈ s.gov.res ∧
        (x.start ≤ r.tick → r.tick < x.stop → x.power r.tick = (if r.tick < x.stageEnd then x.startW else x.runW) * x.s) ∧
        (x.stop ≤ r.tick → x.power r.tick = 0)) ∧ (∀ x ∈ s.gov.res, r.tick < x.stop + 80000 → x ∈ u.gov.res) ∧
      (∀ c : Ch, ∀ k, r.tick ≤ k → u.available c k = r.available c k))

/-- R100, R187: 200 ms after Align began, the count of its last latch becomes angle 0, in whatever state the doorway is. The Miller that
decides ends the Align; an UNLOCKING doorway is no longer aligning, and is held at its preload while its lock does not read unlocked
(Table 6-1). A standby follows its partner (R312). -/
def Claim.AlignGivesAngle : Prop :=
  ∀ (s : State) (t : Nat) (d : Door) (a : Nat), let r := s.at t
    s.slot[d.ch.1].mode = .align → s.slot[d.ch.1].alignAt = some a → a + ms 200 ≤ r.ns →
    (s.decides = false → exec (.alignComplete t d) s =
      .next (r.modSlot d.ch fun x => { x with alignCount := some s.enc[d.ch.1].latched })) ∧
    (s.decides = true → ∃ u, exec (.alignComplete t d) s = .next u ∧
      u.slot[d.ch.1].alignCount = some s.enc[d.ch.1].latched ∧ u.slot[d.ch.1].alignAt = none ∧
      (s.cyc[d.1].state = .unlocking → u.cyc[d.1].aligning = false ∧
        (s.cyc[d.1].unlocked = false → u.slot[d.ch.1].req = some (.hold, -(s.cfg.door[d.1].cyc.preloadN : Int)))) ∧
      (∀ k : Door, k ≠ d → u.cyc[k.1] = s.cyc[k.1] ∧ u.slot[k.ch.1] = s.slot[k.ch.1] ∧ u.drv[k.1] = s.drv[k.1]) ∧
      u.safety = s.safety ∧ u.nv = s.nv)

/-- R133, R138: contacts of an edge that disagree in a channel beyond its discrepancy time are an edge fault: counted, recorded, and
the doorway closes slowly. The fault clears once both contacts have been closed together for a second with the leaf in no
closing mode. Nothing but the doorway's obstacle record changes. -/
def Claim.EdgeFaultAndClear : Prop :=
  ∀ (s : State) (t : Nat) (d : Door) (ch : SafetyCh) (a : Nat), let r := s.at t
    ((s.chan ch).edgeDisc[d.1] = some a → s.edgeFltOf ch d = false → a + ms (s.edgeDiscMs ch d) < r.ns →
      ∃ u, exec (.edgeFault t d ch) s = .next u ∧ u = { r with obs := u.obs, counters := u.counters, book := u.book } ∧
        u.edgeFltOf ch d = true ∧ u.slowClose d = true ∧ u.counter (0x51 + d.1) 3 = (s.counter (0x51 + d.1) 3).inc ∧
        ∀ k : Door, k ≠ d → u.obs[k.1] = s.obs[k.1]) ∧
    ((s.chan ch).edgeOkAt[d.1] = some a → a + ms 1000 ≤ r.ns → s.slot[d.ch.1].mode.closing s.slot[d.ch.1].arg = false →
      ∃ u, exec (.edgeFaultClear t d ch) s = .next u ∧ u = { r with obs := u.obs } ∧ u.edgeFltOf ch d = false ∧
        ∀ k : Door, k ≠ d → u.obs[k.1] = s.obs[k.1])

/-- R140, R192: a stall that has lasted step.stall_ms is shown and counted. An extending step ends extended where the image says so;
a retracting one is held at 0 mA for 500 ms and tried once more, and its second stall is a STEP_FAULT. This is the Miller that decides; a
standby follows its partner (R312). -/
def Claim.StepStall : Prop :=
  ∀ (s : State) (t : Nat) (d : Door), let r := s.at t
    let y := s.cyc[d.1]
    s.decides = true →
    (∀ a, s.obs[d.1].stallAt = some a → a + ms (s.stepCfg d).stallMs ≤ r.ns →
      ∃ u, exec (.stepStall t d) s = .next u ∧ u.obs[d.1].stall = true ∧ u.obs[d.1].stallAt = none ∧
        u.counter (0x51 + d.1) 8 = (s.counter (0x51 + d.1) 8).inc ∧
        (y.step = .extending → (s.stepCfg d).stallExtended = true → u.cyc[d.1].step = .extended ∧
          u.slot[d.step.1].req = some (.hold, ((s.stepCfg d).holdMa : Int))) ∧
        (y.step = .retracting → y.stepRetried = false → u.cyc[d.1].step = .retracting ∧
          u.cyc[d.1].stepHold = some (r.ns + ms 500) ∧ u.slot[d.step.1].req = some (.hold, 0)) ∧
        (y.step = .retracting → y.stepRetried = true → u.cyc[d.1].step = .fault ∧ u.cyc[d.1].stepFlt = true) ∧
        u.cyc[d.1].state = y.state) ∧
    (∀ a, y.stepHold = some a → a ≤ r.ns → y.step = .retracting →
      ∃ u, exec (.stepStallRetry t d) s = .next u ∧ u = { r with enc := u.enc, slot := u.slot, cyc := u.cyc } ∧
        u.cyc[d.1].stepHold = none ∧ u.cyc[d.1].stepRetried = true ∧ u.slot[d.step.1].req = some (.travelClose, 0))

/-- R122, R123, R124: where detection is armed, a residual above the threshold of the direction, less a negative bias, counts; the period that
completes the confirmation count is a detection, counted, and any other period sets the count to 0. Where it is not armed nothing is detected. -/
def Claim.ObserverDetects : Prop :=
  ∀ (s : State) (d : Door), let u := s.detect d
    let o := s.obs[d.1]
    let n := (s.obsCfg d).confirm
    u.obs[d.1].armed = s.obsArmed d ∧
    (s.obsArmed d = true ↔ (s.obsCfg d).enable = true ∧ o.noCal = false ∧ s.cmp[d.1].window = true ∧ s.enc[d.ch.1].ref = true ∧
      (s.slot[d.ch.1].watches).isSome = true) ∧
    (s.obsArmed d = false → u.obs[d.1].confirm = 0 ∧ u.obs[d.1].detClose = o.detClose ∧ u.obs[d.1].detOpen = o.detOpen ∧
      u.counters = s.counters) ∧
    (∀ opening : Bool, s.obsArmed d = true → s.slot[d.ch.1].watches = some opening →
      let above : Prop := ((if opening then (s.obsCfg d).openThreshold else (s.obsCfg d).closeThreshold : Nat) : Rat) <
        o.residual opening - min (o.bias opening) 0
      (¬ above → u.obs[d.1].confirm = 0 ∧ u.obs[d.1].detClose = o.detClose ∧ u.obs[d.1].detOpen = o.detOpen) ∧
      (above → o.confirm + 1 < n → u.obs[d.1].confirm = o.confirm + 1 ∧ u.obs[d.1].detClose = o.detClose ∧
        u.obs[d.1].detOpen = o.detOpen) ∧
      (above → n ≤ o.confirm + 1 → u.obs[d.1].confirm = 0 ∧ u.obs[d.1].detClose = !opening ∧ u.obs[d.1].detOpen = opening ∧
        u.obs[d.1].spoilt = true ∧ u.counter (0x51 + d.1) opening.toNat = (s.counter (0x51 + d.1) opening.toNat).inc)) ∧
    (∀ e : Door, e ≠ d → u.obs[e.1] = s.obs[e.1]) ∧ u.slot = s.slot ∧ u.enc = s.enc ∧ u.drv = s.drv ∧ u.nv = s.nv

/-- R134, R135, R136, R137: a qualifying period of a travel adds its residual. A motion that ends with too few of them, or was spoilt, leaves the
bias as it was and is counted as skipped. Any other moves the bias of its direction by at most the step towards the mean, within 40 N; a clamp
brings drift into force, and both biases are stored. -/
def Claim.BiasTracks : Prop :=
  ∀ (s : State) (d : Door), let o := s.obs[d.1]
    let g := s.obsCfg d
    (∀ (m : DoorMeas) (opening : Bool), s.slot[d.ch.1].mode.travel = some opening → o.noCal = false →
      (s.biasQualifies d m = true → (s.trackBias d m).obs[d.1] = { o with sumX := o.sumX + o.residual opening, nX := o.nX + 1 }) ∧
      (s.biasQualifies d m = false → s.trackBias d m = s)) ∧
    ∀ opening : Bool, let u := s.updateBias d opening
      let skipped : Prop := o.nX < g.minPeriods ∨ o.spoilt = true ∨ o.noCal = true
      let step : Rat := (g.biasStep : Rat) / 10
      let want := o.bias opening + clampRat (-step) step (o.sumX / o.nX - o.bias opening)
      (skipped → u = s.bump (0x51 + d.1) 6) ∧
      (¬ skipped →
        u = { s with nv := { s.nv with bias := u.nv.bias }, obs := u.obs, counters := u.counters, book := u.book } ∧
        u.obs[d.1].bias opening = (if want < -40 then -40 else if 40 < want then 40 else want) ∧
        u.obs[d.1].bias (!opening) = o.bias (!opening) ∧ (u.obs[d.1].drift = true ↔ o.drift = true ∨ want < -40 ∨ 40 < want) ∧
        u.nv.bias[d.1].value = some (u.obs[d.1].bClose, u.obs[d.1].bOpen) ∧
        u.counter (0x51 + d.1) 5 = (s.counter (0x51 + d.1) 5).inc ∧ ∀ e : Door, e ≠ d → u.obs[e.1] = s.obs[e.1])

/-- Align gives the angle; the observer and its biases; edge faults; step stalls. -/
def Obligations.AngleEdgeAndStall : Prop := 
  Claim.AlignGivesAngle ∧ Claim.ObserverDetects ∧ Claim.BiasTracks ∧ Claim.EdgeFaultAndClear ∧ Claim.StepStall

/-- R165: a doorway still UNLOCKING (or unlocking for a service jog) at the end of its time has its solenoid switched off and its
reservation released, and is FAULT_HELD with cause 7. -/
def Claim.UnlockTimeout : Prop :=
  ∀ (s : State) (t : Nat) (d : Door) (a : Nat), let r := s.at t
    s.fitted d = true → s.decides = true → s.cyc[d.1].unlockDl = some a → a ≤ r.ns →
    (s.cyc[d.1].state = .unlocking ∨ s.cyc[d.1].state = .service) →
    ∃ u, exec (.unlockTimeout t d) s = .next u ∧ u.cyc[d.1].state = .faultHeld ∧ u.cyc[d.1].fcause = 7 ∧ u.cyc[d.1].sol = .off ∧
      u.cyc[d.1].proven = false ∧ u.slot[d.ch.1].req = some (.stopped, 0) ∧
      (∀ x ∈ u.gov.res, x.ch = d.ch → x.ended = true) ∧
      (∀ k : Door, k ≠ d → u.cyc[k.1] = s.cyc[k.1] ∧ u.drv[k.1] = s.drv[k.1] ∧ u.slot[k.ch.1] = s.slot[k.ch.1])

/-- R166: an opening leaf that has not reached open end in its time is OPEN, partly open, under Hold at 0 N, and an event is
recorded with severity Major. -/
def Claim.OpenTimeout : Prop :=
  ∀ (s : State) (t : Nat) (d : Door) (a : Nat), let r := s.at t
    s.decides = true → s.cyc[d.1].openDl = some a → a ≤ r.ns → s.cyc[d.1].state = .opening →
    ∃ u, exec (.openTimeout t d) s = .next u ∧ u.cyc[d.1].state = .open ∧ u.cyc[d.1].partly = true ∧
      u.slot[d.ch.1].req = some (.hold, 0) ∧ u.book = (r.doorEvent d 7 4 0 s.enc[d.ch.1].strokeWord 0 0).book ∧
      (∀ k : Door, k ≠ d → u.cyc[k.1] = s.cyc[k.1])

/-- R171: at the end of REOPEN_HOLD a close still in force and below the reopen limit is to close again: its start is planned with the
doors of that mill tick, and where the Governor grants it the doorway is CLOSING with the close in force and the same reopen count. At
the limit the doorway stays, the close command ends and an event of severity Notice is raised; with no close in force it stays. -/
def Claim.ReopenHoldExpiry : Prop :=
  ∀ (s : State) (t : Nat) (d : Door) (a : Nat), let r := s.at t
    let y := s.cyc[d.1]
    let p := r.modCyc d fun y => { y with holdDl := none }
    s.decides = true → y.holdDl = some a → a ≤ r.ns → y.state = .reopenHold →
    (y.closeCmd = false → exec (.reopenHoldExpiry t d) s = .next p) ∧
    (y.closeCmd = true → y.reopens < (s.cycCfg d).maxReopens →
      ∃ u, exec (.reopenHoldExpiry t d) s = .next u ∧ u = p.modCyc d (fun y => { y with planWant := true }) ∧
        (s.mustRetract d = false → (r.plan d.ch false).isSome = true →
          (u.planAgain d).cyc[d.1].state = .closing ∧ (u.planAgain d).cyc[d.1].closeCmd = true ∧
          (u.planAgain d).cyc[d.1].reopens = y.reopens)) ∧
    (y.closeCmd = true → (s.cycCfg d).maxReopens ≤ y.reopens →
      ∃ u, exec (.reopenHoldExpiry t d) s = .next u ∧ u = { r with cyc := u.cyc, counters := u.counters, book := u.book } ∧
        u.cyc[d.1].state = .reopenHold ∧ u.cyc[d.1].closeCmd = false ∧
        u.book = (r.doorEvent d 8 2 0 (BitVec.ofNat 32 y.reopens) 0 0).book)

/-- R163, R175, R178, R179, R180, R36: what a mill tick does first in a fitted doorway: an operated key isolates it, and its session loses the
doorway's token; a returned key leads to PROVING or UNREFERENCED; a lock pair that stops reading locked, or an operated handle, leads to
FAULT_HELD; a leaf with an encoder fault becomes UNREFERENCED once at rest. With none of these the doorway keeps its state. -/
def Claim.EarlyTransitions : Prop :=
  ∀ (s : State) (d : Door), s.fitted d = true → let y := s.cyc[d.1]
    let e := s.enc[d.ch.1]
    let u := s.earlyItems d
    let lost : Prop := (y.state = .closedLocked ∨ y.state = .released) ∧ s.lockRead d = false
    let proves : Prop := e.ref = true ∧ e.faultIsolated = false ∧ s.closedRead d = true ∧ s.lockRead d = true ∧
      e.stroke.natAbs ≤ (s.encCfg d.ch).closedWindow
    (y.state ≠ .isolated → s.keyOperated d = true → u.cyc[d.1].state = .isolated ∧ u.cyc[d.1].proven = false ∧ u.cyc[d.1].sol = .off ∧
      u.counter (0x61 + d.1) 32 = (s.counter (0x61 + d.1) 32).inc ∧ u.maint.doorTok[d.1] = none ∧
      u.slot[d.ch.1].req = some (if e.still then .stopped else .brake, 0)) ∧
    (y.state = .isolated → s.keyOperated d = true → y.encRest = false → u.cyc[d.1].state = .isolated) ∧
    (y.state = .isolated → s.keyOperated d = false → s.handleOperated d = false → s.partnerIso = false → y.encRest = false →
      (proves → u.cyc[d.1].state = .proving) ∧ (¬ proves → (e.encFlt = true → e.ref = false) → u.cyc[d.1].state = .unreferenced)) ∧
    (lost → s.keyOperated d = false → u.cyc[d.1].state = .faultHeld ∧ u.cyc[d.1].fcause = 6) ∧
    (¬ lost → s.keyOperated d = false → s.handleOperated d = true → y.state ≠ .isolated → y.state ≠ .faultHeld →
      u.cyc[d.1].state = .faultHeld ∧ u.cyc[d.1].fcause = 5 ∧ u.cyc[d.1].sol = .off ∧ u.slot[d.ch.1].req = some (.stopped, 0)) ∧
    (¬ lost → s.keyOperated d = false → s.handleOperated d = false → y.state ≠ .isolated → y.encRest = true → e.still = true →
      u.cyc[d.1].state = .unreferenced) ∧
    (¬ lost → s.keyOperated d = false → s.handleOperated d = false → y.state ≠ .isolated → (y.encRest = false ∨ e.still = false) →
      u.cyc[d.1].state = y.state) ∧
    u.cfg = s.cfg ∧ u.nv = s.nv ∧ ∀ k : Door, k ≠ d → u.cyc[k.1] = s.cyc[k.1]

/-- R46, R163, R165, R166, R169, R170, R172, R187: the transitions of a motion at a mill tick: a Reverse, an observer detection, the
lock-zone entry, open end, the reopen target, the unlocked lock pair with and without an electrical angle, and closed stand-still. -/
def Claim.MotionTransitions : Prop :=
  ∀ (s : State) (d : Door), let y := s.cyc[d.1]
    let e := s.enc[d.ch.1]
    let x := s.slot[d.ch.1]
    let g := s.cycCfg d
    (x.brakeEnded = false → let u := s.reportItems d;
      ((y.state = .closing ∨ y.state = .locking) → x.mode = .reverse → u.cyc[d.1].state = .reversing ∧
        u.cyc[d.1].reopens = y.reopens + 1 ∧ u.counter (0x61 + d.1) 7 = (s.counter (0x61 + d.1) 7).inc) ∧
      (y.state = .opening → x.mode ≠ .reverse → s.obs[d.1].detOpen = true → u.cyc[d.1].state = .open ∧ u.cyc[d.1].partly = true) ∧
      (y.state = .reversing → y.openWanted = false → s.obs[d.1].detOpen = true → x.rphase = true →
        u.cyc[d.1].state = .reopenHold ∧ u.slot[d.ch.1].req = some (.hold, 0))) ∧
    (let u := s.cmpItems d;
      (y.state = .closing → s.cmp[d.1].lzoneItem = true → u.cyc[d.1].state = .locking ∧ u.cyc[d.1].attempts = 1) ∧
      (s.cmp[d.1].lzoneItem = false → u.cyc[d.1].state = y.state)) ∧
    (let u := s.phaseItems d;
      (y.state = .opening → y.startTick = none → s.atOpenEnd d = true → u.cyc[d.1].state = .open ∧ u.cyc[d.1].partly = false) ∧
      (y.state = .unlocking → y.unlocked = false → s.unlockRead d = true →
        (s.hasAngle d = true → y.startTick = none → y.aligning = false →
          ¬ ((s.stepCfg d).extendFirst = true ∧ y.step = .extending) →
          u.cyc[d.1].state = .opening ∧ u.slot[d.ch.1].req = some (.travelOpen, 0)) ∧
        (s.hasAngle d = false → u.cyc[d.1].state = .unlocking ∧ u.cyc[d.1].unlocked = true ∧ u.cyc[d.1].aligning = true ∧
          u.slot[d.ch.1].req = some (.align, 0))) ∧
      (y.state = .reversing → y.openWanted = false → y.reopenTarget ≤ e.stroke → u.cyc[d.1].state = .reopenHold ∧
        u.cyc[d.1].holdDl = some (s.ns + ms g.reopenHoldMs)) ∧
      (y.state = .reversing → y.openWanted = true → s.atOpenEnd d = true → u.cyc[d.1].state = .open) ∧
      (y.state = .locking → y.lockPhase = .closing → s.closedStill d = true →
        (e.ref = true → e.stroke.natAbs ≤ (s.encCfg d.ch).closedWindow) →
        u.cyc[d.1].lockPhase = .released ∧ u.cyc[d.1].sol = .off ∧ u.cyc[d.1].switchDl = some (s.ns + ms g.switchTimeoutMs) ∧
        u.slot[d.ch.1].req = some (.hold, -(g.preloadN : Int))))

/-- R159, R163, R185: a locked doorway whose release is in force is RELEASED, and goes back when it is not; under open_mode 1 a release that
has come into force asks for an open. The loss of the zero-speed line moves no leaf and stops no motion: it only raises an event of severity
Major for every fitted doorway that is neither CLOSED_LOCKED nor ISOLATED. -/
def Claim.ReleaseTransitions : Prop :=
  (∀ (s : State) (d : Door), s.fitted d = true → s.cyc[d.1].restarting = false → let y := s.cyc[d.1]
    let u := s.releaseItem d
    u = { s with cyc := u.cyc, waiting := u.waiting } ∧ (∀ k : Door, k ≠ d → u.cyc[k.1] = s.cyc[k.1]) ∧
    (y.state = .closedLocked → s.released d = true → u.cyc[d.1].state = .released ∧
      u.waiting = s.waiting ++ (if (s.cycCfg d).openMode = 1 ∧ ¬ (y.relWas = true ∧ y.zeroWas = true) then
        [{ door := d, kind := .open_, src := .auto }] else [])) ∧
    (y.state = .released → s.released d = false → u.cyc[d.1].state = .closedLocked ∧ u.waiting = s.waiting) ∧
    ((y.state = .closedLocked → s.released d = false) → (y.state = .released → s.released d = true) →
      u.cyc[d.1].state = y.state ∧ u.waiting = s.waiting)) ∧
  ∀ s : State,
    let u := s.zeroSpeedLost
    u = { s with counters := u.counters, book := u.book } ∧
    (s.cfg.recorder.minSeverity ≤ 4 → s.book.intakeOpen = true → s.book.powerFailed = false → ∀ d : Door, s.fitted d = true →
      s.cyc[d.1].state ≠ .closedLocked → s.cyc[d.1].state ≠ .isolated → (s.bucket (d.1 * 48 + 11)).tokens ≠ 0 →
      ∃ r ∈ u.book.offered, r.event = d.1 * 48 + 11 ∧ r.severity = 4 ∧ r.mill = s.mill) ∧
    (let v := s.latchInputs;
      (s.zeroSpeed = true → v.zeroSpeed = false → s.maint.configured = true →
        v = ({ s with io := v.io } : State).updateRelease.zeroSpeedLost) ∧
      v.slot = s.slot ∧ v.cyc = s.cyc ∧ v.enc = s.enc ∧ v.drv = s.drv ∧ v.gov = s.gov)

/-- What a mill tick and the ends of the unlock time, the opening time and the reopen hold do to the door cycle, and the change of release. -/
def Obligations.DoorTimeouts : Prop :=
  Claim.EarlyTransitions ∧ Claim.MotionTransitions ∧ Claim.ReleaseTransitions ∧ Claim.UnlockTimeout ∧ Claim.OpenTimeout ∧
    Claim.ReopenHoldExpiry

/-- R168: a closing motion's time runs from its start tick, at which Travel-close is requested of a leaf that need not come to rest first;
a leaf that is still CLOSING at its end (it has not reached lock-zone entry) is OPEN, partly open, under Hold at 0 N; the close command is
no longer in force and an event of severity Major (4) is raised. -/
def Obligations.CloseTimeout : Prop :=
  ∀ (s : State) (t : Nat) (d : Door) (a : Nat), let r := s.at t
    (∀ x : Reservation, (s.enterClosing d x).cyc[d.1].state = .closing ∧
      (s.enterClosing d x).cyc[d.1].closeDl = some (x.start * 125000 + ms (s.cycCfg d).closeTimeoutMs)) ∧
    (s.decides = true → s.cyc[d.1].state = .closing → s.cyc[d.1].startTick = some a → a ≤ r.tick + 1 → s.cyc[d.1].restFirst = false →
      ∃ u, exec (.governorStartTick t d.ch) s = .next u ∧ u.cyc[d.1].state = .closing ∧ u.cyc[d.1].startTick = none ∧
        u.cyc[d.1].closeDl = s.cyc[d.1].closeDl ∧ u.slot[d.ch.1].req = some (.travelClose, 0)) ∧
    (s.decides = true → s.cyc[d.1].closeDl = some a → a ≤ r.ns → s.cyc[d.1].state = .closing →
      ∃ u, exec (.closeTimeout t d) s = .next u ∧ u.cyc[d.1].state = .open ∧ u.cyc[d.1].partly = true ∧
        u.cyc[d.1].closeCmd = false ∧ u.slot[d.ch.1].req = some (.hold, 0) ∧
        u.book = (r.doorEvent d 7 4 1 s.enc[d.ch.1].strokeWord 0 0).book ∧
        (∀ k : Door, k ≠ d → u.cyc[k.1] = s.cyc[k.1]))

/-- R172, R174: a lock pair that does not read locked at the end of the switch time fails the attempt: counted, LOCKFLT shown, PROVEN off.
With attempts left a pull (R73: none in a trip state, R382: nor without the LOCK engine) and Travel-close start the next one; else the
doorway is CLOSED_UNLOCKED. -/
def Claim.LockSwitchTimeout : Prop :=
  ∀ (s : State) (t : Nat) (d : Door) (a : Nat), let r := s.at t
    let y := s.cyc[d.1]
    s.decides = true → y.switchDl = some a → a ≤ r.ns → y.state = .locking → s.lockRead d = false → s.learning d = false →
    ∃ u, exec (.lockSwitchTimeout t d) s = .next u ∧ u.cyc[d.1].lockFlt = true ∧ u.cyc[d.1].proven = false ∧
      u.counter (0x61 + d.1) 11 = (s.counter (0x61 + d.1) 11).inc ∧
      (if y.attempts < (s.cycCfg d).maxAttempts then
        u.cyc[d.1].state = .locking ∧ u.cyc[d.1].attempts = y.attempts + 1 ∧ u.cyc[d.1].lockPhase = .retry ∧
        u.cyc[d.1].sol = (if s.tripped d || !s.engineRuns d 4 then .off else .pull r.ns) ∧ u.slot[d.ch.1].req = some (.travelClose, 0)
      else u.cyc[d.1].state = .closedUnlocked ∧ u.cyc[d.1].sol = .off) ∧
      u.safety = s.safety ∧ ∀ k : Door, k ≠ d → u.drv[k.1] = s.drv[k.1]

/-- R172-R174: a lock pair that has read locked for the settle time starts the proof: PROVING, with its results not run. Where the module
holds the token and the doorway has an angle, Back-drive is requested at the configured force of a leaf that already stands under the
closing preload, else the preload first. -/
def Claim.LockSettles : Prop :=
  ∀ (s : State) (t : Nat) (d : Door) (a : Nat), let r := s.at t
    s.decides = true → s.cyc[d.1].settleDl = some a → a ≤ r.ns → s.cyc[d.1].state = .locking → s.lockRead d = true →
    s.learning d = false →
    ∃ u, exec (.lockSettleComplete t d) s = .next u ∧ u = { r with cyc := u.cyc, slot := u.slot } ∧
      u.cyc[d.1].state = .proving ∧ u.cyc[d.1].proven = false ∧ u.cyc[d.1].prfR = 0 ∧ u.cyc[d.1].prfB = 0 ∧
      u.cyc[d.1].prfS = 0 ∧ u.cyc[d.1].waitToken = !s.pair.token ∧
      (s.pair.token = true → s.hasAngle d = true → u.slot[d.ch.1].req =
        if s.preloaded d then some (.backDrive, ((s.cycCfg d).backdriveN : Int)) else some (.hold, -((s.cycCfg d).preloadN : Int))) ∧
      (∀ k : Door, k ≠ d → u.cyc[k.1] = s.cyc[k.1] ∧ u.slot[k.ch.1] = s.slot[k.ch.1])

/-- R156, R174: a pull that has lasted pull_ms goes over to the hold duty; in a retry at closed stand-still the Miller that decides ends it
with the solenoid off under preload, and the switch time runs from then. In a trip state the solenoid goes off instead (R73), and a stopped
LOCK engine does neither (R382). -/
def Claim.PullEnds : Prop :=
  ∀ (s : State) (t : Nat) (d : Door) (a : Nat), let r := s.at t
    s.cyc[d.1].sol = .pull a → a + ms (s.cycCfg d).pullMs ≤ r.ns →
    (s.engineRuns d 4 = false → exec (.lockPullComplete t d) s = .next r) ∧
    (s.engineRuns d 4 = true →
      (¬ (s.isLocking d = true ∧ s.cyc[d.1].lockPhase = .pulling) →
        exec (.lockPullComplete t d) s = .next (r.holdSol d) ∧
        (s.tripped d = true → (r.holdSol d).cyc[d.1].sol = .off) ∧
        (s.tripped d = false → (r.holdSol d).cyc[d.1].sol = .hold ∧
          (r.holdSol d).io.ls[(s.lockLs d).1].shadow = 10 * (s.cycCfg d).holdPct)) ∧
      (s.decides = true → s.isLocking d = true → s.cyc[d.1].lockPhase = .pulling →
        ∃ u, exec (.lockPullComplete t d) s = .next u ∧ u = { r with slot := u.slot, cyc := u.cyc, io := u.io } ∧
          u.cyc[d.1].sol = .off ∧ u.cyc[d.1].lockPhase = .released ∧
          u.cyc[d.1].switchDl = some (r.ns + ms (s.cycCfg d).switchTimeoutMs) ∧
          u.io.ls[(s.lockLs d).1].cmd = false ∧
          u.slot[d.ch.1].req = some (.hold, -((s.cycCfg d).preloadN : Int))))

/-- Locking: the switch time, the settle time and the end of the pull. -/
def Obligations.LockingAttempts : Prop := Claim.LockSwitchTimeout ∧ Claim.LockSettles ∧ Claim.PullEnds

/-- R173 (Table 6-5): at the end of the back-drive of a PROVING doorway, it is CLOSED_LOCKED with PROVEN exactly if all three checks
pass: Runner's, the back-drive (excursion within its limit, the pair locked throughout) and Bedstone's. Otherwise it is not
proven, and shows LOCKFLT. -/
def Obligations.ThreeWayLockProof : Prop :=
  ∀ (s : State) (t : Nat) (d : Door) (a : Nat), let r := s.at t
    let y := s.cyc[d.1]
    let pass := s.runnerCheck d = true ∧ y.excursion ≤ (s.cycCfg d).backdriveMax ∧ y.backBad = false ∧ s.lockRead d = true ∧
      s.bedstoneCheck d = true
    s.decides = true → y.backDl = some a → a ≤ r.ns → y.state = .proving → s.learning d = false →
    ∃ u, exec (.backdriveCheckEnd t d) s = .next u ∧ u.safety = s.safety ∧ (∀ k : Door, k ≠ d → u.cyc[k.1] = s.cyc[k.1] ∧ u.drv[k.1] = s.drv[k.1]) ∧
      (pass → u.cyc[d.1].state = .closedLocked ∧ u.cyc[d.1].proven = true ∧ u.cyc[d.1].prfR = 1 ∧ u.cyc[d.1].prfB = 1 ∧
        u.cyc[d.1].prfS = 1 ∧ u.slot[d.ch.1].req = some (.stopped, 0)) ∧
      (¬ pass → u.cyc[d.1].state ≠ .closedLocked ∧ u.cyc[d.1].proven = false ∧ u.cyc[d.1].lockFlt = true)

/-- R191, R177: a step motion that has not ended in its time is a STEP_FAULT, held at 0 mA, counted and shown, and the door cycle
goes on in its state. -/
def Claim.StepTimeouts : Prop :=
  ∀ (s : State) (t : Nat) (d : Door) (a : Nat) (c : Instr), let r := s.at t
    s.decides = true → s.cyc[d.1].stepDl = some a → a ≤ r.ns →
    (c = .stepExtendTimeout t d ∧ s.cyc[d.1].step = .extending ∨ c = .stepRetractTimeout t d ∧ s.cyc[d.1].step = .retracting) →
    ∃ u, exec c s = .next u ∧
      u = { r with enc := u.enc, gov := u.gov, slot := u.slot, cyc := u.cyc, counters := u.counters, book := u.book } ∧
      u.cyc[d.1].step = .fault ∧ u.cyc[d.1].stepFlt = true ∧ u.cyc[d.1].state = s.cyc[d.1].state ∧
      u.slot[d.step.1].req = some (.hold, 0) ∧ u.counter (0x61 + d.1) 34 = (s.counter (0x61 + d.1) 34).inc ∧
      (∀ k : Door, k ≠ d → u.cyc[k.1] = s.cyc[k.1])

/-- R194: a cycle record that waits for its loop confirmation is written at the end of its time without it, counted by its outcome,
and the doorway waits no more. -/
def Claim.CycleRecordTimeout : Prop :=
  ∀ (s : State) (t : Nat) (d : Door) (a : Nat) (c : CycleRec), let r := s.at t
    s.decides = true → s.cyc[d.1].recordDl = some a → a ≤ r.ns → s.cyc[d.1].ending = some c →
    ∃ u, exec (.cycleRecordTimeout t d) s = .next u ∧ u = { r with cyc := u.cyc, counters := u.counters, book := u.book } ∧
      u.cyc[d.1] = { s.cyc[d.1] with ending := none, recordDl := none } ∧
      (s.book.intakeOpen = true → s.book.powerFailed = false →
        u.book.offered = s.book.offered ++
          [r.record (d.1 * 48) (outcomeSeverity c.outcome) (d.1 + 1) (.cycle { c with loopok := false })]) ∧
      u.counter (0x61 + d.1) c.outcome = (s.counter (0x61 + d.1) c.outcome).inc

/-- Step time limits, and a record that waits in vain for its loop confirmation. -/
def Obligations.StepAndRecordTimeouts : Prop := Claim.StepTimeouts ∧ Claim.CycleRecordTimeout

/-- No door command waits and no doorway or step waits for the plan of a start: the next decision is that of one command alone. -/
def Sys2Proof.Machine.State.idle (s : State) : Bool :=
  s.waiting.isEmpty && (List.finRange 16).all fun d => !s.cyc[d.1].planWant && s.cyc[d.1].stepWant.isNone

/-- R158, R160, R162, R167: a close command waits for the end of its mill tick, at which `State.decideTick`, with which MILL_TICK begins,
decides it. With no code against it, in OPEN, and its start granted by the Governor, it is accepted: the doorway is CLOSING with the close
command in force, its source noted and its reopen count 0. Of the other doorways only the changes of release are taken, which every tick
takes last, and no command but an automatic open waits from then on. -/
def Claim.CloseAcceptedInOpen : Prop :=
  ∀ (s : State) (t : Nat) (d : Door) (src : CmdSrc), let r := s.at t
    let c : DoorCmd := { door := d, kind := .close, src := src, lineOn := s.tlOn 3 }
    s.millerRuns = true → s.decides = true → s.idle = true → s.lineIgnored d src = false → s.edgeOf d src = true → s.carried c = true →
    (c.bus = true → s.busesMute = false) → s.generalCode c = none →
    s.cyc[d.1].state = .open → lowest (r.closeCodes d src c.lineOn) = none → s.mustRetract d = false → (r.plan d.ch false).isSome = true →
    ∃ u, exec (.closeCommand t d src) s = .next u ∧ u = { r with waiting := [c] } ∧
      (let v := u.decideTick
       v.cyc[d.1].state = .closing ∧ v.cyc[d.1].closeCmd = true ∧ v.cyc[d.1].closeSrc = CmdSrc.code (s.closeSrcOf d src) ∧
       v.cyc[d.1].closeTick = some r.tick ∧ v.cyc[d.1].reopens = 0 ∧ v.maint.reason = 0 ∧ (∀ w ∈ v.waiting, w.src = .auto) ∧
       (∀ k : Door, k ≠ d → v.cyc[k.1] = (r.releaseItem k).cyc[k.1]) ∧ v.safety = s.safety ∧ v.nv = s.nv)

/-- R159, R162, R165: an open command waits for the end of its mill tick. With no code against it, in RELEASED, and its start granted by
the Governor, it is accepted there: the doorway is UNLOCKING with its solenoid pulled (R73: not in a trip state, R382: nor without its
LOCK engine) and its unlock time running, and no close command is in force. -/
def Claim.OpenAcceptedInReleased : Prop :=
  ∀ (s : State) (t : Nat) (d : Door) (src : CmdSrc), let r := s.at t
    let c : DoorCmd := { door := d, kind := .open_, src := src, lineOn := s.tlOn 3 }
    s.millerRuns = true → s.decides = true → s.idle = true → s.edgeOf d src = true → s.carried c = true →
    (c.bus = true → s.busesMute = false) → s.generalCode c = none →
    s.cyc[d.1].state = .released → lowest (r.openCodes d src) = none → (r.plan d.ch true).isSome = true →
    ∃ u, exec (.openCommand t d src) s = .next u ∧ u = { r with waiting := [c] } ∧
      (let v := u.decideTick
       v.cyc[d.1].state = .unlocking ∧ v.cyc[d.1].closeCmd = false ∧
       v.cyc[d.1].sol = (if s.tripped d || !s.engineRuns d 4 then .off else .pull r.ns) ∧ v.cyc[d.1].unlockDl = some (r.ns + ms (s.cycCfg d).unlockTimeoutMs) ∧ v.maint.reason = 0 ∧
       (s.hasAngle d = true → v.slot[d.ch.1].req = some (.hold, -((s.cycCfg d).preloadN : Int))) ∧
       (∀ k : Door, k ≠ d → v.cyc[k.1] = (r.releaseItem k).cyc[k.1]) ∧ v.safety = s.safety ∧ v.nv = s.nv)

/-- R162, R182, R183: a door reset, carried by a telegram or of a session that holds the doorway's token, waits for the end of its mill
tick. Of a FAULT_HELD doorway it is refused there 0x2E while a cause is present, 0x2F once a pair has been sensed conducting, at the
partner too (R324), and else moves it to the first of PROVING, LOCKING, OPEN partly open and UNREFERENCED that applies; a session is
answered with the code. -/
def Claim.DoorResetLeavesFault : Prop :=
  ∀ (s : State) (t : Nat) (d : Door) (src : ResetSrc), let r := s.at t
    let c : DoorCmd := match src with
      | .telegram => { door := d, kind := .reset, src := .telegram, lineOn := s.tlOn 3 }
      | .tally m => { door := d, kind := .reset, src := .tally, msg := some m }
    s.millerRuns = true → s.decides = true → s.idle = true → s.carried c = true → (c.bus = true → s.busesMute = false) →
    s.generalCode c = none → s.cyc[d.1].state = .faultHeld →
    (match src with
     | .telegram => True
     | .tally m => s.maint.step ≥ 3 ∧ s.maint.blank = false ∧ s.maint.doorTok[d.1] = some m.session ∧
        ∃ x : Session, s.session m.session = some x ∧ x.counter < m.counter) →
    let barred := s.drv[d.1].isoBlocked || s.partnerIso
    ∃ u, exec (.doorReset t d src) s = .next u ∧ u = { r with waiting := [c], maint := u.maint } ∧
      (let v := u.decideTick
       v.maint.reason = (if s.causePresent d then 0x2E else if barred then 0x2F else 0) ∧
       (∀ m, src = .tally m → v.maint.reply = (u.answer 0x23 m v.maint.reason).maint.reply) ∧
       (∀ k : Door, k ≠ d → v.cyc[k.1] = (r.releaseItem k).cyc[k.1]) ∧
       (s.causePresent d = true ∨ barred = true → v.cyc[d.1] = (r.releaseItem d).cyc[d.1] ∧ v.drv = s.drv ∧ v.slot = s.slot) ∧
       (s.causePresent d = false → barred = false →
         if s.enc[d.ch.1].ref ∧ s.closedRead d ∧ s.lockRead d then v.cyc[d.1].state = .proving
         else if s.enc[d.ch.1].ref ∧ s.closedRead d then v.cyc[d.1].state = .locking
         else if s.enc[d.ch.1].ref then v.cyc[d.1].state = .open ∧ v.cyc[d.1].partly = true
         else v.cyc[d.1].state = .unreferenced))

/-- Accepted closes and opens, and a door reset of a held doorway. -/
def Obligations.DoorCommandsAccepted : Prop := Claim.CloseAcceptedInOpen ∧ Claim.OpenAcceptedInReleased ∧ Claim.DoorResetLeavesFault

/-- R19, R157-R159, R164: a door command that no bus sent and against which a code applies is refused, when its mill tick ends, with the lowest
of the codes, and moves nothing: no drive, slot or switch changes, and of the doors only the changes of release are taken, which every
tick takes last (R162). -/
def Obligations.RefusedCommandMovesNothing : Prop :=
  ∀ (s : State) (d : Door) (src : CmdSrc) (lineOn : Bool) (code : Nat),
    s.millerRuns = true → s.decides = true → s.pair.token = true → s.sluice.safe = false → s.fitted d = true →
    src ≠ .telegram → src ≠ .telegramTl → s.idle = true →
    (lowest (s.closeCodes d src lineOn) = some code →
      ∃ v, ({ s with waiting := [{ door := d, kind := .close, src := src, lineOn := lineOn }] } : State).decideTick = v ∧
        v = { s with counters := v.counters, book := v.book, cyc := v.cyc, waiting := v.waiting
                     maint := { s.maint with reason := code } } ∧
        ∀ k : Door, v.cyc[k.1] = (s.releaseItem k).cyc[k.1]) ∧
    (lowest (s.openCodes d src) = some code →
      ∃ v, ({ s with waiting := [{ door := d, kind := .open_, src := src, lineOn := lineOn }] } : State).decideTick = v ∧
        v = { s with counters := v.counters, book := v.book, cyc := v.cyc, waiting := v.waiting
                     maint := { s.maint with reason := code } } ∧
        ∀ k : Door, v.cyc[k.1] = (s.releaseItem k).cyc[k.1]) ∧
    (∀ l : List Nat, lowest l = some code → code ∈ l ∧ ∀ x ∈ l, code ≤ x)

/-- R201, R129: each Runner cycle toggles the alive line, keeps the last evaluation and begins a new one, and the reversal requests of
the fitted doorways follow the evaluation that the last cycle began. -/
def Claim.RunnerCycle : Prop :=
  ∀ (s : State) (t : Nat), let r := s.at t
    r.ns % 1000000 = 0 → s.safety.running = true →
    ∃ u, exec (.runnerCycle t) s = .next u ∧ u = { r with safety := u.safety, obs := u.obs } ∧
      u.safety.alive = !s.safety.alive ∧ u.safety.toggledAt = r.ns ∧ u.safety.runner.evalAt = r.ns ∧
      u.safety.runner.evalPrev = s.safety.runner.eval ∧
      (∀ d : Door, s.fitted d = true → u.obs[d.1].reqRunner = s.safety.runner.eval.edge.getLsbD d.1) ∧
      (∀ d : Door, s.fitted d = false → u.obs[d.1] = s.obs[d.1]) ∧
      u.safety.bedstone.inp = s.safety.bedstone.inp ∧ u.safety.bedstone.enable = s.safety.bedstone.enable

/-- R201: a Runner that stops drops its enables, its counts and its reversal requests, and both groups go off. A Runner whose alive
line has not toggled for 3 ms locks both groups out until a restart, whatever Runner does. -/
def Claim.RunnerStops : Prop :=
  ∀ (s : State) (t : Nat), let r := s.at t
    (∀ cause, s.safety.running = true →
      ∃ u, exec (.runnerStop t cause) s = .next u ∧
        u = { r with safety := u.safety, obs := u.obs, counters := u.counters, book := u.book } ∧
        u.safety.running = false ∧ u.safety.runner.counted = 0 ∧
        (∀ g : Group, u.safety.runner.enable.getLsbD g.1 = false ∧ u.safety.grp[g.1].on = false) ∧
        (∀ d : Door, u.obs[d.1].reqRunner = false)) ∧
    (s.safety.blockLatched = true → s.safety.runnerDead = false → s.safety.toggledAt + 3000000 ≤ r.ns →
      ∃ u, exec (.runnerAliveLost t) s = .next u ∧
        u = { r with safety := u.safety, counters := u.counters, book := u.book } ∧ u.safety.runnerDead = true ∧
        ∀ g : Group, u.safety.grp[g.1].on = false ∧ u.safety.grp[g.1].lockRestart = true ∧ u.safety.grp[g.1].runDead = true ∧
          u.safety.bedstone.enable.getLsbD g.1 = false ∧ u.barred g = true)

/-- A Runner cycle, a Runner that stops, and a lost alive line. -/
def Obligations.RunnerCycleAndStop : Prop := Claim.RunnerCycle ∧ Claim.RunnerStops

/-- R200, R213, R240, R241: a sample moves the filters of each channel from that channel's own levels: the tagged inputs of the fitted
doorways only on a locked grid, the reset inputs always. In its own window an input's counter and value stand. Bedstone's
reversal requests follow at once. -/
def Claim.SafetyInputSample : Prop :=
  ∀ (s : State) (t : Nat) (x y : SafetySample), let r := s.at t
    (∃ u, exec (.safetyInputSample t x y) s = .next u ∧
      u = { r with safety := u.safety, obs := u.obs, counters := u.counters, book := u.book } ∧
      (s.safety.gridLocked = true → ∀ d : Door, s.fitted d = true → ∀ k : Fin 10,
        (u.safety.runner.inp[d.1])[k.1] =
          ((s.safety.runner.inp[d.1])[k.1]).sample (s.safeLimit d k) (s.tagOf d k) r.gridPos r.ns (x.fi[d.1].getLsbD k.1) ∧
        (u.safety.bedstone.inp[d.1])[k.1] =
          ((s.safety.bedstone.inp[d.1])[k.1]).sample (s.safeLimit d k) (s.tagOf d k) r.gridPos r.ns (y.fi[d.1].getLsbD k.1)) ∧
      (s.safety.gridLocked = false → u.safety.runner.inp = s.safety.runner.inp ∧ u.safety.bedstone.inp = s.safety.bedstone.inp) ∧
      u.safety.runner.rst = s.safety.runner.rst.count s.cfg.bedstone.filterLimit x.rst r.ns ∧
      u.safety.bedstone.rst = s.safety.bedstone.rst.count s.cfg.bedstone.filterLimit y.rst r.ns ∧
      (∀ d : Door, s.fitted d = true → u.obs[d.1].reqBed = u.edgeRequest .bedstone d ∧ u.obs[d.1].reqRunner = s.obs[d.1].reqRunner)) ∧
    (∀ (f : SFilt) (lim p now : Nat) (own : Src) (on : Bool), ownWindow own p = true →
      (f.sample lim own p now on).c = f.c ∧ (f.sample lim own p now on).filtered = f.filtered)

/-- R213, R216, R393: while a VDO of the variant is good the token holder's source goes dark at its place in the round; with none it does
not, and a pulse of 300 µs is over; a module without the token locks its grid to its
partner's round. A source in its current limit goes off and its fault is latched in the channel that found it, not in the
other; a second later the source is tried again, and no latch clears by that. -/
def Claim.TestPulseSources : Prop :=
  ∀ (s : State) (t : Nat) (src : Src) (ch other : SafetyCh), let r := s.at t
    (s.anyVdo = false → exec (.testPulse t src) s = .next r.endDark) ∧
    (s.anyVdo = true → s.pair.token = true → s.safety.gridLocked = true → s.safety.src[src.1].on = true → r.gridPos = 50 * src.1 →
      exec (.testPulse t src) s = .next (r.endDark.modSrc src fun x => { x with dark := some r.ns })) ∧
    (∀ k : Src, r.endDark.safety.src[k.1] =
      if due (s.safety.src[k.1].dark.map (· + 300000)) r.ns then { s.safety.src[k.1] with dark := none } else s.safety.src[k.1]) ∧
    (s.pair.token = false →
      exec (.pulseGridLock t) s = .next { r with safety := { s.safety with gridLocked := true, gridOrigin := r.ns } }) ∧
    (s.pair.token = true → (s.chan ch).srcFault[src.1] = false → other ≠ ch →
      ∃ u, exec (.sourceFault t src ch) s = .next u ∧
        u = { r with safety := u.safety, counters := u.counters, book := u.book } ∧
        u.safety.src[src.1].on = false ∧ u.safety.src[src.1].offSince.isSome = true ∧
        (u.chan ch).srcFault[src.1] = true ∧ u.chan other = s.chan other ∧
        (∀ g : Group, s.usesSource g src = true → u.safety.grp[g.1].srcFlt = true)) ∧
    (∀ a, s.safety.src[src.1].on = false → s.safety.src[src.1].offSince = some a → a + 1000000000 ≤ r.ns →
      ∃ u, exec (.sourceRetry t src) s = .next u ∧ u = { r with safety := { s.safety with src := u.safety.src } } ∧
        u.safety.src[src.1].on = true ∧ u.safety.src[src.1].runSince = r.ns)

/-- Samples of the safety inputs, and the test-pulse sources. -/
def Obligations.SafetySamplesAndSources : Prop := Claim.SafetyInputSample ∧ Claim.TestPulseSources

/-- R210: feedback that shows the wrong state when its time is over, or for 30 ms after it, de-energises the group in both channels
and locks it out until a safety reset; its outputs are off but for one that is stuck on (R211). -/
def Claim.FeedbackFault : Prop :=
  ∀ (s : State) (t : Nat) (g : Group) (ch : SafetyCh) (a : Nat), let r := s.at t
    let done := s.safety.grp[g.1].changedAt + s.fbTime
    (s.chan ch).fbWrong[g.1] = some a → (s.chan ch).fbLock.getLsbD g.1 = false → done ≤ r.ns → (a ≤ done ∨ a + ms 30 ≤ r.ns) →
    ∃ u, exec (.feedbackFault t g ch) s = .next u ∧ u = { r with safety := u.safety, counters := u.counters, book := u.book } ∧
      u.lockedOut g = true ∧ u.safety.grp[g.1].on = false ∧ u.safety.grp[g.1].p = s.safety.grp[g.1].stuckP ∧
      u.safety.grp[g.1].m = s.safety.grp[g.1].stuckM ∧
      u.safety.grp[g.1].fbFlt = true ∧ u.safety.runner.enable.getLsbD g.1 = false ∧
      u.safety.bedstone.enable.getLsbD g.1 = false ∧ u.counter (0x71 + g.1) 2 = (s.counter (0x71 + g.1) 2).inc ∧
      (∀ k : Group, k ≠ g → u.safety.grp[k.1] = s.safety.grp[k.1])

/-- R211, R212, R227: an energised group's output tests follow their schedule: DLn-P and DLn-M in turn, half a second apart, from one
second after it was energised, where the spec gives no first moment (log 28). Each is counted and noted, and one out of turn or early is
none. An output that does not reach off, and an energised group without a test for 3 s, de-energise the group and lock it out until a
restart. The start-up test passes DLn-P first, then DLn-M, and with the feedback dropped out in both channels, and only then may the group
energise; feedback that is not dropped out locks it out. -/
def Claim.OutputTests : Prop :=
  ∀ (s : State) (t : Nat) (g : Group) (low : Bool), let r := s.at t
    let x := s.safety.grp[g.1]
    (x.on = true → x.testAt ≤ r.ns → x.testLow = low →
      exec (.outputTest t g low true) s = .next ((r.modGrp g fun x => { x with
        lastTest := r.ns, testAt := r.ns + ms 500, testLow := !low }).bump (0x71 + g.1) 3) ∧
      ∃ u, exec (.outputTest t g low false) s = .next u ∧
        u = { r with safety := u.safety, counters := u.counters, book := u.book } ∧ u.safety.grp[g.1].on = false ∧
        u.safety.grp[g.1].lockRestart = true ∧ u.safety.grp[g.1].outFlt = true ∧ u.barred g = true) ∧
    (x.on = true → r.ns < x.testAt ∨ x.testLow ≠ low → ∀ off : Bool, exec (.outputTest t g low off) s = .next r) ∧
    (x.on = false → x.startTest.isSome = true →
      exec (.outputTest t g false true) s = .next ((r.bump (0x71 + g.1) 3).modGrp g fun x => { x with startP := true }) ∧
      (x.startP = true →
        (r.fbOff g = true → exec (.outputTest t g true true) s =
          .next ((r.bump (0x71 + g.1) 3).modGrp g fun x => { x with tested := true, startTest := none })) ∧
        (r.fbOff g = false → ∃ u, exec (.outputTest t g true true) s = .next u ∧
          u = { r with safety := u.safety, counters := u.counters, book := u.book } ∧ u.safety.grp[g.1].on = false ∧
          u.safety.grp[g.1].tested = x.tested ∧ u.safety.grp[g.1].lockRestart = true ∧ u.safety.grp[g.1].outFlt = true ∧
          u.barred g = true))) ∧
    (x.on = true → s.safety.running = true → x.lastTest + 3000000000 ≤ r.ns →
      ∃ u, exec (.outputTestMissing t g) s = .next u ∧ u = { r with safety := u.safety, counters := u.counters, book := u.book } ∧
        u.safety.grp[g.1].on = false ∧ u.safety.grp[g.1].lockRestart = true ∧ u.safety.grp[g.1].outFlt = true) ∧
    (x.tested = false → x.on = false → (s.energise g).safety.grp[g.1].on = false)

/-- Feedback faults and output tests of a loop group. -/
def Obligations.FeedbackAndOutputTests : Prop := Claim.FeedbackFault ∧ Claim.OutputTests

/-- R218, R219: a pair that has disagreed beyond its time is latched in the channel that reads it, and the doorway is then not counted
by that channel's switches. Counts of the two channels that differ beyond their time de-energise the doorway's group and lock
it out in both channels. -/
def Claim.Discrepancies : Prop :=
  ∀ (s : State) (t : Nat) (d : Door), let r := s.at t
    (∀ (p : SwitchPair) (ch : SafetyCh) (a : Nat), ((s.chan ch).pairs[d.1])[(pairIdx p).1].since = some a →
      ((s.chan ch).pairs[d.1])[(pairIdx p).1].fault = false → a + ms s.cfg.bedstone.pairDiscMs < r.ns →
      ∃ u, exec (.pairDiscrepancy t d p ch) s = .next u ∧ u = { r with safety := u.safety, counters := u.counters, book := u.book } ∧
        ((u.chan ch).pairs[d.1])[(pairIdx p).1].fault = true ∧ u.switchesOk ch d = false ∧
        u.safety.grp[(s.group d).1].pairDisc = true ∧
        (ch = .bedstone → u.safety.bedstone.counted.getLsbD d.1 = false) ∧
        (∀ k : Door, k ≠ d → (u.chan ch).pairs[k.1] = (s.chan ch).pairs[k.1])) ∧
    (∀ a : Nat, s.safety.grp[(s.group d).1].chanDisc[d.1] = some a → a + ms s.cfg.bedstone.channelDiscMs < r.ns →
      s.safety.runner.discLock.getLsbD (s.group d).1 = false →
      ∃ u, exec (.channelDiscrepancy t d) s = .next u ∧ u = { r with safety := u.safety, counters := u.counters, book := u.book } ∧
        u.safety.runner.discLock.getLsbD (s.group d).1 = true ∧ u.safety.bedstone.discLock.getLsbD (s.group d).1 = true ∧
        u.lockedOut (s.group d) = true ∧ u.safety.grp[(s.group d).1].on = false ∧ u.safety.grp[(s.group d).1].chDisc = true)

/-- R220, R221: a reversal that a check does not find evidenced asserts the channel's safe-state request line; at the request Sluice
takes the safe state. -/
def Claim.ReversalNotEvidenced : Prop :=
  ∀ (s : State) (t : Nat) (d : Door) (check : EvidenceCheck) (ch : SafetyCh), let r := s.at t
    (r.notEvidenced d check ch).isSome = true →
    ∃ u v, exec (.reversalNotEvidenced t d check ch) s = .next u ∧
      u = { r with safety := u.safety, counters := u.counters, book := u.book } ∧
      u.safety.reqLine.getLsbD (match ch with | .runner => 0 | .bedstone => 1) = true ∧
      u.safety.grp[(s.group d).1].noEvid = true ∧ (u.chan ch).watch[d.1] = none ∧
      exec (.safeStateRequest t ch) u = .next v ∧ v.sluice.safe = true

/-- Discrepant pairs and channels, and a reversal without evidence. -/
def Obligations.DiscrepancyAndEvidence : Prop := Claim.Discrepancies ∧ Claim.ReversalNotEvidenced

/-- R222-R225: a safety reset takes the edges the channels have seen. With a reset source jammed it is refused 0xA0; with a lockout that
only a restart clears, 0xA2; with a latch left in a channel that saw the edge, 0xA1; else it is accepted and counted, and no
latch is left in a channel that saw it. It energises nothing. -/
def Claim.SafetyReset : Prop :=
  ∀ (s : State) (t : Nat) (src : ResetInput), let r := s.at t
    let x := s.safety.rst[(resetIdx src).1]
    (x.edgeR = true ∨ x.edgeB = true) →
    ∃ u, exec (.safetyReset t src) s = .next u ∧ u = { r with safety := u.safety, counters := u.counters, book := u.book } ∧
      u.safety.rst[(resetIdx src).1] = { x with edgeR := false, edgeB := false } ∧
      (∀ g : Group, u.safety.grp[g.1].on = s.safety.grp[g.1].on ∧ u.safety.grp[g.1].lockRestart = s.safety.grp[g.1].lockRestart) ∧
      (if s.safety.rst[0].jammed ∨ s.safety.rst[1].jammed then
        u.counter 0x80 7 = (s.counter 0x80 7).inc ∧ u.safety.runner = s.safety.runner ∧ u.safety.bedstone = s.safety.bedstone
      else if r.restartLatch then u.counter 0x80 9 = (s.counter 0x80 9).inc
      else if x.edgeR ∧ anyLatch u.safety.runner.latches ∨ x.edgeB ∧ anyLatch u.safety.bedstone.latches then
        u.counter 0x80 8 = (s.counter 0x80 8).inc
      else u.counter 0x80 (5 + (resetIdx src).1) = (s.counter 0x80 (5 + (resetIdx src).1)).inc)

/-- R223: an enabled reset source that reads active for longer than 10 s in a channel is jammed; it is jammed no more once both
channels have read it inactive for 100 ms. -/
def Claim.ResetSourceJam : Prop :=
  ∀ (s : State) (t : Nat) (src : ResetInput), let r := s.at t
    let x := s.safety.rst[(resetIdx src).1]
    (x.jammed = false → s.resetEnabled src = true →
      (r.resetHeld .runner src true (ms 10000 + 1) = true ∨ r.resetHeld .bedstone src true (ms 10000 + 1) = true) →
      ∃ u, exec (.resetSourceJammed t src) s = .next u ∧ u = { r with safety := u.safety, counters := u.counters, book := u.book } ∧
        u.safety = { s.safety with rst := s.safety.rst.set (resetIdx src).1 { x with jammed := true } }) ∧
    (r.resetHeld .runner src false (ms 100) = true → r.resetHeld .bedstone src false (ms 100) = true →
      exec (.resetSourceUnjammed t src) s =
        .next { r with safety := { s.safety with rst := s.safety.rst.set (resetIdx src).1 { x with jammed := false } } })

/-- Safety resets and their codes, and jammed reset sources. -/
def Obligations.SafetyResets : Prop := Claim.SafetyReset ∧ Claim.ResetSourceJam

/-- R240, R242, R243, R248, R287, R382: one sample moves the counter filter of every input that is not in its own source's window and whose
IN engine runs, and of every
train line, from its own bit. What Miller reads moves only at the phase 0 latch, which takes every filter's value; the release state
follows the train lines there. -/
def Claim.InputSample : Prop :=
  ∀ (s : State) (t : Nat) (x : FieldSample), let r := s.at t
    (∃ u, exec (.inputSample t x) s = .next u ∧
      u = { r with io := u.io, counters := u.counters } ∧
      (∀ n : Fi, s.half 192 n.1 = true → s.inRuns n = true → s.fiTag n = none → s.cfg.io.fi[n.1].wireBreak = false →
        u.io.fi[n.1] = s.io.fi[n.1].count s.cfg.io.fi[n.1].limit (x.fi.getLsbD n.1)) ∧
      (∀ (n : Fi) (k : Src), s.fiTag n = some k → s.safety.gridLocked = true → ownWindow k r.gridPos = true →
        u.io.fi[n.1] = s.io.fi[n.1]) ∧
      (∀ n : Fi, s.inRuns n = false → u.io.fi[n.1] = s.io.fi[n.1]) ∧
      (∀ n : Tl, u.io.tl[n.1] = s.io.tl[n.1].count s.cfg.io.tl[n.1].limit (x.tl.getLsbD n.1)) ∧
      (∀ n : Fi, u.io.fi[n.1].value = s.io.fi[n.1].value ∧ u.io.fi[n.1].valid = s.io.fi[n.1].valid) ∧
      u.io.dout = s.io.dout ∧ u.io.ls = s.io.ls) ∧
    (let v := s.latchInputs
     (∀ n : Fi, v.io.fi[n.1] = s.io.fi[n.1].latch s.cfg.io.fi[n.1].limit) ∧
     (∀ n : Tl, v.io.tl[n.1] = s.io.tl[n.1].latch s.cfg.io.tl[n.1].limit) ∧
     v.tele = { s.tele with relL := v.releaseState false, relR := v.releaseState true })

/-- R244: an input classified as a wire break, or as a degraded resistor, for 100 ms is shown in its doorway and recorded once; both
end after a second of samples in a good band. A stopped IN engine classifies nothing (R382). -/
def Claim.WireBreakBands : Prop :=
  ∀ (s : State) (t : Nat) (n : Fi), let r := s.at t
    let x := s.io.fi[n.1]
    (s.inRuns n = false → exec (.wireBreak t n) s = .next r ∧ exec (.degradedResistor t n) s = .next r ∧
      exec (.wireBreakClear t n) s = .next r) ∧
    (s.inRuns n = true → x.band = some .wireBreak → x.bandAt + ms 100 ≤ r.ns → x.wbrk = false →
      ∃ u, exec (.wireBreak t n) s = .next u ∧ u = { r with io := u.io, counters := u.counters, book := u.book } ∧
        u.io.fi[n.1] = { x with wbrk := true } ∧ u.io.wbrk.getLsbD n.door.1 = true ∧
        u.io.wdeg = s.io.wdeg ∧ ∀ k : Fi, k ≠ n → u.io.fi[k.1] = s.io.fi[k.1]) ∧
    (s.inRuns n = true → x.band = some .degraded → x.bandAt + ms 100 ≤ r.ns → x.wdeg = false →
      ∃ u, exec (.degradedResistor t n) s = .next u ∧ u = { r with io := u.io, counters := u.counters, book := u.book } ∧
        u.io.fi[n.1] = { x with wdeg := true } ∧ u.io.wdeg.getLsbD n.door.1 = true ∧ u.io.wbrk = s.io.wbrk) ∧
    (∀ a, s.inRuns n = true → x.goodAt = some a → a + ms 1000 ≤ r.ns →
      exec (.wireBreakClear t n) s = .next (r.modFi n fun x => { x with wbrk := false, wdeg := false }))

/-- R245-R247: a changed level of an input that may be stamped now is stamped with the mill clock, and its hold-off starts; an edge
within the hold-off is counted and not stamped; a full FIFO takes no stamp and counts the loss. At the end of the hold-off a
level that differs from the last stamped one is stamped with SETTLE at that moment; one that does not is not. An input without stamping, or
whose CAP engine has stopped (R382), is never stamped. -/
def Claim.TimeStamps : Prop :=
  ∀ (s : State) (t : Nat) (i : StampInput) (level : Bool), let r := s.at t
    let x := s.stampSt i
    let e : Stamp := { mill := r.mill, input := StampInput.number i, level := level, tl := StampInput.isTl i, settle := false
                       seq := s.io.stampSeq, lost := s.io.stampLost, suppressed := min 65535 x.suppressed }
    (s.stamps i = false → exec (.inputEdgeStamp t i level) s = .next r ∧ exec (.stampHoldoffEnd t i) s = .next r) ∧
    (s.stamps i = true → r.stampMasked i = false → x.level ≠ level →
      (x.holdoff = none → s.io.stamps.length < 1024 →
        ∃ u, exec (.inputEdgeStamp t i level) s = .next u ∧ u = { r with io := u.io } ∧
          u.io.stamps = insertStamp e s.io.stamps ∧ u.io.stampSeq = s.io.stampSeq + 1 ∧
          (u.stampSt i).holdoff = some (r.ns + 1000 * s.cfg.io.holdoffUs) ∧ (u.stampSt i).stampLevel = level) ∧
      (x.holdoff = none → 1024 ≤ s.io.stamps.length →
        ∃ u, exec (.inputEdgeStamp t i level) s = .next u ∧ u = { r with io := u.io, counters := u.counters, book := u.book } ∧
          u.io.stamps = s.io.stamps ∧ u.io.stLost = true ∧ u.io.stampLost = min 65535 (s.io.stampLost + 1)) ∧
      (x.holdoff.isSome = true →
        ∃ u, exec (.inputEdgeStamp t i level) s = .next u ∧ u = { r with io := u.io, counters := u.counters } ∧
          u.io.stamps = s.io.stamps ∧ (u.stampSt i).suppressed = x.suppressed + 1 ∧ (u.stampSt i).holdoff = x.holdoff ∧
          (u.stampSt i).level = level)) ∧
    (∀ h, s.stamps i = true → x.holdoff = some h → h ≤ r.ns → s.io.stamps.length < 1024 →
      ∃ u, exec (.stampHoldoffEnd t i) s = .next u ∧ u = { r with io := u.io } ∧
        (x.level = x.stampLevel → u.io.stamps = s.io.stamps ∧ (u.stampSt i).holdoff = none) ∧
        (x.level ≠ x.stampLevel →
          u.io.stamps = insertStamp { e with mill := h / 1000, level := x.level, settle := true } s.io.stamps ∧
          (u.stampSt i).holdoff = some (r.ns + 1000 * s.cfg.io.holdoffUs)))

/-- Filters, wire-break bands and time stamps of the field inputs. -/
def Obligations.FieldInputs : Prop := Claim.InputSample ∧ Claim.WireBreakBands ∧ Claim.TimeStamps

/-- R32, R250, R393: a VDO fault is shown, recorded, and puts every fitted encoder of its doorways in encoder fault; when the
supply is back the readback check of its outputs starts with its blanking. -/
def Claim.VdoFaults : Prop :=
  ∀ (s : State) (t : Nat) (conn : Fin 4), let r := s.at t
    (s.io.vdo.getLsbD conn.1 = false →
      ∃ u, exec (.vdoFault t conn) s = .next u ∧
        u = { r with io := u.io, enc := u.enc, cyc := u.cyc, counters := u.counters, book := u.book } ∧
        u.io.vdo.getLsbD conn.1 = true ∧ u.io.vdoSticky.getLsbD conn.1 = true ∧
        (∀ k : Fin 4, k ≠ conn → u.io.vdo.getLsbD k.1 = s.io.vdo.getLsbD k.1) ∧
        (∀ c : Ch, s.chFitted c = true → connOf c.door = conn →
          u.enc[c.1].encFlt = true ∧ u.enc[c.1].supplyBad = true) ∧
        (∀ c : Ch, connOf c.door ≠ conn → u.enc[c.1] = s.enc[c.1])) ∧
    (s.io.vdo.getLsbD conn.1 = true →
      ∃ u, exec (.vdoFaultEnd t conn) s = .next u ∧
        u = { r with io := u.io, enc := u.enc, cyc := u.cyc, counters := u.counters, book := u.book } ∧
        u.io.vdo.getLsbD conn.1 = false ∧
        (∀ n : Dout, connOf n.door = conn → u.io.dout[n.1] = { s.io.dout[n.1] with blank := r.ns + 500000, mismatch := none }) ∧
        (∀ c : Ch, s.chFitted c = true → connOf c.door = conn → u.enc[c.1].supplyBad = false ∧ u.enc[c.1].encFlt = s.enc[c.1].encFlt))

/-- R251, R263, R382: a readback is compared only while the output is driven, past its blanking, with its VDO good, the token held and its DO
engine running; the
run of a mismatch starts when it is first seen. A mismatch that has lasted its time makes the output high-impedance, and is
counted and recorded. -/
def Claim.DoReadback : Prop :=
  ∀ (s : State) (t : Nat) (n : Dout) (v : BitVec 32), let r := s.at t
    let x := s.io.dout[n.1]
    let off : Prop := x.pin = .z ∨ r.ns < x.blank ∨ s.io.vdo.getLsbD (connOf n.door).1 = true ∨ s.pair.token = false ∨
      s.engineRuns n.door 10 = false
    (∃ u, exec (.doReadbackCheck t v) s = .next u ∧ u = { r with io := { s.io with dout := u.io.dout } } ∧
      (off → u.io.dout[n.1] = { x with mismatch := none }) ∧
      (¬ off → v.getLsbD n.1 = x.pin.level → u.io.dout[n.1] = { x with mismatch := none }) ∧
      (¬ off → v.getLsbD n.1 ≠ x.pin.level →
        u.io.dout[n.1] = { x with mismatch := some (x.mismatch.getD r.ns), readHigh := v.getLsbD n.1 })) ∧
    (∀ a, x.fault = false → x.mismatch = some a → a + ms s.cfg.io.dout[n.1].mismatchMs ≤ r.ns →
      ∃ u, exec (.doFault t n) s = .next u ∧ u = { r with io := u.io, counters := u.counters, book := u.book } ∧
        u.io.dout[n.1].fault = true ∧ u.io.dout[n.1].faultSticky = true ∧ u.io.dout[n.1].pin = .z ∧
        u.counter (0xA1 + n.1 / 16) (n.1 % 16) = (s.counter (0xA1 + n.1 / 16) (n.1 % 16)).inc ∧
        ∀ k : Dout, k ≠ n → u.io.dout[k.1] = s.io.dout[k.1])

/-- VDO faults, and the readback of the digital outputs. -/
def Obligations.DigitalOutputs : Prop := Claim.VdoFaults ∧ Claim.DoReadback

/-- R254, R255, R257: a switch that is on gathers its time in current limit; at 1 ms of it, or at thermal shutdown, it goes off and is counted.
With tries left it then pauses 8 ms doubled per try, else it is latched; in Sluice's safe state neither follows. The retry counts a
try and lets the pin follow its command; ten seconds on without limit give all tries back. A stopped LS engine does neither (R382). -/
def Claim.LoadSwitchLimit : Prop :=
  ∀ (s : State) (t : Nat) (n : Ls), let r := s.at t
    let x := s.io.ls[n.1]
    (∀ (us : Nat) (thermal : Bool), x.on = true →
      (x.limitWith us r.ns < 1000 → thermal = false → exec (.lsOvercurrent t ⟨n, us, thermal⟩) s =
        .next (r.modLs n fun y => { y with limitUs := x.limitWith us r.ns, limitAt := r.ns, clean := 0, cleanAt := r.ns })) ∧
      (1000 ≤ x.limitWith us r.ns ∨ thermal = true →
        ∃ u, exec (.lsOvercurrent t ⟨n, us, thermal⟩) s = .next u ∧ u = { r with io := u.io, counters := u.counters, book := u.book } ∧
          u.io.ls[n.1].on = false ∧ u.io.ls[n.1].limitUs = 0 ∧
          u.counter (0xA3 + n.1 / 16) (n.1 % 16 * 5) = (s.counter (0xA3 + n.1 / 16) (n.1 % 16 * 5)).inc ∧
          (s.sluice.safe = false → x.tries < s.cfg.ls.maxTries →
            u.io.ls[n.1].pause = some (r.ns + ms (min 4096 (8 * 2 ^ x.tries))) ∧ u.io.ls[n.1].latched = x.latched) ∧
          (s.sluice.safe = false → s.cfg.ls.maxTries ≤ x.tries → u.io.ls[n.1].latched = true) ∧
          (s.sluice.safe = true → u.io.ls[n.1].pause = x.pause ∧ u.io.ls[n.1].latched = x.latched) ∧
          (∀ k : Ls, k ≠ n → u.io.ls[k.1] = s.io.ls[k.1]) ∧ u.io.dout = s.io.dout ∧ u.io.fi = s.io.fi)) ∧
    (s.engineRuns n.door 9 = false → exec (.lsRetry t n) s = .next r ∧ exec (.lsTryCountReset t n) s = .next r) ∧
    (∀ a, s.engineRuns n.door 9 = true → x.pause = some a → a ≤ r.ns → s.sluice.safe = false → x.cmd = true → x.ended = false → x.shed = false →
      ∃ u, exec (.lsRetry t n) s = .next u ∧ u = { r with io := u.io } ∧ u.io.ls[n.1].pause = none ∧
        u.io.ls[n.1].tries = x.tries + 1 ∧
        (s.outputsLive = true → x.latched = false → x.shadow ≠ 0 → s.cyc[n.door.1].restarting = false → u.io.ls[n.1].on = true) ∧
        (∀ k : Ls, k ≠ n → u.io.ls[k.1] = s.io.ls[k.1])) ∧
    (s.engineRuns n.door 9 = true → x.on = true → x.onAt + ms 10000 ≤ r.ns → x.limitAt + ms 10000 ≤ r.ns →
      exec (.lsTryCountReset t n) s = .next (r.modLs n fun x => { x with tries := 0 }))

/-- R258, R259: at its period start, 100 µs apart, a switch that is on takes its duty; an on-time below 50 µs (1 %) is dropped and
counted. Below the open-load threshold at 10 % or more for the whole time, it is shown, counted and recorded once; a second of samples
above 1.25 times the threshold ends the condition. A stopped LS engine does none of it (R382). -/
def Claim.LoadSwitchPwm : Prop :=
  ∀ (s : State) (t : Nat) (n : Ls) (mean : Nat), let r := s.at t
    let x := s.io.ls[n.1]
    let duty := x.shadowNow r.ns
    (r.ns % 5000000 = n.1 * 100000 → s.half 48 n.1 = true → s.engineRuns n.door 9 = true → s.sluice.safe = false → s.cyc[n.door.1].restarting = false →
      ∃ u, exec (.lsPwmPeriodStart t n) s = .next u ∧ u = { r with io := u.io, counters := u.counters } ∧
        u.io.ls[n.1] = { x.settle r.ns with active := if x.on = true ∧ ¬ (0 < duty ∧ duty < 10) then duty else 0 } ∧
        (x.on = true → 0 < duty → duty < 10 →
          u.counter (0xA3 + n.1 / 16) (n.1 % 16 * 5 + 3) = (s.counter (0xA3 + n.1 / 16) (n.1 % 16 * 5 + 3)).inc) ∧
        (∀ k : Ls, k ≠ n → u.io.ls[k.1] = s.io.ls[k.1])) ∧
    (s.engineRuns n.door 9 = false → exec (.lsPwmPeriodStart t n) s = .next r ∧ exec (.openLoad t n mean) s = .next r ∧
      exec (.openLoadClear t ⟨n, mean⟩) s = .next r) ∧
    (s.engineRuns n.door 9 = true → s.cfg.ls.sw[n.1].olRange ≠ 0 → x.on = true → 100 ≤ x.active → x.openCond = false → x.onAt + ms s.cfg.ls.openLoadMs ≤ r.ns →
      mean < s.olThreshold n →
      ∃ u, exec (.openLoad t n mean) s = .next u ∧ u = { r with io := u.io, counters := u.counters, book := u.book } ∧
        u.io.ls[n.1] = { x with openCond := true, openAt := r.ns, openLd := true } ∧
        u.counter (0xA3 + n.1 / 16) (n.1 % 16 * 5 + 2) = (s.counter (0xA3 + n.1 / 16) (n.1 % 16 * 5 + 2)).inc) ∧
    (s.engineRuns n.door 9 = true → x.on = true → 100 ≤ x.active → x.onAt + ms 1000 ≤ r.ns → x.openAt + ms 1000 ≤ r.ns → 5 * s.olThreshold n < 4 * mean →
      exec (.openLoadClear t ⟨n, mean⟩) s = .next (r.modLs n fun x => { x with openCond := false }))

/-- R260: a supply over its limit starts shedding, once; each step switches off the highest switch of the supply that may be shed and
is on, until the average is below 90 % of the limit; after 10 s below 75 % of it, with shedding ended, the shed switches return together. -/
def Claim.LoadSwitchShedding : Prop :=
  ∀ (s : State) (t : Nat) (p : Fin 2) (ma : Nat), let r := s.at t
    let x := s.io.lsSup[p.1]
    (s.cfg.ls.supplyLimitMa < ma → x.shedding = false →
      ∃ u, exec (.lsSupplyOverLimit t p ma) s = .next u ∧ u = { r with io := u.io, counters := u.counters, book := u.book } ∧
        u.io.lsSup[p.1].shedding = true ∧ u.io.lsSup[p.1].shedAt = r.ns ∧ u.io.lsOvl.getLsbD p.1 = true ∧ u.io.ls = s.io.ls) ∧
    (x.shedding = true → x.shedAt ≤ r.ns → s.sluice.safe = false →
      (10 * ma < 9 * s.cfg.ls.supplyLimitMa →
        ∃ u, exec (.lsShedStep t p ma) s = .next u ∧ u = { r with io := { s.io with lsSup := u.io.lsSup } } ∧
          u.io.lsSup[p.1].shedding = false) ∧
      (9 * s.cfg.ls.supplyLimitMa ≤ 10 * ma → ∀ n : Ls, s.lsSupply n = p → s.cfg.ls.sw[n.1].shed = true → s.io.ls[n.1].on = true →
        s.io.ls[n.1].shed = false → s.cyc[n.door.1].restarting = false →
        (∀ k : Ls, n < k → ¬ (s.lsSupply k = p ∧ s.cfg.ls.sw[k.1].shed = true ∧ s.io.ls[k.1].on = true ∧ s.io.ls[k.1].shed = false)) →
        ∃ u, exec (.lsShedStep t p ma) s = .next u ∧ u = { r with io := { s.io with ls := u.io.ls, lsSup := u.io.lsSup } } ∧
          u.io.ls[n.1].shed = true ∧ u.io.ls[n.1].on = false ∧ u.io.lsSup[p.1].shedAt = r.ns + ms 100 ∧
          ∀ k : Ls, k ≠ n → u.io.ls[k.1] = s.io.ls[k.1])) ∧
    (x.shedding = false → x.shedAt + ms 10000 ≤ r.ns → 4 * ma < 3 * s.cfg.ls.supplyLimitMa →
      ∃ u, exec (.lsShedRestore t ⟨p, ma⟩) s = .next u ∧ u = { r with io := { s.io with ls := u.io.ls } } ∧
      (∀ n : Ls, s.lsSupply n = p → u.io.ls[n.1].shed = false) ∧
      (∀ n : Ls, s.lsSupply n ≠ p → u.io.ls[n.1] = s.io.ls[n.1]))

/-- Load switches: current limit and retries, PWM and open load, shedding. -/
def Obligations.LoadSwitches : Prop := Claim.LoadSwitchLimit ∧ Claim.LoadSwitchPwm ∧ Claim.LoadSwitchShedding

/-- R269, R273, R278: a frame on a running bus is counted, but no FD frame on one established classical-only, which is not taken. Of a
matching identifier it enters a free object of its receive group, else it
overwrites the oldest unread one and sets OVR; any other frame is ignored and counted. -/
def Claim.FramesReceived : Prop :=
  ∀ (s : State) (t : Nat) (b : BusId) (f : Frame), let r := s.at t
    let x := s.bus[b.1]
    (x.bstate ≠ .detecting → f.fd = true → x.timing.data = 0 → exec (.frameReceived t b f) s = .next r) ∧
    (x.started = true → x.err ≠ .off → (x.bstate ≠ .detecting → f.fd = true → x.timing.data ≠ 0) →
    ∃ u, exec (.frameReceived t b f) s = .next u ∧
      u = { r with free := u.free, counters := u.counters, bus := u.bus, book := u.book } ∧
      (∀ a : BusId, a ≠ b → u.bus[a.1] = s.bus[a.1]) ∧ u.bus[b.1].sawTraffic = true ∧ u.bus[b.1].okRun = x.okRun + 1 ∧
      u.counter (0x81 + b.1) 0 = (s.counter (0x81 + b.1) 0).inc ∧
      (x.bstate = .detecting → u.bus[b.1].hopper = x.hopper) ∧
      (x.bstate ≠ .detecting →
        (f.ext = true ∨ (f.id.toNat ≠ 0x080 + s.cfg.bus.vcuNode ∧ f.id.toNat ≠ 0x010 + s.cfg.bus.timeMaster ∧
            f.id.toNat ≠ 0x180 + s.cfg.bus.vcuNode) →
          u.bus[b.1].hopper = x.hopper ∧ u.counter (0x81 + b.1) 5 = (s.counter (0x81 + b.1) 5).inc) ∧
        (∀ base, f.ext = false →
          (base = 0 ∧ f.id.toNat = 0x080 + s.cfg.bus.vcuNode ∨
           base = 4 ∧ f.id.toNat = 0x010 + s.cfg.bus.timeMaster ∧ f.id.toNat ≠ 0x080 + s.cfg.bus.vcuNode ∨
           base = 8 ∧ f.id.toNat = 0x180 + s.cfg.bus.vcuNode ∧ f.id.toNat ≠ 0x080 + s.cfg.bus.vcuNode ∧
             f.id.toNat ≠ 0x010 + s.cfg.bus.timeMaster) →
          ∃ k : Fin 128, base ≤ k.1 ∧ k.1 < base + 4 ∧
            u.bus[b.1].hopper[k.1] = {
              id := f.id, fd := f.fd, brs := f.brs, data := f.data, new := true, ovr := x.hopper[k.1].new, time := r.mill } ∧
            (x.hopper[k.1].new = true → ∀ j : Fin 128, base ≤ j.1 → j.1 < base + 4 →
              x.hopper[j.1].new = true ∧ x.hopper[k.1].time ≤ x.hopper[j.1].time) ∧
            (∀ j : Fin 128, j ≠ k → u.bus[b.1].hopper[j.1] = x.hopper[j.1]))))

/-- R273, R276-R278: a bus that may send sends, of the pending objects that it can carry, the one of the lowest identifier, of equal ones
the lowest index. Lost arbitrations and errors are counted and retried; errors that take TEC above 255 take the bus off, with the
object still pending. An object with a double-bit error is discarded, and sets ECC. An object at its deadline is withdrawn in every bus
state, which sets DROP and is counted. An error on the bus ends the run that detection counts. -/
def Claim.FramesSent : Prop :=
  ∀ (s : State) (t : Nat) (b : BusId) (k : Fin 128), let r := s.at t
    let x := s.bus[b.1]
    let can := fun j : Fin 128 => x.hopper[j.1].txPend = true ∧ (x.hopper[j.1].fd = true → x.timing.data ≠ 0)
    (∀ (lost errors : Nat) (ecc : HopEcc), x.established = true → x.err ≠ .off → x.listen = false → can k →
      (∀ j : Fin 128, can j → x.hopper[k.1].id.toNat < x.hopper[j.1].id.toNat ∨ (x.hopper[k.1].id = x.hopper[j.1].id ∧ k ≤ j)) →
      (∀ a, x.hopper[k.1].deadline = some a → r.ns < a) → x.tecN ≤ 255 →
      ∃ u, exec (.frameTransmitted t b ⟨k, ecc⟩ lost errors) s = .next u ∧
        u = { r with counters := u.counters, bus := u.bus, book := u.book } ∧
        (∀ a : BusId, a ≠ b → u.bus[a.1] = s.bus[a.1]) ∧
        (ecc = .uncorrectable → u.bus[b.1] = { x with ecc := true, hopper := x.hopper.set k.1 {} } ∧
          u.counter (0x81 + b.1) 11 = (s.counter (0x81 + b.1) 11).inc) ∧
        (ecc ≠ .uncorrectable → u.counter (0x81 + b.1) 4 = Ctr.inc^[lost] (s.counter (0x81 + b.1) 4)) ∧
        (ecc ≠ .uncorrectable → x.tecN + 8 * errors ≤ 255 →
          u.bus[b.1].hopper[k.1] = { x.hopper[k.1] with txPend := false } ∧
          (∀ j : Fin 128, j ≠ k → u.bus[b.1].hopper[j.1] = x.hopper[j.1]) ∧ u.bus[b.1].bstate = x.bstate ∧
          u.bus[b.1].tecN = x.tecN + 8 * errors - 1 ∧
          u.counter (0x81 + b.1) 1 = (s.counter (0x81 + b.1) 1).inc ∧
          u.counter (0x81 + b.1) 2 = Ctr.inc^[errors] (s.counter (0x81 + b.1) 2)) ∧
        (ecc ≠ .uncorrectable → 255 < x.tecN + 8 * errors →
          u.bus[b.1].hopper = x.hopper ∧ u.bus[b.1].busOff = true ∧
          u.counter (0x81 + b.1) 1 = s.counter (0x81 + b.1) 1 ∧ u.counter (0x81 + b.1) 3 = (s.counter (0x81 + b.1) 3).inc)) ∧
    (∀ a, x.hopper[k.1].txPend = true → x.hopper[k.1].deadline = some a → a ≤ r.ns →
      ∃ u, exec (.objectWithdrawn t b k) s = .next u ∧ u = { r with counters := u.counters, bus := u.bus, book := u.book } ∧
        u.bus[b.1] = { x with drop := true, hopper := x.hopper.set k.1 { x.hopper[k.1] with txPend := false } } ∧
        u.counter (0x81 + b.1) 9 = (s.counter (0x81 + b.1) 9).inc ∧ (∀ a : BusId, a ≠ b → u.bus[a.1] = s.bus[a.1])) ∧
    (∀ tec rec_ : Nat, ∃ u, exec (.busError t b tec rec_) s = .next u ∧
      u = { r with counters := u.counters, bus := u.bus, book := u.book } ∧
      u.bus[b.1] = { x with
        okRun := 0, sawTraffic := true, tecN := tec, recN := rec_
        err := if x.err = .off then .off else if 127 < tec ∨ 127 < rec_ then .passive else .active } ∧
      u.counter (0x81 + b.1) 2 = (s.counter (0x81 + b.1) 2).inc ∧ (∀ a : BusId, a ≠ b → u.bus[a.1] = s.bus[a.1]))

/-- Frames into and out of Hopper. -/
def Obligations.HopperFrames : Prop := Claim.FramesReceived ∧ Claim.FramesSent

/-- R271, R272, R275: a detecting bus tries the used candidates in index order, 250 ms each, and starts again after the last. Four
frames in a row without error adopt the candidate; 2 s without a dominant bit take the configured timing and set NOTRAF. -/
def Claim.RateDetection : Prop :=
  ∀ (s : State) (t : Nat) (b : BusId), let r := s.at t
    let x := s.bus[b.1]
    let g := s.cfg.bus.bus[b.1]
    x.started = true → x.bstate = .detecting →
    (∀ k : Fin 8, x.candAt + ms 250 ≤ r.ns → g.candidates[k.1].nominal ≠ 0 →
      (x.cand < k.1 ∧ (∀ j : Fin 8, x.cand < j.1 → j < k → g.candidates[j.1].nominal = 0) ∨
       (∀ j : Fin 8, x.cand < j.1 → g.candidates[j.1].nominal = 0) ∧ (∀ j : Fin 8, j < k → g.candidates[j.1].nominal = 0)) →
      ∃ u, exec (.busCandidateTimeout t b) s = .next u ∧ u = { r with counters := u.counters, bus := u.bus, book := u.book } ∧
        u.bus[b.1] = { x with cand := k.1, candAt := r.ns, okRun := 0 } ∧ (∀ a : BusId, a ≠ b → u.bus[a.1] = s.bus[a.1])) ∧
    (∀ k : Fin 8, x.cand = k.1 → 4 ≤ x.okRun →
      ∃ u, exec (.busRateAdopted t b) s = .next u ∧ u = { r with counters := u.counters, bus := u.bus, book := u.book } ∧
        u.bus[b.1] = { x with
          bstate := .detected, prior := .detected, timing := g.candidates[k.1], adopted := k.1, listen := g.listenOnly } ∧
        (∀ a : BusId, a ≠ b → u.bus[a.1] = s.bus[a.1])) ∧
    (x.sawTraffic = false → x.detectAt + ms 2000 ≤ r.ns →
      ∃ u, exec (.busFallbackTiming t b) s = .next u ∧ u = { r with counters := u.counters, bus := u.bus, book := u.book } ∧
        u.bus[b.1] = { x with
          bstate := .fallback, prior := .fallback, timing := g.timing, adopted := 15, listen := g.listenOnly, noTraf := true } ∧
        (∀ a : BusId, a ≠ b → u.bus[a.1] = s.bus[a.1]))

/-- R272, R276: bus off is counted and sets BUSOFF. A bus on fall-back timing returns to silent detection; any other recovers to
the state it had, with its error counters at 0. The other bus is not affected. -/
def Claim.BusOffAndRecovery : Prop :=
  ∀ (s : State) (t : Nat) (b : BusId), let r := s.at t
    let x := s.bus[b.1]
    (x.established = true → x.err ≠ .off →
      ∃ u, exec (.busOff t b) s = .next u ∧ u = { r with counters := u.counters, bus := u.bus, book := u.book } ∧
        u.counter (0x81 + b.1) 3 = (s.counter (0x81 + b.1) 3).inc ∧ u.bus[b.1].busOff = true ∧ u.bus[b.1].hopper = x.hopper ∧
        (x.bstate = .fallback → u.bus[b.1].bstate = .detecting ∧ u.bus[b.1].listen = true ∧ u.bus[b.1].detectAt = r.ns) ∧
        (x.bstate ≠ .fallback → u.bus[b.1] = { x with busOff := true, err := .off, prior := x.bstate, bstate := .recovery }) ∧
        (∀ a : BusId, a ≠ b → u.bus[a.1] = s.bus[a.1])) ∧
    (x.bstate = .recovery →
      ∃ u, exec (.busOffRecovery t b) s = .next u ∧
        u = { r with counters := u.counters, bus := u.bus, cal := u.cal, book := u.book } ∧
        u.bus[b.1] = { x with bstate := x.prior, err := .active, tecN := 0, recN := 0 } ∧
        (∀ a : BusId, a ≠ b → u.bus[a.1] = s.bus[a.1]))

/-- Detection of the bit rate, bus off and recovery. -/
def Obligations.BusDetectionAndRecovery : Prop := Claim.RateDetection ∧ Claim.BusOffAndRecovery

/-- A read of a receive object that succeeds: no double-bit error, and a whole copy within four tries (R278, R279). -/
def Sys2Proof.HopRead.whole (x : HopRead) : Prop := x.ecc ≠ .uncorrectable ∧ x.failed.length < 4

/-- R281, R282, R284-R287: a valid telegram whose partner copy came within 20 ms, first of its safe ID or ahead in sequence and fresh, is
accepted when the second copy arrives; so is the first copy in single-bus mode. The baseline needs no freshness, and none of its
commands wait for a decision: they are counted with code 0x84. Those of a telegram with a new command number wait, at a module that
decides and is not listen-only on both buses. The release bits are taken from each. A standby keeps its sequence and command numbers from
the stream (R318). Whichever object of the receive group a command names, Miller reads the oldest unread one (R278). -/
def Claim.TelegramAccepted : Prop :=
  ∀ (s : State) (t : Nat) (b : BusId) (k : Fin 4) (j : Fin 128) (h : HopRead) (o : HObj), let r := s.at t
    let x := DoorTelegram.ofBytes o.data
    let ref := s.safeRef x
    let waits := s.bus[(1 - b).1].copies
    let mate := waits.find? fun c => within20 c.arrival o.time && c.bytes == o.data
    let two : Prop := ∃ c : TeleCopy, mate = some c ∧ c.decided = false
    let one : Prop := s.tele.single = true ∧ ∀ c ∈ waits, within20 c.arrival o.time = true → sameTelegram c.bytes o.data = false
    let first := match mate with | some c => min c.arrival o.time | none => o.time
    s.millerRuns = true → s.bus[b.1].established = true → oldestNew s.bus[b.1].hopper 0 = some j → s.bus[b.1].hopper[j.1] = o → h.whole →
    s.copyValid o = true → (two ∨ one) →
    (ref.valid = true → 1 ≤ (x.seq - ref.seq).toNat ∧ (x.seq - ref.seq).toNat ≤ 32767 ∧ (s.tele.baseline = true ∨
      (diff32 (x.time - ref.time) (BitVec.ofNat 32 first - BitVec.ofNat 32 ref.arrival)).natAbs ≤ 20000)) →
    ∃ u, exec (.safeTelegramCopy t b ⟨k, h⟩) s = .next u ∧
      u = { r with counters := u.counters, bus := u.bus, tele := u.tele, pair := { s.pair with msgs := u.pair.msgs }, book := u.book } ∧
      u.bus[b.1].hopper[j.1].new = false ∧
      u.bus[(1 - b).1].copies = (match mate with | some c => waits.erase c | none => waits) ∧
      u.tele.lastAccept = r.ns ∧ u.tele.baseline = false ∧ u.tele.lost = false ∧
      u.tele.bitL = x.relL ∧ u.tele.bitR = x.relR ∧
      (s.pair.formed = false ∨ s.pair.token = true → u.tele.cmdNo = some x.cmdNo ∧
        u.safeRef x = { seq := x.seq, time := x.time, arrival := first, valid := true }) ∧
      (s.pair.formed = true → s.pair.token = false → u.tele.cmdNo = s.tele.cmdNo ∧ u.tele.own.seq = s.tele.own.seq) ∧
      u.counter (safeBlock x.toAll) 0 = (s.counter (safeBlock x.toAll) 0).inc ∧
      (s.cfg.bus.releaseMode = 0 → u.tele.relL = s.tlOn 1 ∧ u.tele.relR = s.tlOn 2) ∧
      (s.cfg.bus.releaseMode = 1 ∨ s.tele.single = true ∧ s.cfg.bus.releaseMode ≠ 0 →
        (u.tele.relL = true ↔ x.relL = true ∧ s.tlOn 1 = true) ∧ (u.tele.relR = true ↔ x.relR = true ∧ s.tlOn 2 = true)) ∧
      (s.cfg.bus.releaseMode = 2 → s.tele.single = false → u.tele.relL = x.relL ∧ u.tele.relR = x.relR) ∧
      (s.tele.baseline = true ∨ s.tele.cmdNo = some x.cmdNo ∨ s.decides = false ∨ s.busesMute = true →
        u.tele.close = s.tele.close ∧ u.tele.open_ = s.tele.open_ ∧ u.tele.reset = s.tele.reset) ∧
      (s.tele.baseline = true → x.masks ≠ 0 → s.decides = true → s.busesMute = false →
        u.counter 0x80 15 = (s.counter 0x80 15).inc) ∧
      (s.tele.baseline = false → s.tele.cmdNo ≠ some x.cmdNo → x.masks ≠ 0 → s.decides = true → s.busesMute = false →
        u.tele.close = x.close ∧ u.tele.open_ = x.open_ ∧ u.tele.reset = x.reset)

/-- R279, R282, R283: a lone copy waits for its partner; copies that disagree are both discarded and counted; a duplicate or a telegram
behind the last accepted one is discarded and counted; 20 ms after its arrival a lone copy is dropped. None of them is acted on. Nor is
an object that four tries could not read, or one with a double-bit error: the first stays unread, the second is discarded. -/
def Claim.TelegramDiscarded : Prop :=
  ∀ (s : State) (t : Nat) (b : BusId) (k : Fin 4) (j : Fin 128) (h : HopRead) (o : HObj), let r := s.at t
    let x := DoorTelegram.ofBytes o.data
    let d := (x.seq - (s.safeRef x).seq).toNat
    let blk := safeBlock x.toAll
    let waits := s.bus[(1 - b).1].copies
    (s.millerRuns = true → s.bus[b.1].established = true → oldestNew s.bus[b.1].hopper 0 = some j → s.bus[b.1].hopper[j.1] = o →
      (h.whole → s.copyValid o = true →
        ((∀ c ∈ waits, within20 c.arrival o.time = true → sameTelegram c.bytes o.data = false) → s.tele.single = false →
          ∃ u, exec (.safeTelegramCopy t b ⟨k, h⟩) s = .next u ∧ u = { r with counters := u.counters, bus := u.bus } ∧
            u.bus[b.1].copies = s.bus[b.1].copies ++ [{ bytes := o.data, arrival := o.time }] ∧ u.bus[b.1].copyAt = some r.ns) ∧
        (∀ c, (waits.find? fun c => within20 c.arrival o.time && sameTelegram c.bytes o.data) = some c →
          (∀ c ∈ waits, within20 c.arrival o.time = true → c.bytes ≠ o.data) →
          ∃ u, exec (.safeTelegramCopy t b ⟨k, h⟩) s = .next u ∧
            u = { r with counters := u.counters, bus := u.bus, book := u.book,
                         tele := if c.accepted then { s.tele with agreeAt := none } else s.tele } ∧
            u.bus[(1 - b).1].copies = waits.erase c ∧ u.bus[b.1].copies = s.bus[b.1].copies ∧
            u.counter blk 3 = (s.counter blk 3).inc) ∧
        (∀ c, (waits.find? fun c => within20 c.arrival o.time && c.bytes == o.data) = some c → c.decided = false →
          (s.safeRef x).valid = true → (d = 0 ∨ 32767 < d) →
          ∃ u, exec (.safeTelegramCopy t b ⟨k, h⟩) s = .next u ∧
            u = { r with counters := u.counters, bus := u.bus, book := u.book } ∧ u.bus[(1 - b).1].copies = waits.erase c ∧
            (d = 0 → u.counter blk 1 = (s.counter blk 1).inc) ∧ (d ≠ 0 → u.counter blk 4 = (s.counter blk 4).inc))) ∧
      (h.ecc ≠ .uncorrectable → 4 ≤ h.failed.length →
        ∃ u, exec (.safeTelegramCopy t b ⟨k, h⟩) s = .next u ∧ u = { r with counters := u.counters } ∧
          u.counter (0x81 + b.1) 7 = (s.counter (0x81 + b.1) 7).inc) ∧
      (h.ecc = .uncorrectable →
        ∃ u, exec (.safeTelegramCopy t b ⟨k, h⟩) s = .next u ∧ u = { r with counters := u.counters, bus := u.bus, book := u.book } ∧
          u.bus[b.1] = { s.bus[b.1] with ecc := true, hopper := s.bus[b.1].hopper.set j.1 {} } ∧
          u.counter (0x81 + b.1) 11 = (s.counter (0x81 + b.1) 11).inc)) ∧
    (s.millerRuns = true → s.bus[b.1].established = true → oldestNew s.bus[b.1].hopper 0 = none →
      exec (.safeTelegramCopy t b ⟨k, h⟩) s = .next r) ∧
    (s.millerRuns = true → ∃ u, exec (.telegramCopyTimeout t b) s = .next u ∧ u = { r with counters := u.counters, bus := u.bus, tele := u.tele } ∧
      (∀ c, c ∈ u.bus[b.1].copies ↔ c ∈ s.bus[b.1].copies ∧ r.mill ≤ c.arrival + 20000) ∧
      u.tele = { s.tele with agreeAt := u.tele.agreeAt } ∧ u.bus[b.1].hopper = s.bus[b.1].hopper)

/-- R284, R285: three cycles without an accepted telegram, counted from the start too, clear both release bits, and the next telegram is the
baseline. The
module, while its Miller runs (R383), is in single-bus mode from the moment exactly one bus delivers until both have agreed for 1 s. -/
def Claim.CommandsLostAndSingleBus : Prop :=
  ∀ (s : State) (t : Nat), let r := s.at t
    (s.tele.lost = false → s.millerRuns = true → s.tele.lastAccept + ms (3 * s.cfg.bus.safeCycleMs) ≤ r.ns →
      ∃ u, exec (.commandTelegramsLost t) s = .next u ∧ u = { r with counters := u.counters, tele := u.tele, book := u.book } ∧
        u.tele = { s.tele with bitL := false, bitR := false, baseline := true, lost := true, relL := u.tele.relL, relR := u.tele.relR } ∧
        (s.cfg.bus.releaseMode ≠ 0 → u.tele.relL = false ∧ u.tele.relR = false)) ∧
    (s.millerRuns = true → s.tele.single = false → r.delivering 0 ≠ r.delivering 1 →
      ∃ u, exec (.singleBusModeEnter t) s = .next u ∧ u = { r with counters := u.counters, tele := u.tele, book := u.book } ∧
        u.tele = { s.tele with single := true, singleBus := if r.delivering 0 then 1 else 2, agreeAt := none, relL := u.tele.relL, relR := u.tele.relR } ∧
        (s.cfg.bus.releaseMode = 2 → (u.tele.relL = true ↔ s.tele.bitL = true ∧ s.tlOn 1 = true) ∧
          (u.tele.relR = true ↔ s.tele.bitR = true ∧ s.tlOn 2 = true))) ∧
    (∀ a, s.millerRuns = true → s.tele.single = true → r.delivering 0 = true → r.delivering 1 = true → s.tele.agreeAt = some a → a + ms 1000 ≤ r.ns →
      ∃ u, exec (.singleBusModeLeave t) s = .next u ∧ u = { r with counters := u.counters, tele := u.tele, book := u.book } ∧
        u.tele = { s.tele with single := false, agreeAt := none, relL := u.tele.relL, relR := u.tele.relR })

/-- Safe telegrams: accepted, discarded, lost, and single-bus mode. -/
def Obligations.SafeTelegrams : Prop := Claim.TelegramAccepted ∧ Claim.TelegramDiscarded ∧ Claim.CommandsLostAndSingleBus

/-- R20, R275, R290: an output command is taken as a whole: with its masks naming only what the buses may command, every output and switch
named takes its bit and the rest keep theirs, and it is answered 0x00. Else no output changes, and it is answered 0x01 for its length,
0x08 in a Sluice safe state, 0x03 without the token, 0x82 for its masks. R290 gives 0x82; the codes 0x01, 0x08 and 0x03 and their order are
read from Table 1-4 of R20 (log 23). With both buses listen-only it is only counted. Miller reads the oldest unread object of the group. -/
def Claim.OutputCommand : Prop :=
  ∀ (s : State) (t : Nat) (b : BusId) (k : Fin 4) (j : Fin 128) (h : HopRead) (o : HObj), let r := s.at t
    let dv := BitVec.ofNat 32 (beAt o.data 2 4)
    let dst := BitVec.ofNat 32 (beAt o.data 6 4)
    let lv := BitVec.ofNat 48 (beAt o.data 10 6)
    let lst := BitVec.ofNat 48 (beAt o.data 16 6)
    let ok : Prop := (∀ n : Dout, dv.getLsbD n.1 = true → s.doByBus n = true) ∧ ∀ n : Ls, lv.getLsbD n.1 = true → s.lsByBus n = true
    s.millerRuns = true → s.bus[b.1].established = true → oldestNew s.bus[b.1].hopper 8 = some j → s.bus[b.1].hopper[j.1] = o → h.whole →
    s.decides = true →
    ∃ u, exec (.outputCommand t b ⟨k, h⟩) s = .next u ∧
      u = { r with io := u.io, counters := u.counters, bus := u.bus, tele := { s.tele with ansSeq := u.tele.ansSeq }
                   pair := { s.pair with msgs := u.pair.msgs }, maint := { s.maint with reason := u.maint.reason }, book := u.book } ∧
      u.bus[b.1].hopper[j.1].new = false ∧
      (s.busesMute = true → u.io = s.io ∧ u.tele = s.tele ∧ u.counter 0x80 12 = (s.counter 0x80 12).inc) ∧
      (s.busesMute = false → u.tele.ansSeq = s.tele.ansSeq + 1 ∧
        (o.data.length ≠ 24 → u.io = s.io ∧ u.maint.reason = 0x01) ∧
        (o.data.length = 24 → s.sluice.safe = true → u.io = s.io ∧ u.maint.reason = 0x08) ∧
        (o.data.length = 24 → s.sluice.safe = false → s.pair.token = false → u.io = s.io ∧ u.maint.reason = 0x03) ∧
        (o.data.length = 24 → s.sluice.safe = false → s.pair.token = true →
          (ok → u.maint.reason = 0 ∧
            (∀ n : Dout, u.io.dout[n.1].busCmd = (if dv.getLsbD n.1 then dst.getLsbD n.1 else s.io.dout[n.1].busCmd)) ∧
            (∀ n : Dout, dv.getLsbD n.1 = true → s.outputsLive = true → s.io.dout[n.1].fault = false →
              s.cyc[n.door.1].restarting = false → u.io.dout[n.1].pin = (if dst.getLsbD n.1 then .on else .off)) ∧
            (∀ n : Ls, u.io.ls[n.1].cmd = (if lv.getLsbD n.1 then lst.getLsbD n.1 else s.io.ls[n.1].cmd))) ∧
          (¬ ok → u.io = s.io ∧ u.maint.reason = 0x82 ∧ u.counter 0x80 13 = (s.counter 0x80 13).inc)))

/-- R289, R291, R292: the sender's group status telegram goes out each cycle, with the next sequence number, and never sooner than
10 ms after the last; the status pages and the module page go out every status period, of the Umurn 2208 the even ones. -/
def Claim.StatusSent : Prop :=
  ∀ (s : State) (t : Nat), let r := s.at t
    (s.sends = true → (∀ a, s.tele.gsAt = some a → a + ms s.cfg.bus.safeCycleMs ≤ r.ns) →
      ∃ u, exec (.groupStatusTelegram t) s = .next u ∧
        u = { r with counters := u.counters, bus := u.bus, tele := u.tele, pair := { s.pair with msgs := u.pair.msgs }, book := u.book } ∧
        u.tele = { s.tele with gsSeq := s.tele.gsSeq + 1, gsAt := some r.ns, gsSent := r.groupStatus } ∧
        (s.pair.formed = false → ∀ b : BusId, s.cfg.bus.bus[b.1].listenOnly = false → ∃ k : Fin 128, 12 ≤ k.1 ∧ k.1 < 16 ∧
          u.bus[b.1].hopper[k.1].id = BitVec.ofNat 11 (0x090 + s.cfg.bus.node) ∧ u.bus[b.1].hopper[k.1].txPend = true ∧
          u.bus[b.1].hopper[k.1].data = r.safeTelegram s.tele.gsSeq r.groupStatus)) ∧
    (∀ a, s.tele.gsAt = some a → r.ns < a + ms 10 → 10 ≤ s.cfg.bus.safeCycleMs → exec (.groupStatusTelegram t) s = .next r) ∧
    (s.sends = true → (∀ a, s.tele.pageAt = some a → a + ms s.cfg.bus.statusMs ≤ r.ns) →
      ∃ u, exec (.statusPageSend t) s = .next u ∧
        u = { r with counters := u.counters, bus := u.bus, tele := u.tele, pair := { s.pair with msgs := u.pair.msgs } } ∧
        u.tele = { s.tele with pageAt := some r.ns, pageSeq := u.tele.pageSeq } ∧
        (∀ k : Fin 16, (s.nv.is2216 = true ∨ k.1 % 2 = 0) → u.tele.pageSeq[k.1] = s.tele.pageSeq[k.1] + 1 ∧
          (s.pair.formed = false → ∀ b : BusId, s.cfg.bus.bus[b.1].listenOnly = false →
            (u.bus[b.1].hopper[20 + k.1]).id = BitVec.ofNat 11 (0x200 + 16 * k.1 + s.cfg.bus.node) ∧
            (u.bus[b.1].hopper[20 + k.1]).txPend = true ∧ (u.bus[b.1].hopper[20 + k.1]).data = r.statusPage k)) ∧
        (∀ k : Fin 16, s.nv.is2216 = false → k.1 % 2 = 1 → u.tele.pageSeq[k.1] = s.tele.pageSeq[k.1]) ∧
        u.tele.pageSeq[16] = s.tele.pageSeq[16] + 1)

/-- Output commands from the buses, and the status telegrams. -/
def Obligations.BusOutputsAndStatus : Prop := Claim.OutputCommand ∧ Claim.StatusSent

/-- R278, R295, R297: of the references received the oldest is read; two references with consecutive counters make a boundary of their
bus; its offset is the master's time less the calendar time at the stamped start of frame of the first. At a boundary of the selected
source an offset below 2 ms is slewed off from the present time, a larger one is held, and the second of two that agree within 1 ms steps
the calendar. -/
def Claim.TimeReference : Prop :=
  ∀ (s : State) (t : Nat) (b : BusId) (k : Fin 4) (j : Fin 128) (sof : Nat) (h : HopRead) (o : HObj), let r := s.at t
    let m := TimeRefMsg.ofBytes o.data
    let p := s.cal.refs[b.1]
    let off : Int := (m.us : Int) - p.calSof
    s.millerRuns = true → s.bus[b.1].established = true → oldestNew s.bus[b.1].hopper 4 = some j → s.bus[b.1].hopper[j.1] = o → h.whole →
    o.data.length = 8 → o.id.toNat = 0x010 + s.cfg.bus.timeMaster → s.cal.src = busSrc b → s.cal.psrc = none → p.seen = true →
    m.counter = p.counter + 1 →
    ∃ u, exec (.timeReference t b ⟨k, h⟩ sof) s = .next u ∧
      u = { r with counters := u.counters, bus := u.bus, cal := u.cal, book := u.book } ∧
      u.bus[b.1] = { s.bus[b.1] with hopper := s.bus[b.1].hopper.set j.1 { o with new := false } } ∧
      u.cal.src = busSrc b ∧ u.cal.offset = off ∧ u.cal.synced = true ∧ u.cal.boundary = r.ns ∧
      u.cal.refs[b.1] = {
        counter := m.counter, sof := sof, seen := true, calSof := r.calAt sof
        pairAt := if m.mq ≤ 1 then some r.ns else p.pairAt } ∧
      (off.natAbs < 2000 → u.cal.now u.ns = s.cal.now r.ns ∧ u.cal.slew = off ∧ u.cal.step = s.cal.step ∧ u.cal.held = none) ∧
      (2000 ≤ off.natAbs → (∀ g, s.cal.held = some g → 1000 < (off - g).natAbs) →
        u.cal.now u.ns = s.cal.now r.ns ∧ u.cal.slew = 0 ∧ u.cal.step = s.cal.step ∧ u.cal.held = some off) ∧
      (∀ g, 2000 ≤ off.natAbs → s.cal.held = some g → (off - g).natAbs ≤ 1000 →
        (u.cal.now u.ns : Int) = max 0 ((s.cal.now r.ns : Int) + off) ∧ u.cal.slew = 0 ∧ u.cal.step = true ∧ u.cal.held = none ∧
        (u.cal.back = true ↔ s.cal.back = true ∨ off < 0))

/-- R296: a selected source that became invalid leaves the calendar on holdover, with a switch to the best valid source pending.
When the source just left recovers before that switch completes, the switch is abandoned and it resumes at once, with no step. -/
def Claim.TimeSourceLostAndBack : Prop :=
  ∀ (s : State) (t : Nat), let r := s.at t
    (s.maint.failed = false → s.cal.src ≠ .holdover → r.srcValid s.cal.src = false → s.cal.psrc = none →
      ∃ u, exec (.timeSourceInvalid t) s = .next u ∧ u = { r with counters := u.counters, cal := u.cal, book := u.book } ∧
        u.cal = { s.cal with
          src := .holdover, held := none, left := s.cal.src
          psrc := if r.bestSrc = .holdover then none else some r.bestSrc }) ∧
    (∀ a, s.bus[0].bstate = .recovery → s.bus[0].started = true → s.bus[0].prior ≠ .detecting → s.cfg.bus.useA = true →
      s.cal.refs[0].pairAt = some a → r.ns ≤ a + ms (3 * s.cfg.bus.refPeriodMs) →
      s.cal.src = .holdover → s.cal.left = .busA → s.cal.psrc = some .busB →
      ∃ u, exec (.busOffRecovery t 0) s = .next u ∧ u.cal = { s.cal with src := .busA, psrc := none, held := none, aband := true })

/-- Time references and sources of the calendar. -/
def Obligations.CalendarTime : Prop := Claim.TimeReference ∧ Claim.TimeSourceLostAndBack

/-- R303, R305, R306, R366: a module that forms a pair sends its identity every 10 ms. A partner of the other position with the same variant and
image forms the pair; one that reads the same position, or differs otherwise, does not, and the module is ALONE. The model's choice (log 38):
the token holder of a formed pair that hears no back frames sends and checks identities too, so that a partner which starts anew with
another image ends the pair; a standby of a formed pair looks at none. -/
def Claim.PairIdentity : Prop :=
  ∀ (s : State) (t : Nat) (f : IdFrame), let r := s.at t
    s.cfg.pair.enable = true → s.pair.formAt.isSome = true →
    ((s.pair.formed = false ∨ s.partnerGone = true) → (s.pair.txIdent = none ∨ s.pair.identSent + ms 10 ≤ r.ns) →
      exec (.identityFrameSend t) s = .next { r with pair := { s.pair with
        identSent := r.ns
        txIdent := some { variant2216 := s.nv.is2216, posB := s.pair.posB, headerCrc := s.cfg.headerCrc } } }) ∧
    (s.pair.formed = true → s.partnerGone = false → exec (.identityFrameSend t) s = .next r) ∧
    (s.pair.formed = false → f.variant2216 = s.nv.is2216 → f.posB ≠ s.pair.posB → f.headerCrc = s.cfg.headerCrc →
      s.pair.pstate = .forming →
      ∃ u, exec (.identityFrame t f) s = .next u ∧ u = { r with pair := u.pair, counters := u.counters, book := u.book } ∧
        u.pair = { s.pair with identity := some f, formed := true, notFormed := none }) ∧
    ((s.pair.formed = false ∨ s.pair.token = true) →
      (f.posB = s.pair.posB ∨ f.variant2216 ≠ s.nv.is2216 ∨ f.headerCrc ≠ s.cfg.headerCrc) →
      ∃ u, exec (.identityFrame t f) s = .next u ∧ u.pair.formed = false ∧ u.pair.pstate = .alone ∧
        u.pair.notFormed = some (if f.variant2216 ≠ s.nv.is2216 then 1 else if f.posB = s.pair.posB then 2 else 3) ∧
        u.drv = s.drv ∧ u.cyc = s.cyc ∧ u.slot = s.slot ∧ u.nv = s.nv) ∧
    (s.pair.formed = true → s.pair.token = false → exec (.identityFrame t f) s = .next r)

/-- R305: of a formed pair that has not chosen its roles, a module whose partner holds the token stands by; one that may take the
token and is designated, or is position A with no designation, takes it and is ACTIVE, with its own clock as the pair clock. Once
the wait is over without a partner the module is ALONE and takes the token. -/
def Claim.PairRoles : Prop :=
  ∀ (s : State) (t : Nat), let r := s.at t
    s.pair.pstate = .forming →
    (s.pair.formed = true → s.pair.tokIn = true →
      ∃ u, exec (.pairFormation t) s = .next u ∧ u = { r with pair := { s.pair with pstate := .standbyNotReady, roleAt := r.ns }, io := { s.io with pairSink := true } }) ∧
    (s.pair.formed = true → s.pair.tokIn = false → s.mayTakeToken = true →
      (s.pair.desig = some s.pair.posB ∨ s.pair.desig = none ∧ s.pair.posB = false) →
      ∃ u, exec (.pairFormation t) s = .next u ∧ u = { r with pair := u.pair, io := u.io, safety := u.safety } ∧
        u.pair.pstate = .active ∧ u.pair.token = true ∧ u.pair.offset = 0 ∧ u.pair.closeAt = some (r.ns + 5000)) ∧
    (s.pair.formed = false → r.formLate = true →
      ∃ u, exec (.pairFormation t) s = .next u ∧ u.pair.pstate = .alone ∧ u.pair.formed = false ∧
        (s.mayTakeToken = true → u.pair.token = true) ∧ u.drv = s.drv ∧ u.cyc = s.cyc ∧ u.slot = s.slot ∧ u.nv = s.nv)

/-- Identity frames and the roles of a pair. -/
def Obligations.PairFormation : Prop := Claim.PairIdentity ∧ Claim.PairRoles

/-- R304, R305, R322, R323, R316, R325: when the partner's token line falls, a module alone takes the token; a standby with no position
mismatch takes it over at once, at a handover its partner asked for also with one. It continues every sequence number 16 on,
discards pending live writes and sets COLD where no frame came in the last 500 µs. One with a mismatch does not take it. -/
def Claim.TokenTakenWhenReleased : Prop :=
  ∀ (s : State) (t : Nat), let r := s.at t
    let may : Prop := s.pair.tokenBarred = false ∧ s.sluice.safe = false ∧ s.maint.configured = true ∧
      ∀ d : Door, s.drv[d.1].isoBlocked = false
    let standby : Prop := s.pair.pstate = .standbyReady ∨ s.pair.pstate = .standbyNotReady ∨ s.pair.pstate = .split
    let fresh : Prop := ∃ a, s.pair.rxAt = some a ∧ r.ns ≤ a + 500000
    s.pair.token = false →
    (s.pair.pstate = .alone → s.pair.formed = false → (s.cfg.pair.enable = true → s.pair.formAt.isSome = true) → may →
      ∃ u, exec (.tokenInReleased t) s = .next u ∧ u = { r with io := u.io, safety := u.safety, pair := u.pair } ∧
        u.pair = { s.pair with tokIn := false, token := true, closeAt := some (r.ns + 5000) }) ∧
    (standby → may → (s.pair.handoverSeen = true ∨ s.pair.posmis = 0) →
      ∃ u, exec (.tokenInReleased t) s = .next u ∧
        u.nv = s.nv ∧ u.cfg = s.cfg ∧ u.bus = s.bus ∧ u.sluice = s.sluice ∧ u.cal = s.cal ∧ u.sup = s.sup ∧ u.ns = r.ns ∧
        u.pair.token = true ∧ u.pair.tokIn = false ∧ u.pair.pstate = .active ∧ u.pair.closeAt = some (r.ns + 5000) ∧
        u.pair.tkovr = true ∧ u.pair.offset = s.pair.offset ∧ u.capture.active = false ∧
        u.tele.gsSeq = s.tele.gsSeq + 16 ∧ u.tele.ansSeq = s.tele.ansSeq + 16 ∧
        (∀ f, s.pair.rx = some f → u.pair.fseq = f.fseq + 15) ∧ (∀ c : Ch, u.slot[c.1].pending = []) ∧
        (u.pair.cold = true ↔ s.pair.cold = true ∨ (s.pair.handoverSeen = false ∧ ¬ fresh))) ∧
    (standby → s.pair.handoverSeen = false → s.pair.posmis ≠ 0 →
      ∃ u, exec (.tokenInReleased t) s = .next u ∧ u = { r with io := { s.io with pairSink := u.io.pairSink }, pair := u.pair } ∧
        u.pair = { s.pair with tokIn := false, pstate := if s.pair.pstate = .split then .standbyNotReady else s.pair.pstate })

/-- R323, R263, R325: at a hot or planned takeover each doorway without a position mismatch goes on in its streamed mode and force, a
moving one with a hand-over, and with no mismatch at all every output without a fault follows its streamed pin. At a cold one every
moving doorway that is not ISOLATED is braked, and every moving step, an ISOLATED doorway's too. -/
def Claim.TakeoverOfDoors : Prop :=
  ∀ (s : State) (t : Nat) (f : ActiveFrame) (a : Nat), let r := s.at t
    s.pair.token = false → (s.pair.pstate = .standbyReady ∨ s.pair.pstate = .standbyNotReady ∨ s.pair.pstate = .split) →
    s.pair.tokenBarred = false → s.sluice.safe = false → s.sluice.holding = false → s.maint.configured = true →
    (∀ d : Door, s.drv[d.1].isoBlocked = false) → s.pair.rx = some f → s.pair.rxAt = some a → s.pair.posmis = 0 →
    ∃ u, exec (.tokenInReleased t) s = .next u ∧
      (s.pair.handoverSeen = true ∨ r.ns ≤ a + 500000 →
        (∀ (d : Door) (m : Mode), s.fitted d = true → s.cyc[d.1].restarting = false → u.pair.posmis.getLsbD d.1 = false →
          Mode.ofCode f.doors[d.1].mode.toNat = some m →
          u.slot[d.ch.1].mode = m ∧ u.slot[d.ch.1].out = (f.doors[d.1].forceOut : Rat) / 10 ∧
          (m.moving = true → u.slot[d.ch.1].incoming = .handOver)) ∧
        (u.pair.posmis = 0 → (∀ d : Door, s.cyc[d.1].restarting = false) →
          (∀ n : Dout, s.io.dout[n.1].fault = false →
            u.io.dout[n.1].pin = (if f.doPins.getLsbD n.1 then .on else .off)) ∧
          (∀ n : Ls, s.io.ls[n.1].pause = none → s.io.ls[n.1].latched = false → s.io.ls[n.1].shed = false →
            (f.lsPins.getLsbD n.1 = true → u.io.ls[n.1].shadow ≠ 0) → u.io.ls[n.1].on = f.lsPins.getLsbD n.1))) ∧
      (s.pair.handoverSeen = false → a + 500000 < r.ns → ∀ d : Door, s.fitted d = true → s.cyc[d.1].state ≠ .isolated →
        s.enc[d.ch.1].still = false → u.slot[d.ch.1].req = some (.brake, 0) ∧ u.cyc[d.1].coldBrake = true) ∧
      (s.pair.handoverSeen = false → a + 500000 < r.ns → ∀ d : Door, s.fitted d = true → s.stepFitted d = true →
        s.enc[d.step.1].still = false → u.slot[d.step.1].req = some (.brake, 0))

/-- What a module does that takes a released token over. -/
def Obligations.Takeover : Prop := Claim.TokenTakenWhenReleased ∧ Claim.TakeoverOfDoors

/-- R68, R304, R324, R325: the partner's token line turns every braking path off. Of two tokens taken within 100 ns position B withdraws.
The module that gave its token up becomes the standby, discards pending live writes and telegram commands and tracks anew. 5 µs after
taking the token every pair that may close is commanded closed. -/
def Claim.TokenLineAndDelay : Prop :=
  ∀ (s : State) (t : Nat), let r := s.at t
    (s.pair.token = true → (∀ c, s.pair.closeAt = some c → s.pair.posB = false ∨ c - 5000 + 100 < r.ns) →
      ∃ u, exec (.tokenInAsserted t) s = .next u ∧ u = { r with drv := u.drv, pair := { s.pair with tokIn := true } } ∧
        ∀ d : Door, u.drv[d.1] = { s.drv[d.1] with brake := none, brakeAsked := false, brakeSluice := false }) ∧
    (∀ c, s.pair.token = true → s.pair.closeAt = some c → s.pair.posB = true → r.ns ≤ c - 5000 + 100 →
      ∃ u, exec (.tokenInAsserted t) s = .next u ∧ u = { r with drv := u.drv, io := u.io, pair := u.pair } ∧
        u.pair.token = false ∧ u.pair.closeAt = none ∧ u.pair.tokIn = true ∧ u.pair.gaveUp = none ∧
        (∀ d : Door, u.drv[d.1].brake = none)) ∧
    (∀ k, s.pair.token = false → s.pair.gaveUp = some k → s.pair.restartAfter = false →
      ∃ u, exec (.tokenInAsserted t) s = .next u ∧ u.nv = s.nv ∧ u.cfg = s.cfg ∧ u.bus = s.bus ∧ u.sluice = s.sluice ∧
        u.pair.pstate = .standbyNotReady ∧ u.pair.tokIn = true ∧ u.pair.gaveUp = none ∧ u.pair.rx = none ∧ u.pair.msgs = [] ∧
        (∀ c : Ch, u.slot[c.1].pending = []) ∧ u.capture.active = false ∧ (∀ d : Door, u.drv[d.1].brake = none) ∧
        u.tele.ans = none ∧ u.tele.close = 0 ∧ u.tele.open_ = 0 ∧ u.tele.reset = 0) ∧
    (∀ a, s.pair.closeAt = some a → a ≤ r.ns →
      ∃ u, exec (.tokenAssertDelayEnd t) s = .next u ∧ u = { r with drv := u.drv, pair := { s.pair with closeAt := none } } ∧
        ∀ d : Door, u.drv[d.1].pairsCmd = true ↔
          (s.pair.token = true ∧ s.pair.releasing = false ∧ s.sluice.safe = false ∧ s.maint.configured = true ∧ s.fitted d = true ∧
           s.doorStopped d = false ∧ s.tripped d = false ∧ s.drv[d.1].brake = none ∧ s.drv[d.1].brakeAsked = false ∧
           s.drv[d.1].isoBlocked = false ∧ s.partnerIso = false ∧ s.drv[d.1].dvStopped = false))

/-- R319, R321, R322: a designation holds for the confirm time before it is valid; none for over 1 s sets ARBFLT. One that names a
ready standby sets HANDOVER, one that is not ready keeps the token and defers. READY after a frame with HANDOVER opens every pair,
and the token goes once every pair senses open. -/
def Claim.ArbiterAndHandover : Prop :=
  ∀ (s : State) (t : Nat), let r := s.at t
    let wants : Prop := s.pair.formed = true ∧ s.pair.token = true ∧ s.pair.pstate = .active ∧ s.cfg.pair.followArbiter = true ∧
      s.pair.desig = some (!s.pair.posB) ∧ s.pair.handover = false ∧ s.pair.releasing = false
    (∀ a b, (a ≠ s.pair.arb1 ∨ b ≠ s.pair.arb2) → 0 < s.cfg.pair.arbConfirmMs →
      exec (.arbiterDesignation t a b) s = .next { r with pair := { s.pair with arb1 := a, arb2 := b, arbAt := r.ns } }) ∧
    (s.pair.arbAt + ms s.cfg.pair.arbConfirmMs ≤ r.ns →
      ∃ u, exec (.arbiterDesignation t s.pair.arb1 s.pair.arb2) s = .next u ∧
        u = { r with counters := u.counters, pair := u.pair, book := u.book } ∧
        u.pair.desig = (if s.pair.arb1 = s.pair.arb2 then none else some s.pair.arb2) ∧ u.pair.token = s.pair.token) ∧
    (s.maint.configured = true → s.cfg.pair.enable = true → s.pair.desig = none → s.pair.arbLost = false →
      s.pair.desigAt + ms 1000 < r.ns →
      ∃ u, exec (.arbiterDesignationInvalid t) s = .next u ∧ u = { r with counters := u.counters, pair := u.pair, book := u.book } ∧
        u.pair = { s.pair with arbLost := true, arbFlt := true }) ∧
    (wants → s.partnerReady = true →
      exec (.plannedHandover t) s = .next ({ r with pair := { s.pair with handover := true, deferred := false } }.bump 0x84 6)) ∧
    (wants → s.partnerReady = false → s.pair.deferred = false →
      ∃ u, exec (.plannedHandover t) s = .next u ∧ u = { r with counters := u.counters, pair := u.pair, book := u.book } ∧
        u.pair = { s.pair with deferred := true }) ∧
    (wants → s.pair.deferred = true →
      exec (.readySymbol t) s = .next ({ r with pair := { s.pair with handover := true, deferred := false } }.bump 0x84 6)) ∧
    (∀ f, s.pair.formed = true → s.pair.token = true → s.pair.handover = true → s.pair.releasing = false → s.pair.tx = some f →
      f.handover = true →
      ∃ u, exec (.readySymbol t) s = .next u ∧ u = { r with drv := u.drv, io := u.io, pair := u.pair } ∧
        (∀ d : Door, u.drv[d.1].pairsCmd = false ∧ u.drv[d.1].bridgeOn = false) ∧
        ((∃ d : Door, s.drv[d.1].pairsSensed = true) → u.pair = { s.pair with releasing := true } ∧ u.io = s.io) ∧
        ((∀ d : Door, s.drv[d.1].pairsSensed = false) → u.pair.token = false ∧ u.pair.gaveUp = some 1 ∧
          (s.sluice.safe = false → (∀ n : Dout, u.io.dout[n.1].pin = .z) ∧ ∀ n : Ls, u.io.ls[n.1].on = false)))

/-- The partner token line, the 5 µs delay, the arbiter and planned handovers. -/
def Obligations.TokenAndHandover : Prop := Claim.TokenLineAndDelay ∧ Claim.ArbiterAndHandover

/-- R308, R309, R311, R314, R316, R318: a standby keeps the latest frame that no control symbol broke and whose CRC matches, and counts and
ignores any other; CRCERR tells of the CRC alone. It is STANDBY_READY from a frame on where no doorway shows a mismatch, Sluice is not in
the safe state, Runner lives and no isolation fault stands. A frame that does not follow the one before begins a new run. A bus frame in it is
loaded on each bus it names, into the Hopper object it names. -/
def Claim.ActiveFrameTaken : Prop :=
  ∀ (s : State) (t : Nat) (f : ActiveFrame) (crc : BitVec 16), let r := s.at t
    s.pair.formed = true → s.pair.token = false →
    (∀ broken : Bool, broken = true ∨ crc ≠ ActiveFrame.crc f →
      exec (.activeFrameReceived t ⟨broken, crc⟩ f) s = .next ({ r with pair := { s.pair with
        crcErr := s.pair.crcErr || !broken, failRun := s.pair.failRun + 1, okRun := 0 } }.bump 0x84 2)) ∧
    (crc = ActiveFrame.crc f → f.msgs = [] →
      ∃ u, exec (.activeFrameReceived t ⟨false, crc⟩ f) s = .next u ∧
        u = { r with counters := u.counters, io := { s.io with pairSink := u.io.pairSink }, cal := u.cal, pair := u.pair
                     book := u.book } ∧
        u.counter 0x84 1 = (s.counter 0x84 1).inc ∧ u.pair.rx = some f ∧ u.pair.rxAt = some r.ns ∧ u.pair.failRun = 0 ∧
        u.pair.okRun = (if ∃ g, s.pair.rx = some g ∧ f.fseq = g.fseq + 1 then s.pair.okRun + 1 else 1) ∧ u.pair.token = false ∧
        (s.pair.pstate = .standbyReady ∨ s.pair.pstate = .standbyNotReady → u.pair.pstate =
          (if s.pair.posmis = 0 ∧ s.sluice.safe = false ∧ s.safety.running = true ∧ ∀ d : Door, s.drv[d.1].isoBlocked = false then
            .standbyReady else .standbyNotReady))) ∧
    (∀ (mask : BitVec 2) (fd brs : Bool) (id : BitVec 11) (o : Fin 128) (data : List Byte),
      crc = ActiveFrame.crc f → f.msgs = [.busFrame mask fd brs id o.1 data] →
      ∃ u, exec (.activeFrameReceived t ⟨false, crc⟩ f) s = .next u ∧ ∀ b : BusId, mask.getLsbD b.1 = true →
        s.cfg.bus.bus[b.1].listenOnly = false →
          u.bus[b.1].hopper[o.1].id = id ∧ u.bus[b.1].hopper[o.1].data = data ∧ u.bus[b.1].hopper[o.1].fd = fd ∧
          u.bus[b.1].hopper[o.1].brs = brs ∧ u.bus[b.1].hopper[o.1].txPend = true)

/-- R309, R110, R324: the active module keeps the latest back frame that no control symbol broke and whose CRC matches. A result in a frame that
acknowledges the one which carried the waiting live-write check accepts the write, to be applied at least three pair periods ahead, or refuses
it 0x07; a result of an earlier frame decides nothing. PAIRISO holds every fitted doorway that is not ISOLATED in FAULT_HELD with cause 2 (the
frame does not name the doorways: the model's choice, logs 18 and 40). A check without a result for 1 ms is refused. -/
def Claim.BackFrameTaken : Prop :=
  ∀ (s : State) (t : Nat) (f : BackFrame), let r := s.at t
    s.pair.formed = true → s.pair.token = true →
    (∀ (broken : Bool) (crc : BitVec 16), broken = true ∨ crc ≠ BackFrame.crc f →
      exec (.backFrameReceived t ⟨broken, crc⟩ f) s = .next ({ r with pair := { s.pair with
        crcErr := s.pair.crcErr || !broken, failRun := s.pair.failRun + 1, okRun := 0 } }.bump 0x84 2)) ∧
    (s.pair.check = none → f.pairiso = false → f.calResult ≠ 2 → f.pstate ≠ 5 →
      ∃ u, exec (.backFrameReceived t ⟨false, BackFrame.crc f⟩ f) s = .next u ∧
        u = { r with counters := u.counters, io := { s.io with pairSink := u.io.pairSink }, pair := u.pair } ∧
        u.pair = { s.pair with
          rxBack := some f, rxBackAt := some r.ns, failRun := 0
          okRun := if ∃ g, s.pair.rxBack = some g ∧ f.bseq = g.bseq + 1 then s.pair.okRun + 1 else 1
          backLink := !s.pair.lost, link := !s.pair.lost }) ∧
    (∀ m c w a k, s.pair.check = some (m, c, w, a) → s.pair.checkSeq = some k → (f.ack - k).msb = false → f.pairiso = false →
      f.lwChannel = c → f.lwResult ≠ 0 →
      ∃ u, exec (.backFrameReceived t ⟨false, BackFrame.crc f⟩ f) s = .next u ∧ u.pair.check = none ∧ u.pair.checkSeq = none ∧
        (f.lwResult = 1 → s.slot[c.1].pending.length < 8 → ∃ k, r.pairTick + 3 ≤ k ∧
          u.slot[c.1].pending = s.slot[c.1].pending ++ [{ w with applyAt := some (r.tickNs (BitVec.ofNat 32 k)) }] ∧
          u.pair.msgs = s.endCheck.pair.msgs ++ [{ msg := .liveApply c w.offset w.value (BitVec.ofNat 32 k) }] ∧
          u.maint.reply = (r.answer 0x31 m 0x00).maint.reply) ∧
        (f.lwResult ≠ 1 → u.slot = s.slot ∧ u.pair.msgs = s.endCheck.pair.msgs ∧
          u.maint.reply = (r.answer 0x31 m 0x07).maint.reply)) ∧
    (s.pair.check.isSome = true → f.pairiso = false → (∀ k, s.pair.checkSeq = some k → (f.ack - k).msb = true) →
      ∃ u, exec (.backFrameReceived t ⟨false, BackFrame.crc f⟩ f) s = .next u ∧ u.pair.check = s.pair.check ∧
        u.pair.msgs = s.pair.msgs ∧ u.slot = s.slot ∧ u.maint = s.maint) ∧
    (f.pairiso = true →
      ∃ u, exec (.backFrameReceived t ⟨false, BackFrame.crc f⟩ f) s = .next u ∧
        ∀ d : Door, s.fitted d = true → s.cyc[d.1].state ≠ .isolated →
          u.cyc[d.1].state = .faultHeld ∧ (s.cyc[d.1].state ≠ .faultHeld → u.cyc[d.1].fcause = 2)) ∧
    (∀ m c w a, s.pair.check = some (m, c, w, a) → a + ms 1 ≤ r.ns → s.millerRuns = true →
      exec (.liveWriteCheckTimeout t) s = .next (r.endCheck.answer 0x31 m 0x07))

/-- R315: the stream is lost at the limit of frames that failed, or that time without one, also from the moment the module took its side of
the stream: a standby whose partner holds the token is SPLIT. After 64 valid frames it returns to standby. A calibration record is taken
up at its tick, with its biases at 0, and then the plug's copy is written (R145, R146; that the mirror is written after the take-up is the
model's choice, log 27). -/
def Claim.StreamLostAndRegained : Prop :=
  ∀ (s : State) (t : Nat), let r := s.at t
    let last := max ((if s.pair.token then s.pair.rxBackAt else s.pair.rxAt).getD 0) s.pair.roleAt
    (s.pair.formed = true → s.pair.pstate.sends.isSome = true → s.pair.lost = false →
      (s.cfg.pair.lossPeriods ≤ s.pair.failRun ∨ last + s.cfg.pair.lossPeriods * 125000 ≤ r.ns) →
      ∃ u, exec (.streamLost t) s = .next u ∧
        u = { r with counters := u.counters, io := { s.io with pairSink := u.io.pairSink }, pair := u.pair, book := u.book } ∧
        u.pair.lost = true ∧ u.pair.link = false ∧ u.pair.okRun = 0 ∧ u.pair.formed = true ∧ u.pair.token = s.pair.token ∧
        ((s.pair.pstate = .standbyReady ∨ s.pair.pstate = .standbyNotReady) → s.pair.tokIn = true → u.pair.pstate = .split) ∧
        (s.pair.pstate = .active → s.pair.token = true → u.pair.pstate = .active ∧ u.io.pairSink = false)) ∧
    (s.pair.lost = true → 64 ≤ s.pair.okRun →
      ∃ u, exec (.streamRegained t) s = .next u ∧
        u = { r with counters := u.counters, io := { s.io with pairSink := u.io.pairSink }, pair := u.pair, book := u.book } ∧
        u.pair.lost = false ∧ u.pair.link = true ∧
        (s.pair.pstate = .split → u.pair.pstate = .standbyReady ∨ u.pair.pstate = .standbyNotReady)) ∧
    (∀ (d : Door) (c : CalRec) (k : Option Nat), s.obs[d.1].sending = none → s.obs[d.1].takeUp = some (c, k) →
      (∀ j, k = some j → j ≤ r.ns) →
      ∃ u, exec (.calibrationTakeUp t d) s = .next u ∧
        u = { r with nv := { s.nv with bias := u.nv.bias, plug := u.nv.plug }, obs := u.obs, counters := u.counters, book := u.book
                     maint := { s.maint with outcomes := u.maint.outcomes, refresh := u.maint.refresh } } ∧
        u.obs[d.1].cal = c ∧ u.obs[d.1].noCal = false ∧ u.obs[d.1].takeUp = none ∧ u.obs[d.1].bClose = 0 ∧ u.obs[d.1].bOpen = 0 ∧
        u.obs[d.1].commit = false ∧ u.nv.bias = s.nv.bias.set d.1 (s.nv.bias[d.1].put (0, 0)) ∧
        u.nv.plug = (if s.obs[d.1].commit then (s.writeMirror d c).nv.plug else s.nv.plug) ∧
        (∀ e : Door, e ≠ d → u.obs[e.1] = s.obs[e.1]))

/-- Active and back frames, and the loss of the stream. -/
def Obligations.CesilStream : Prop := Claim.ActiveFrameTaken ∧ Claim.BackFrameTaken ∧ Claim.StreamLostAndRegained

/-- R334, R337, R339: a flush starts once the period since the last has passed. It ends with its items in their partitions, in order,
later ones still waiting, and a checkpoint with the counters, each in the older copy of its area; in write-through mode a checkpoint comes
every 60 s. A due refill gives one token back, and the timer goes on while the bucket is not full. -/
def Claim.FlushesAndCheckpoints : Prop :=
  ∀ (s : State) (t : Nat), let r := s.at t
    (s.book.wthru = false → s.book.flushing = none → s.book.powerFailed = false →
      s.book.flushEnd + ms (60000 * s.cfg.recorder.flushMin) ≤ r.ns →
      exec (.flushPeriodic t) s =
        .next ({ r with book := { s.book with flushing := some (s.book.intake.length, .periodic) } }.bump 0x85 30)) ∧
    (∀ n c, s.book.flushing = some (n, c) → s.nv.cycles.length + n ≤ 6160384 → s.nv.events.length + n ≤ 1048576 →
      s.nv.traces.length + n ≤ 7168 →
      ∃ u, exec (.flushComplete t) s = .next u ∧ u = { r with nv := u.nv, counters := u.counters, book := u.book } ∧
        u.book.intake = s.book.intake.drop n ∧ u.book.flushEnd = r.ns ∧ u.nv.checkpoint = s.nv.checkpoint.put u.checkpointNow ∧
        (∃ k, u.nv.counters = s.nv.counters.put k ∧ (u.book.flushing = none → k = u.counters)) ∧
        u.nv.cycles = s.nv.cycles ++ (s.book.intake.take n).filter (fun x => x.body.part == 0) ∧
        u.nv.events = s.nv.events ++ (s.book.intake.take n).filter (fun x => x.body.part == 1) ∧
        u.nv.traces = s.nv.traces ++ (s.book.intake.take n).filter (fun x => x.body.part == 2) ∧ u.nv.plug = s.nv.plug) ∧
    (s.book.wthru = true → s.book.powerFailed = false → s.book.checkpointAt + ms 60000 ≤ r.ns →
      exec (.checkpointWrite t) s = .next { r with
        nv := { s.nv with checkpoint := s.nv.checkpoint.put r.checkpointNow, counters := s.nv.counters.put s.counters }
        book := { s.book with checkpointAt := r.ns } }) ∧
    (∀ code a, (s.bucket code).timer = some a → a ≤ r.ns →
      ∃ u, exec (.tokenBucketRefill t code) s = .next u ∧ u = { r with book := { s.book with buckets := u.book.buckets } } ∧
        u.bucket code = { s.bucket code with
          tokens := (s.bucket code).tokens + 1
          timer := if (s.bucket code).tokens + 1 < s.cfg.recorder.burst then some (a + ms (1000 * s.cfg.recorder.refillS)) else none } ∧
        ∀ k, k ≠ code → u.bucket k = s.bucket k)

/-- R338: a full event partition overwrites its oldest record of no higher severity; where every record is more severe, the new one
is dropped, counted and shown. -/
def Claim.FullPartition : Prop :=
  ∀ (s : State) (t : Nat) (c : FlushCause) (x : Record) (l1 l2 : List Record), let r := s.at t
    s.book.flushing = some (1, c) → s.book.intake = [x] → x.body.part = 1 → 1048576 ≤ s.nv.events.length →
    (∀ y ∈ l1, x.severity < y.severity) →
    (∀ o, s.nv.events = l1 ++ o :: l2 → o.severity ≤ x.severity →
      ∃ u, exec (.flushComplete t) s = .next u ∧ u = { r with nv := u.nv, counters := u.counters, book := u.book } ∧
        u.nv.events = l1 ++ l2 ++ [x] ∧ u.book.pdrop = s.book.pdrop) ∧
    (s.nv.events = l1 →
      ∃ u, exec (.flushComplete t) s = .next u ∧ u = { r with nv := u.nv, counters := u.counters, book := u.book } ∧
        u.nv.events = s.nv.events ∧ u.book.pdrop = true ∧ u.counter 0x85 15 = (s.counter 0x85 15).inc)

/-- R340: a doorway's ring takes the entry of the last retired slot and keeps the last 1,015; a triggered trace takes it too, and is offered
once it has its 247. The first enabled trigger of a cycle starts a trace with the last 768 entries; a later one of the same cycle is only
counted. Between two trace ticks nothing is taken. -/
def Claim.TraceRings : Prop :=
  ∀ (s : State) (d : Door),
    let ring := s.book.rings[d.1]
    let e := s.slot[d.ch.1].lastEntry
    (let u := s.traceDoor d
     u = { s with book := u.book } ∧
     u.book.rings[d.1].entries = (ring.entries ++ [e]).drop (ring.entries.length + 1 - 1015) ∧ u.book.rings[d.1].count = ring.count ∧
     (∀ k : Door, k ≠ d → u.book.rings[k.1] = s.book.rings[k.1]) ∧
     (ring.pending = [] → u.book.rings[d.1].pending = [] ∧ u.book.offered = s.book.offered) ∧
     (∀ x tr n, ring.pending = [(x, n)] → x.body = .trace tr →
       (2 ≤ n → u.book.offered = s.book.offered ∧
         u.book.rings[d.1].pending = [({ x with body := .trace { tr with entries := tr.entries ++ [e] } }, n - 1)]) ∧
       (n = 1 → s.book.intakeOpen = true → s.book.powerFailed = false → u.book.rings[d.1].pending = [] ∧
         u.book.offered = s.book.offered ++ [{ x with body := .trace { tr with entries := tr.entries ++ [e] } }]))) ∧
    (∀ (b : Fin 7) (code severity : Nat) (c : CycleRec), s.cyc[d.1].rec? = some c →
      let u := s.traceTrigger d b code severity
      (s.cfg.recorder.triggers.getLsbD b.1 = false → u = s) ∧
      (s.cfg.recorder.triggers.getLsbD b.1 = true → c.traced = true →
        u = { s with book := u.book } ∧ u.book = { s.book with rings := s.book.rings.set d.1 { ring with count := ring.count + 1 } }) ∧
      (s.cfg.recorder.triggers.getLsbD b.1 = true → c.traced = false →
        u.cyc[d.1].rec? = some { c with traced := true } ∧ u = { s with book := u.book, cyc := u.cyc } ∧
        u.book.rings[d.1].entries = ring.entries ∧
        ∃ (x : Record) (tr : Trace), u.book.rings[d.1].pending = ring.pending ++ [(x, 247)] ∧ x.body = .trace tr ∧ x.event = code ∧
          x.severity = severity ∧ x.doorway = d.1 + 1 ∧ tr.trigger = b.1 ∧ tr.trigEntry = min 768 ring.entries.length ∧
          tr.entries = ring.entries.drop (ring.entries.length - 768))) ∧
    (s.tick % s.cfg.recorder.traceInterval ≠ 0 → s.traceTick = s)

/-- Flushes, checkpoints, token buckets, a full partition and the trace rings. -/
def Obligations.MillbookFlushes : Prop := Claim.FlushesAndCheckpoints ∧ Claim.FullPartition ∧ Claim.TraceRings

/-- R343, R344, R345: a store whose loop opens is ABSENT, with write-through in force and a flush of what intake holds; refitted it is
CHARGING. First at 50 V it is tested; a test passes at the least capacitance and at most 500 mΩ. A pass makes it AVAILABLE with
buffered mode, and of a replacement gives the acceptance date; a failure FAILED with write-through. A store that leaves AVAILABLE while LV is
below 60 V declares power-fail (R346). -/
def Obligations.MillpondStates : Prop :=
  ∀ (s : State) (t : Nat), let r := s.at t
    (s.book.pond ≠ .absent → s.book.pond ≠ .notFitted → (s.book.pond ≠ .available ∨ s.book.lvLowAt = none) →
      ∃ u, exec (.millpondPresenceOpen t .loopOpen) s = .next u ∧
        u = { r with counters := u.counters, book := u.book, maint := { s.maint with outcomes := u.maint.outcomes } } ∧
        u.book.pond = .absent ∧ u.book.wthru = true ∧ u.book.charger = false ∧ u.book.mprem = true ∧ u.book.testEnd = none ∧
        (s.book.intake ≠ [] → u.book.flushing.isSome = true)) ∧
    (s.book.pond = .available → s.book.lvLowAt.isSome = true → s.book.powerFailed = false → s.inReset = false →
      (∃ u, exec (.millpondPresenceOpen t .loopOpen) s = .next u ∧ u.book.pond = .absent ∧ u.book.powerFailed = true ∧
        u.sluice.safe = true) ∧
      ∀ mv : Nat, mv < 48000 → ∃ u, exec (.millpondVoltageChange t mv) s = .next u ∧ u.book.pond = .charging ∧
        u.book.powerFailed = true ∧ u.sluice.safe = true) ∧
    (s.book.pond = .absent → s.inReset = false →
      ∃ u, exec (.millpondFitted t) s = .next u ∧ u = { r with counters := u.counters, book := u.book } ∧
        u.book.pond = .charging ∧ u.book.wthru = true ∧ u.book.charger = true ∧ u.book.accepting = true ∧ u.book.wasAbsent = true) ∧
    (s.book.pond = .charging → s.book.accepting = true →
      ∃ u, exec (.millpondCharged t) s = .next u ∧ u = { r with counters := u.counters, book := u.book } ∧
        u.book.pond = .testing ∧ u.book.wthru = true ∧ u.book.charger = false ∧ u.book.testEnd = some (r.ns + ms 200)) ∧
    (s.book.pond = .available → s.book.testEnd = none → s.book.testAt + ms (3600000 * s.cfg.recorder.testHours) ≤ r.ns →
      exec (.millpondPeriodicTest t) s = .next { r with book := { s.book with
        charger := false, testEnd := some (r.ns + ms 200), testBy := none, ptest := true } }) ∧
    (∀ uf mohm a, s.book.testEnd = some a → a ≤ r.ns → s.book.pond ≠ .charging →
      (s.book.pond ≠ .available ∨ s.book.lvLowAt = none) →
      ∃ u, exec (.millpondTestComplete t uf mohm) s = .next u ∧
        u = { r with counters := u.counters, book := u.book, maint := { s.maint with outcomes := u.maint.outcomes } } ∧
        u.book.pondTest = some (uf, mohm) ∧ u.book.testEnd = none ∧ u.book.charger = true ∧
        (s.cfg.recorder.minUf ≤ uf → mohm ≤ 500 → u.book.pond = .available ∧ u.book.wthru = false ∧
          (s.book.pond = .testing → s.book.wasAbsent = true → u.book.acceptedS = some r.calS ∧ u.book.due = false ∧ u.book.dueAt = none)) ∧
        (uf < s.cfg.recorder.minUf ∨ 500 < mohm → u.book.pond = .failed ∧ u.book.wthru = true ∧ u.book.mpfail = true ∧
          u.book.acceptedS = s.book.acceptedS)) ∧
    (∀ mv : Nat, (s.book.lvLowAt = none ∨ s.book.pond ≠ .available ∨ 48000 ≤ mv) → ∃ u, exec (.millpondVoltageChange t mv) s = .next u ∧ u = { r with counters := u.counters, book := u.book } ∧
      u.book.storeMv = mv ∧
      (s.book.pond = .available → u.book.pond = (if mv < 48000 then .charging else .available)) ∧
      (s.book.pond = .available → mv < 48000 → u.book.wthru = true) ∧
      (s.book.pond = .charging → s.book.accepting = false →
        u.book.pond = (if 49500 ≤ mv then .available else .charging)) ∧
      (s.book.pond = .charging → s.book.accepting = false → 49500 ≤ mv → u.book.wthru = false)) ∧
    (∀ date, s.book.acceptedS = some date → date + tenYears ≤ r.calS → (∀ a, s.book.dueAt = some a → a ≤ r.ns) →
      ∃ u, exec (.millpondReplacementDue t) s = .next u ∧ u = { r with counters := u.counters, book := u.book } ∧
        u.book.due = true ∧ u.book.dueAt = some (r.ns + ms 86400000))

/-- R346, R347, R194, R348: where LV has been below 60 V for the limit of the store's state, out of reset, power-fail is declared: Sluice
takes the safe state, intake is emptied into the store, and the power-fail record, one interrupted cycle record (outcome 0x05) for each
cycle in progress, the counters and the checkpoint are written. A dip that recovers first is only counted. The hold ends in reset, with
the store's contents kept, but for a record whose write-through is cut off. -/
def Obligations.PowerFailure : Prop :=
  ∀ (s : State) (t : Nat), let r := s.at t
    (∀ us, s.book.powerFailed = false → s.inReset = false → s.lvLimit ≤ us → s.nv.cycles.length + s.book.intake.length + 16 ≤ 6160384 →
      s.nv.events.length + s.book.intake.length + 1 ≤ 1048576 → s.nv.traces.length + s.book.intake.length ≤ 7168 →
      ∃ u, exec (.powerFailDeclared { at_ := t, us := us }) s = .next u ∧ u.book.powerFailed = true ∧ u.nv.powerFailed = true ∧
        u.sluice.safe = true ∧ u.book.intake = [] ∧ u.nv.checkpoint = s.nv.checkpoint.put u.checkpointNow ∧
        u.nv.counters = s.nv.counters.put u.counters ∧
        u.nv.traces = s.nv.traces ++ s.book.intake.filter (fun x => x.body.part == 2) ∧
        u.counter 0x85 31 = (s.counter 0x85 31).inc ∧
        (∃ x, x.event = 0x3D0 ∧ x.seq = s.book.nextSeq ∧ x.doorway = 0 ∧
          u.nv.events = s.nv.events ++ s.book.intake.filter (fun x => x.body.part == 1) ++ [x]) ∧
        (∀ d : Door, s.cyc[d.1].rec?.isSome = true →
          ∃ x ∈ u.nv.cycles, x.doorway = d.1 + 1 ∧ ∃ c, x.body = .cycle c ∧ c.outcome = 5) ∧
        u.enc = s.enc ∧ u.cyc = s.cyc ∧ u.cfg = s.cfg ∧ u.nv.plug = s.nv.plug) ∧
    (∀ us, us < s.lvLimit ∨ s.inReset = true →
      exec (.powerFailDeclared { at_ := t, us := us }) s = .next { r with book := { s.book with lvLowAt := some (r.ns - 1000 * us) } }) ∧
    (∀ us, s.lvLimit ≤ us ∨ s.inReset = true →
      exec (.lvDipRiddenThrough t us) s = .next { r with book := { s.book with lvLowAt := none } }) ∧
    (s.book.powerFailed = false → s.inReset = false → ∀ us : Nat, us < s.lvLimit →
      ∃ u, exec (.lvDipRiddenThrough t us) s = .next u ∧ u = { r with counters := u.counters, book := u.book } ∧
        u.counter 0x85 32 = (s.counter 0x85 32).inc ∧ u.book.powerFailed = false ∧ u.book.lvLowAt = none) ∧
    (s.book.powerFailed = true → ∀ c : HoldEnd,
      ∃ u, exec (.powerFailHoldEnd t c) s = .next u ∧ u.restarted ∧ u.nv = r.kept ∧ u.ns = 0 ∧ u.maint.configured = false ∧
        (c = .storeEmpty → ∀ d : Door, u.drv[d.1].brake = none))

/-- R361, R367, R368, R339: a scan of the store, 365 days after the last, rewrites the aged records in place and renews every area, whose
contents stay. A refresh copies the next sector of the region in work to the scratch sector 10 s after the last, and enters it in the journal;
programming it ends the entry, and every byte outside the refresh sectors reads as before. A removed plug is only noted; a refitted one is
written again only where its vehicle and key hashes are those of the start. -/
def Obligations.RetentionAndPlug : Prop :=
  ∀ (s : State) (t : Nat), let r := s.at t
    (s.book.flushing = none → s.book.powerFailed = false → s.inReset = false → s.nv.scanS + yearS ≤ r.calS →
      ∃ u, exec (.millbookRefreshScan t) s = .next u ∧ u = { r with nv := u.nv } ∧ u.nv.scanS = r.calS ∧ u.nv.plug = s.nv.plug ∧
        u.nv.cycles = s.nv.cycles.map r.rewrite ∧ u.nv.events = s.nv.events.map r.rewrite ∧ u.nv.traces = s.nv.traces.map r.rewrite ∧
        u.nv.checkpoint.value = s.nv.checkpoint.value ∧ u.nv.counters.value = s.nv.counters.value ∧
        ∀ d : Door, u.nv.cal[d.1].value = s.nv.cal[d.1].value ∧ u.nv.bias[d.1].value = s.nv.bias[d.1].value) ∧
    (∀ q : Fin 4, let off := regionAt q + s.maint.refresh.sector * 0x10000
      s.plugOk → s.maint.refresh.region = some q → s.maint.refresh.redo = false → s.maint.refresh.opened = none → s.millerRuns = true →
      s.plugWritable = true → (q = 0 → s.slotWriting false = false) → (q = 1 → s.slotWriting true = false) →
      s.maint.refresh.last + ms 10000 ≤ r.ns → s.maint.refresh.sector < regionSectors q →
      ∃ u, exec (.refreshSector t) s = .next u ∧
        u = { r with nv := { s.nv with plug := u.nv.plug }, maint := { s.maint with
          refresh := { region := some q, sector := s.maint.refresh.sector + 1, last := r.ns, redo := false, opened := some off } } } ∧
        u.journal = some off ∧ (∀ i, i < 0x10000 → Memory.read u.nv.plug (scratchAt + i) = Memory.read s.nv.plug (off + i)) ∧
        ∀ a, ¬ (0x1D00000 ≤ a ∧ a < 0x1D20000) → Memory.read u.nv.plug a = Memory.read s.nv.plug a) ∧
    (∀ off, s.plugOk → s.maint.refresh.opened = some off → s.journal = some off → off + 0x10000 ≤ scratchAt → s.plugWritable = true →
      let u := s.programSector
      u.maint.refresh.opened = none ∧ u.counter 0x80 21 = (s.counter 0x80 21).inc ∧ u.journal = none ∧
      (∀ i, i < 0x10000 → Memory.read u.nv.plug (off + i) = Memory.read s.nv.plug (scratchAt + i)) ∧
      ∀ a, ¬ (off ≤ a ∧ a < off + 0x10000) → ¬ (journalAt ≤ a ∧ a < journalAt + 0x10000) →
        Memory.read u.nv.plug a = Memory.read s.nv.plug a) ∧
    (s.maint.plugPresent = true →
      ∃ u, exec (.plugRemoved t) s = .next u ∧ u = { r with counters := u.counters, book := u.book, maint := { s.maint with
        plugPresent := false, refresh := { s.maint.refresh with opened := none } } }) ∧
    (∀ content, s.maint.plugPresent = false →
      ∃ u, exec (.plugRefitted t content) s = .next u ∧
        u = { r with nv := { s.nv with plug := u.nv.plug }, counters := u.counters, book := u.book, maint := { s.maint with
          plugPresent := true, plugDiffers := u.maint.plugDiffers } } ∧ u.plugOk ∧
        u.maint.plugDiffers = (s.maint.plugDiffers || !(match u.inForce with
          | some k => (decodeIdentity (u.copyBytes k)).vehicleId == s.maint.atStart.vehicleId &&
              (decodeIdentity (u.copyBytes k)).keyHash == s.maint.atStart.keyHash
          | none => s.maint.blank)))

/-- A Tally request is taken (R353, R371): start-up has come to step 3, the configuration is accepted, its session is open and its
counter is above the session's last. -/
def Claim.Taken (s : State) (m : Msg) (x : Session) : Prop :=
  3 ≤ s.maint.step ∧ s.maint.failed = false ∧ s.maint.blank = false ∧ s.maint.configured = true ∧
  s.session m.session = some x ∧ x.counter < m.counter

/-- The state in which a taken request of a command code is decided: its counter and the moment are noted in the session, and what is answered
bears that code (R370, R372). -/
def Claim.heard (s : State) (t : Nat) (m : Msg) (x : Session) (code : Nat) : State :=
  ((s.at t).setSession { x with counter := m.counter, last := (s.at t).ns }).hear code

/-- R369, R371: at most four sessions are open, on a blank identity area in depot mode only, with a key from the vehicle's key and both
nonces, each of 16 bytes. A session that closes, is silent for
30 s or fails its fifth tag within 10 s is gone with its tokens; a failure before is counted and remembered. -/
def Claim.Sessions : Prop :=
  ∀ (s : State) (t : Nat), let r := s.at t
    (∀ nonce : List Byte, 3 ≤ s.maint.step → s.maint.failed = false → (s.maint.blank = false ∨ s.depot = true) →
      (nonce.length ≠ 16 → exec (.openSession t nonce) s = .next (r.answer 0x01 ⟨0, 0⟩ 0x01)) ∧
      (nonce.length = 16 → s.maint.sessions.length < 4 →
        ∃ u, exec (.openSession t nonce) s = .next u ∧
          u = { r with free := s.free + 1, counters := u.counters, book := u.book, maint := { s.maint with
            sessions := u.maint.sessions, reply := u.maint.reply, reason := 0 } } ∧
          u.maint.sessions = s.maint.sessions ++ [{
            id := Config.sessionId s.free, last := r.ns, stagedAt := 0
            key := Config.hmacSha256 s.maint.identity.tallyKey
              (nonce ++ Config.nonce s.free ++ toLe 4 (Config.sessionId s.free).toNat) }] ∧
          ∃ y, u.maint.reply = some y ∧ y.command = 0x01 ∧ y.reason = 0 ∧ y.session = Config.sessionId s.free ∧
            y.payload = Config.nonce s.free ++ toLe 4 (Config.sessionId s.free).toNat) ∧
      (nonce.length = 16 → 4 ≤ s.maint.sessions.length → exec (.openSession t nonce) s = .next (r.answer 0x01 ⟨0, 0⟩ 0x07))) ∧
    (∀ c id, (c = .sessionTimeout t id ∧ s.maint.failed = false ∧ (∃ x, s.session id = some x ∧ x.last + ms 30000 ≤ r.ns) ∨
        (∃ k x, c = .closeSession t ⟨id, k⟩ ∧ Claim.Taken s ⟨id, k⟩ x) ∨
        c = .tagFailure t id ∧ 3 ≤ s.maint.step ∧ s.maint.failed = false ∧ (∃ x, s.session id = some x ∧
          4 ≤ (x.tagFails.filter fun k => decide (r.ns ≤ k + ms 10000)).length)) →
      ∃ u, exec c s = .next u ∧ u.session id = none ∧
        u.maint.moduleTok = (if s.maint.moduleTok = some id then none else s.maint.moduleTok) ∧
        (∀ d : Door, u.maint.doorTok[d.1] = (if s.maint.doorTok[d.1] = some id then none else s.maint.doorTok[d.1])) ∧
        (∀ y ∈ s.maint.sessions, y.id ≠ id → y ∈ u.maint.sessions) ∧
        u.nv = s.nv ∧ u.cfg = s.cfg ∧ u.pair = s.pair ∧ u.drv = s.drv ∧ u.bus = s.bus) ∧
    (∀ id x, s.session id = some x → 3 ≤ s.maint.step → s.maint.failed = false →
      (x.tagFails.filter fun k => decide (r.ns ≤ k + ms 10000)).length < 4 →
      ∃ u, exec (.tagFailure t id) s = .next u ∧
        u = { r with counters := u.counters, maint := { s.maint with sessions := u.maint.sessions } } ∧
        u.session id = some { x with tagFails := r.ns :: x.tagFails.filter fun k => decide (r.ns ≤ k + ms 10000) })

/-- R369, R184: a free token goes to the session that asks; one another session holds is refused 0x05 and stays. A release frees the
session's own token. A doorway in SERVICE left without a token is proven where it is closed and locked, else held at 0 N. -/
def Claim.MaintenanceTokens : Prop :=
  ∀ (s : State) (t : Nat) (m : Msg) (x : Session) (d : Door), let r := Claim.heard s t m x 0x03
    Claim.Taken s m x →
    (exec (.tokenTake t m .module) s = .next (match s.maint.moduleTok with
      | none => { r with maint := { r.maint with moduleTok := some m.session } }.reply m 0
      | some id => r.reply m (if id = m.session then 0 else 5))) ∧
    (s.fitted d = true → exec (.tokenTake t m (.door d)) s = .next (match s.maint.doorTok[d.1] with
      | none => { r with maint := { r.maint with doorTok := r.maint.doorTok.set d.1 (some m.session) } }.reply m 0
      | some id => r.reply m (if id = m.session then 0 else 5))) ∧
    (s.fitted d = false → exec (.tokenTake t m (.door d)) s = .next (r.reply m 2)) ∧
    (s.maint.moduleTok = some m.session →
      ∃ u, exec (.tokenRelease t m .module) s = .next u ∧ u = { r with maint := u.maint } ∧ u.maint.moduleTok = none ∧
        u.maint.doorTok = s.maint.doorTok ∧ u.maint.reason = 0) ∧
    (s.maint.doorTok[d.1] = some m.session → s.cyc[d.1].state ≠ .service →
      ∃ u, exec (.tokenRelease t m (.door d)) s = .next u ∧ u = { r with capture := u.capture, maint := u.maint } ∧
        u.maint.doorTok[d.1] = none ∧ u.maint.moduleTok = s.maint.moduleTok ∧ u.maint.reason = 0) ∧
    (s.maint.doorTok[d.1] ≠ some m.session → exec (.tokenRelease t m (.door d)) s = .next (r.reply m 5))

/-- R184: a doorway in SERVICE without a token enters PROVING where it is closed and locked; else it is held at 0 N in SERVICE. -/
def Claim.ServiceTokenLost : Prop :=
  ∀ (s : State) (t : Nat) (d : Door), let r := s.at t
    s.maint.doorTok[d.1] = none → s.maint.failed = false → s.cyc[d.1].state = .service → s.cyc[d.1].restarting = false → s.tentering d = false →
    ∃ u, exec (.serviceTokenLost t d) s = .next u ∧ u = { r with gov := u.gov, slot := u.slot, cyc := u.cyc } ∧
      (∀ e : Door, e ≠ d → u.cyc[e.1] = s.cyc[e.1]) ∧ (∀ c : Ch, c ≠ d.ch → u.slot[c.1] = s.slot[c.1]) ∧
      (s.closedRead d = true → s.lockRead d = true → u.cyc[d.1].state = .proving ∧ u.cyc[d.1].attempts = 1) ∧
      (s.closedRead d = false ∨ s.lockRead d = false → u.cyc[d.1].state = .service ∧ u.slot[d.ch.1].req = some (.hold, 0))

/-- Tally sessions and maintenance tokens, and SERVICE without a token. -/
def Obligations.SessionsAndTokens : Prop := Claim.Sessions ∧ Claim.MaintenanceTokens ∧ Claim.ServiceTokenLost

/-- R18, R378, R380: two words read at a counter are one value, even address low; a status word is read as it stands; an address that
names nothing reads 0 with code 0x02; a count of 0 or above 256 is refused 0x01. The stroke of a channel, which R29 has read over Tally, stands
in area 0x04 (the model's choice, log 52). Nothing but the session's snapshots changes. -/
def Claim.ReadWords : Prop :=
  ∀ (s : State) (t : Nat) (m : Msg) (x : Session) (addr : BitVec 32), let r := Claim.heard s t m x 0x10
    Claim.Taken s m x →
    (∀ n, n = 0 ∨ 256 < n → exec (.readWords t m addr n) s = .next (r.reply m 1)) ∧
    (∀ inst k, counterAt addr = some (inst, k) → addr.getLsbD 0 = false →
      ∃ u, exec (.readWords t m addr 2) s = .next u ∧ u = { r with maint := { r.maint with
          sessions := u.maint.sessions, reply := u.maint.reply, reason := 0 } } ∧
        u.maint.reply = (r.reply m 0 (toLe 4 ((s.counter64 inst k).extractLsb' 0 32).toNat ++
          toLe 4 ((s.counter64 inst k).extractLsb' 32 32).toNat)).maint.reply) ∧
    (∀ w, addr.toNat / 2 ^ 24 = 1 → r.statusWord (addr.toNat / 2 ^ 16 % 256) (addr.toNat % 2 ^ 16) = some w →
      ∃ u, exec (.readWords t m addr 1) s = .next u ∧ u = { r with maint := { r.maint with
          sessions := u.maint.sessions, reply := u.maint.reply, reason := 0 } } ∧
        u.maint.reply = (r.reply m 0 (toLe 4 w.toNat)).maint.reply) ∧
    (∀ c : Ch, s.chFitted c = true → addr.toNat = 0x04000000 + (c.1 + 1) * 2 ^ 16 →
      ∃ u, exec (.readWords t m addr 1) s = .next u ∧ u = { r with maint := { r.maint with
          sessions := u.maint.sessions, reply := u.maint.reply, reason := 0 } } ∧
        u.maint.reply = (r.reply m 0 (toLe 4 s.enc[c.1].strokeWord.toNat)).maint.reply) ∧
    (addr.toNat / 2 ^ 24 ≠ 1 → addr.toNat / 2 ^ 24 ≠ 4 → counterAt addr = none →
      ∃ u, exec (.readWords t m addr 1) s = .next u ∧ u.maint.reply = (r.reply m 2 [0, 0, 0, 0]).maint.reply)

/-- R117, R247, R279, R342, R360, R370, R372, R373: the other reads. Records come in order from the store and from intake, each after its error
flag, as many whole ones as the limit and 1,424 bytes hold (of one that no payload holds, its first bytes: the model's choice, log 48), and an
uncorrectable read of the store sets ECCERR; stamps are removed as they are read; a receive object is read once, with NEW cleared, and one that
cannot be read is an empty answer; the last outcome of each kind of long operation is answered (its format is the model's choice, log 48); the
slot's and the identity copy's bytes are as stored, but the Tally key reads as zeros; a read beyond its area or of a wrong length is refused
0x01, without a plug 0x6D. -/
def Claim.OtherReads : Prop :=
  ∀ (s : State) (t : Nat) (m : Msg) (x : Session), Claim.Taken s m x →
    (∀ p first limit ecc, let r := Claim.heard s t m x 0x12
      ∃ u, exec (.readRecords t m ⟨p, ecc⟩ first limit) s = .next u ∧
      u = { r with free := u.free, counters := u.counters, book := u.book
                   maint := { r.maint with reply := u.maint.reply, reason := 0 } } ∧
      (r.recordsFrom (Partition.number p) first ecc = [] → u.maint.reply = (r.reply m 0 []).maint.reply) ∧
      ∀ a l, r.recordsFrom (Partition.number p) first ecc = a :: l →
        (a.returned.length ≤ min limit 1424 →
          (∃ rest, u.maint.reply = (r.reply m 0 (a.returned ++ rest)).maint.reply) ∧
          (a.seq ∈ ecc → (∃ q ∈ s.nv.part (Partition.number p), q.seq = a.seq) → u.book.eccErr = true)) ∧
        (min limit 1424 < a.returned.length → u.maint.reply = (r.reply m 0 (a.returned.take (min limit 1424))).maint.reply)) ∧
    (∀ n, let r := Claim.heard s t m x 0x13
      (n = 0 ∨ 64 < n → exec (.readStamps t m n) s = .next (r.reply m 1)) ∧
      (0 < n → n ≤ 64 → exec (.readStamps t m n) s = .next ({ r with io := { r.io with stamps := s.io.stamps.drop n } }.reply m 0
        ((s.io.stamps.take n).flatMap Stamp.bytes)))) ∧
    (∀ (b : BusId) (k : Fin 128) (h : HopRead), let r := Claim.heard s t m x 0x14
      (12 ≤ k.1 → exec (.readHopper t m b ⟨k, h⟩) s = .next (r.reply m 2)) ∧
      (k.1 < 12 → s.bus[b.1].hopper[k.1].new = false → exec (.readHopper t m b ⟨k, h⟩) s = .next (r.reply m 0)) ∧
      (∀ o, k.1 < 12 → s.bus[b.1].hopper[k.1] = o → o.new = true → h.whole → ∃ u, exec (.readHopper t m b ⟨k, h⟩) s = .next u ∧
        u = { (r.modBus b fun y => { y with hopper := y.hopper.set k.1 { o with new := false } }).reply m 0
                (HObj.bytes { o with new := false }) with counters := u.counters }) ∧
      (k.1 < 12 → s.bus[b.1].hopper[k.1].new = true → ¬ h.whole → ∃ u, exec (.readHopper t m b ⟨k, h⟩) s = .next u ∧
        u = { r.reply m 0 with counters := u.counters, bus := u.bus, book := u.book } ∧
        (h.ecc = .uncorrectable → u.bus[b.1].ecc = true ∧ u.counter (0x81 + b.1) 11 = (s.counter (0x81 + b.1) 11).inc) ∧
        (h.ecc ≠ .uncorrectable → u.bus = s.bus ∧ u.counter (0x81 + b.1) 7 = (s.counter (0x81 + b.1) 7).inc))) ∧
    (∀ first n, let r := Claim.heard s t m x 0x15
      (n = 0 ∨ 128 < n → exec (.readCapture t m first n) s = .next (r.reply m 1)) ∧
      (0 < n → n ≤ 128 → exec (.readCapture t m first n) s = .next (r.reply m 0
        (((s.capture.samples.reverse.drop first).take n).flatMap fun (e : Vector (BitVec 16) 4) =>
          e.toList.flatMap fun w => toLe 2 w.toNat)))) ∧
    (let r := Claim.heard s t m x 0x16
     exec (.maintStatus t m) s = .next (r.reply m 0 (s.maint.outcomes.flatMap fun (p : MaintKind × Nat) =>
      toLe 1 p.1.code ++ toLe 1 (p.2 % 256) ++ toLe 2 (min 65535 (p.2 / 256))))) ∧
    (∀ (slotB : Bool) (off len : Nat), let r := Claim.heard s t m x 0x41
      exec (.slotRead t m slotB off len) s = .next (if len = 0 ∨ 1024 < len ∨ 0xC00000 < off + len then r.reply m 1
        else if s.maint.plugPresent = false then r.reply m 0x6D
        else r.reply m 0 (Memory.bytes s.nv.plug ((if slotB then 0xC00000 else 0) + off) len))) ∧
    (∀ (copy : Fin 2) (off len : Nat), let r := Claim.heard s t m x 0x48
      (len = 0 ∨ 1024 < len ∨ 4096 < off + len → exec (.identityRead t m copy off len) s = .next (r.reply m 1)) ∧
      (0 < len → len ≤ 1024 → off + len ≤ 4096 → s.maint.plugPresent = false →
        exec (.identityRead t m copy off len) s = .next (r.reply m 0x6D)) ∧
      (0 < len → len ≤ 1024 → off + len ≤ 4096 → s.maint.plugPresent = true → ∃ u l, exec (.identityRead t m copy off len) s = .next u ∧
        u = r.reply m 0 l ∧ l.length = len ∧ ∀ k, (h : k < l.length) → l[k] =
          (if 0x1C ≤ off + k ∧ off + k < 0x3C then 0 else Memory.read s.nv.plug ((if copy = 0 then 0x1C00000 else 0x1C10000) + off + k))))

/-- What the read commands of Tally answer and change. -/
def Obligations.TallyReads : Prop := Claim.ReadWords ∧ Claim.OtherReads

/-- R50, R251, R256: every clear is answered 0x00 or 0x02 and moves no doorway; an empty mask clears nothing; the door cycle word of a
doorway that is not fitted, and the I/O word of one that the variant does not have, answer 0x02. A clear of an I/O word releases exactly
the latched switches (with their tries) and the DO faults of that doorway that its mask names, and touches no other switch or output. A
full mask over the pair word clears its six sticky bits. -/
def Obligations.ClearStatus : Prop :=
  ∀ (s : State) (t : Nat) (m : Msg) (x : Session) (w : StatusWord) (mask : BitVec 32) (d : Door), let r := Claim.heard s t m x 0x11
    Claim.Taken s m x →
    (∃ u, exec (.clearStatus t m w mask) s = .next u ∧ (u.maint.reason = 0 ∨ u.maint.reason = 2) ∧ u.nv = s.nv ∧ u.cfg = s.cfg ∧
      (∀ e : Door, u.cyc[e.1].state = s.cyc[e.1].state)) ∧
    ((s.clearWord w 0).isSome = true → exec (.clearStatus t m w 0) s = .next (r.reply m 0)) ∧
    (s.fitted d = false → exec (.clearStatus t m (.doorCycle d) mask) s = .next (r.reply m 2)) ∧
    (s.half 16 d.1 = false → exec (.clearStatus t m (.doorIo d) mask) s = .next (r.reply m 2)) ∧
    (s.half 16 d.1 = true →
      ∃ u, exec (.clearStatus t m (.doorIo d) mask) s = .next u ∧ u = { r with io := u.io, maint := u.maint } ∧ u.maint.reason = 0 ∧
        (∀ k : Fin 3, s.io.ls[(d.ls k).1].latched = true →
          u.io.ls[(d.ls k).1].latched = !mask.getLsbD (24 + k.1) ∧
          (mask.getLsbD (24 + k.1) = true → u.io.ls[(d.ls k).1].tries = 0)) ∧
        (∀ k : Fin 2, s.io.dout[(d.out k).1].fault = true → u.io.dout[(d.out k).1].fault = !mask.getLsbD (18 + k.1)) ∧
        (∀ n : Ls, (∀ k : Fin 3, n ≠ d.ls k) → u.io.ls[n.1] = s.io.ls[n.1]) ∧
        (∀ n : Dout, (∀ k : Fin 2, n ≠ d.out k) → u.io.dout[n.1] = s.io.dout[n.1])) ∧
    (exec (.clearStatus t m .pair 0xFFFFFFFF) s = .next ({ r with pair := { s.pair with
      crcErr := false, cold := false, tkovr := false, mismatch := false, arbFlt := false, iso := false } }.reply m 0))

/-- What a request that moves a leaf needs (R369): it is taken, its session holds the doorway's token, and the module drives it. -/
def Claim.MayMove (s : State) (m : Msg) (x : Session) (d : Door) : Prop :=
  Claim.Taken s m x ∧ s.fitted d = true ∧ s.maint.doorTok[d.1] = some m.session ∧ s.pair.token = true ∧
  s.cyc[d.1].restarting = false ∧ s.tentering d = false

/-- R184, R164: SERVICE is entered at zero speed from CLOSED_LOCKED, RELEASED or UNREFERENCED, with Hold; it is refused 0x30, and
counted, anywhere else. The model's choice (log 19): a request to leave SERVICE waits for the tick's start decisions, and is answered there. It
is refused 0x60 elsewhere and 0x31 of a leaf that does not read closed; else SERVICE is left by a planned closing travel, held until its
start, and refused 0x04 where the Governor grants none. -/
def Claim.ServiceEnterLeave : Prop :=
  ∀ (s : State) (t : Nat) (m : Msg) (x : Session) (d : Door), let r := Claim.heard s t m x 0x20
    let entry : Prop := s.cyc[d.1].state = .closedLocked ∨ s.cyc[d.1].state = .released ∨ s.cyc[d.1].state = .unreferenced
    let leave : DoorCmd := { door := d, kind := .leave, src := .tally, msg := some m }
    (Claim.MayMove s m x d →
      (entry → s.zeroSpeed = true →
        ∃ u, exec (.serviceEnter t m d) s = .next u ∧
          u = { r with enc := u.enc, gov := u.gov, slot := u.slot, cyc := u.cyc, maint := u.maint } ∧
          u.cyc[d.1].state = .service ∧ u.slot[d.ch.1].req = some (.hold, 0) ∧ u.maint.reason = 0 ∧
          (∀ e : Door, e ≠ d → u.cyc[e.1] = s.cyc[e.1])) ∧
      (¬ entry ∨ s.zeroSpeed = false →
        exec (.serviceEnter t m d) s = .next ((r.bump (0x61 + d.1) 28).reply m 0x30)) ∧
      exec (.serviceLeave t m d) s = .next { r with waiting := s.waiting ++ [leave] }) ∧
    (s.fitted d = true → s.pair.token = true → s.sluice.safe = false →
      (s.cyc[d.1].state ≠ .service → s.decideCmd leave = s.answer 0x20 m 0x60) ∧
      (s.cyc[d.1].state = .service → s.closedRead d = false → s.decideCmd leave = (s.bump (0x61 + d.1) 29).answer 0x20 m 0x31) ∧
      (s.cyc[d.1].state = .service → s.closedRead d = true → s.plan d.ch false = none → s.decideCmd leave = s.answer 0x20 m 0x04) ∧
      (∀ p g, s.cyc[d.1].state = .service → s.closedRead d = true → s.plan d.ch false = some (p, g) → let u := s.decideCmd leave
        u = { s with enc := u.enc, drv := u.drv, gov := p.gov, counters := p.counters, slot := u.slot, cyc := u.cyc, maint := u.maint } ∧
        u.cyc[d.1].state = .service ∧ u.cyc[d.1].svc = .leaving ∧ u.maint.reason = 0 ∧
        (g.start ≤ s.tick + 1 → u.slot[d.ch.1].req = some (.travelClose, 0)) ∧
        (s.tick + 1 < g.start → u.cyc[d.1].startTick = some g.start ∧ u.slot[d.ch.1].req = some (.hold, 0)) ∧
        (∀ e : Door, e ≠ d → u.cyc[e.1] = s.cyc[e.1])))

/-- R184, R187, R176, R38, R73: in SERVICE a step jogs, and a door jogs, after Align where it has no angle, unless it would open from
closed and locked, where it is unlocked first; every door jog ends PROVEN. Above the jog speed it is refused 0x32, and an outward jog of
an unreferenced step 0x60 (the model's choice, log 26). The solenoid pulls unless a bridge has tripped or its engine is stopped. A
back-drive test of a closed and locked leaf pulls at the back-drive force; it is refused 0x33 of any other. -/
def Claim.JogAndBackdrive : Prop :=
  ∀ (s : State) (t : Nat) (m : Msg) (x : Session) (d : Door), Claim.MayMove s m x d →
    (∀ v : Int, let r := Claim.heard s t m x 0x21
      s.cyc[d.1].state = .service →
      (s.stepFitted d = true → v.natAbs ≤ s.cfg.step[d.1].ctl.jogSpeed → (s.enc[d.step.1].ref = true ∨ v ≤ 0) →
        ∃ u, exec (.jog t m d.step v) s = .next u ∧ u = { r with slot := u.slot, maint := u.maint } ∧
          u.slot[d.step.1].req = some (.jog, v) ∧ u.maint.reason = 0 ∧
          (∀ c : Ch, c ≠ d.step → u.slot[c.1] = s.slot[c.1])) ∧
      (s.stepFitted d = true → v.natAbs ≤ s.cfg.step[d.1].ctl.jogSpeed → s.enc[d.step.1].ref = false → 0 < v →
        exec (.jog t m d.step v) s = .next (r.reply m 0x60)) ∧
      (v.natAbs ≤ s.cfg.door[d.1].ctl.jogSpeed → s.hasAngle d = true →
        ∃ u, exec (.jog t m d.ch v) s = .next u ∧ u = { r with gov := u.gov, slot := u.slot, cyc := u.cyc, io := u.io, maint := u.maint } ∧
          u.cyc[d.1].state = .service ∧ u.maint.reason = 0 ∧ u.cyc[d.1].proven = false ∧
          (0 < v → s.closedRead d = true → s.lockRead d = true → u.cyc[d.1].svc = .unlock v ∧
            (s.tripped d = false → s.engineRuns d 4 = true → u.cyc[d.1].sol = .pull r.ns) ∧
            (s.tripped d = true ∨ s.engineRuns d 4 = false → u.cyc[d.1].sol = .off)) ∧
          (¬ (0 < v ∧ s.closedRead d = true ∧ s.lockRead d = true) → u.slot[d.ch.1].req = some (.jog, v)) ∧
          (∀ e : Door, e ≠ d → u.cyc[e.1] = s.cyc[e.1])) ∧
      (v.natAbs ≤ s.cfg.door[d.1].ctl.jogSpeed → s.hasAngle d = false → ¬ (0 < v ∧ s.closedRead d = true ∧ s.lockRead d = true) →
        ∃ u, exec (.jog t m d.ch v) s = .next u ∧ u = { r with gov := u.gov, slot := u.slot, cyc := u.cyc, maint := u.maint } ∧
          u.cyc[d.1].svc = .align v ∧ u.cyc[d.1].proven = false ∧ u.slot[d.ch.1].req = some (.align, 0) ∧ u.maint.reason = 0) ∧
      (s.cfg.door[d.1].ctl.jogSpeed < v.natAbs →
        exec (.jog t m d.ch v) s = .next ((r.bump (0x61 + d.1) 30).reply m 0x32))) ∧
    (let r := Claim.heard s t m x 0x22
     (s.cyc[d.1].state = .service → s.closedRead d = true → s.lockRead d = true → s.cyc[d.1].backing = false →
      s.cyc[d.1].backTest = none → s.hasAngle d = true →
      ∃ u, exec (.backdriveTest t m d) s = .next u ∧ u = { r with slot := u.slot, cyc := u.cyc, maint := u.maint } ∧
        u.slot[d.ch.1].req = some (.backDrive, (s.cfg.door[d.1].cyc.backdriveN : Int)) ∧ u.cyc[d.1].backTest = some m ∧
        u.cyc[d.1].proven = s.cyc[d.1].proven ∧ (s.cyc[d.1].proven = true → u.cyc[d.1].prfB = s.cyc[d.1].prfB) ∧
        u.maint.reason = 0) ∧
     (s.cyc[d.1].state ≠ .service ∨ s.closedRead d = false ∨ s.lockRead d = false →
      exec (.backdriveTest t m d) s = .next ((r.bump (0x61 + d.1) 31).reply m 0x33)))

/-- SERVICE, jogs and the back-drive test. -/
def Obligations.ServiceMoves : Prop := Claim.ServiceEnterLeave ∧ Claim.JogAndBackdrive

/-- R141, R144, R145: a Tentering run starts with the unlocking of a referenced doorway that passes every condition, else it is refused
with the code of the first that fails. It can be stopped with outcome 0x01. A run that learnt a table commits it, with
the time of the commit, into Millbook, to be taken up later; any other end is counted by outcome. -/
def Obligations.TenteringRun : Prop :=
  ∀ (s : State) (t : Nat), let r := s.at t
    (∀ (m : Msg) (x : Session) (d : Door), let q := Claim.heard s t m x 0x30
      Claim.Taken s m x → s.fitted d = true →
      s.maint.doorTok[d.1] = some m.session →
      (s.tenterRefusal d = 0 →
        ∃ u, exec (.tenterStart t m d) s = .next u ∧ u.maint.tenter = some { door := d, session := m.session } ∧
          u.cyc[d.1].proven = false ∧ u.cyc[d.1].state = .service ∧ u.cyc[d.1].prfB = 0 ∧ u.maint.reason = 0 ∧
          (s.engineRuns d 4 = true → u.cyc[d.1].sol = .pull q.ns) ∧
          u.nv = s.nv ∧ u.cfg = s.cfg ∧ u.pair = s.pair ∧ (∀ e : Door, e ≠ d → u.cyc[e.1] = s.cyc[e.1])) ∧
      (s.tenterRefusal d ≠ 0 → exec (.tenterStart t m d) s = .next (q.reply m (s.tenterRefusal d))) ∧
      (s.cyc[d.1].state ≠ .service → s.tenterRefusal d = 0x60) ∧
      (∀ y, s.maint.tenter = some y → y.door = d → y.outcome = none →
        ∃ u, exec (.tenterStop t m d) s = .next u ∧ (∃ z, u.maint.tenter = some z ∧ z.door = d ∧ z.outcome = some 1 ∧
          z.learned = none) ∧ u.maint.reason = 0 ∧ u.nv = s.nv ∧ u.cfg = s.cfg)) ∧
    (∀ (y : Tenter) (k : Nat), s.maint.tenter = some y → y.step = .done → s.maint.failed = false → y.outcome = some k → k ≤ 11 →
      ∃ u, exec (.tenterRunEnd t) s = .next u ∧ u.maint.tenter = none ∧ u.cfg = s.cfg ∧ u.cyc = s.cyc ∧ u.slot = s.slot ∧
        (k ≠ 0 → u.nv = s.nv ∧ u.obs = s.obs ∧ u.counter (0x51 + y.door.1) (9 + k) = (s.counter (0x51 + y.door.1) (9 + k)).inc ∧
          u.maint.outcomes.head? = some (.tenter, k)) ∧
        (∀ c, k = 0 → y.learned = some c → let new : CalRec := { c with learnedAt := BitVec.ofNat 32 r.calS }
          u.nv = { s.nv with cal := s.nv.cal.set y.door.1 (s.nv.cal[y.door.1].put new) } ∧ u.obs[y.door.1].commit = true ∧
          (if s.pair.formed && s.pair.token then u.obs[y.door.1].sending = some new
           else u.obs[y.door.1].takeUp = some (new, none))))

/-- R108, R109, R110: outside a pair a live write of a live field within its range waits for its channel's slot; any other field or value
is refused 0x6C, a stopped channel 0x03, a ninth write 0x07. In a pair it first goes to the standby for its check. -/
def Claim.LiveWrite : Prop :=
  ∀ (s : State) (t : Nat) (m : Msg) (x : Session) (c : Ch) (off : Nat) (v : BitVec 32), let r := Claim.heard s t m x 0x31
    Claim.Taken s m x → s.fitted c.door = true → s.maint.doorTok[c.door.1] = some m.session → s.chFitted c = true →
    (s.chStopped c = true → exec (.liveWrite t m c off v) s = .next (r.reply m 3)) ∧
    (s.chStopped c = false → s.liveValueOk c off v.toNat = false → exec (.liveWrite t m c off v) s = .next (r.reply m 0x6C)) ∧
    (s.chStopped c = false → s.liveValueOk c off v.toNat = true → 8 ≤ s.slot[c.1].pending.length →
      exec (.liveWrite t m c off v) s = .next (r.reply m 7)) ∧
    (s.chStopped c = false → s.liveValueOk c off v.toNat = true → s.slot[c.1].pending.length < 8 →
      (s.pair.formed = false → exec (.liveWrite t m c off v) s =
        .next ((r.modSlot c fun y => { y with pending := y.pending ++ [{ offset := off, value := v }] }).reply m 0)) ∧
      (s.pair.formed = true → s.pair.token = true → s.pair.check = none → exec (.liveWrite t m c off v) s =
        .next { r with pair := { s.pair with
          check := some (m, c, { offset := off, value := v }, r.ns), checkSeq := none
          msgs := s.pair.msgs ++ [{ msg := .liveCheck c off v }] } }))

/-- R111, R114, R117: an injection whose payload and values Table 4-7 allows starts the capture of a closed and locked leaf held in SERVICE;
any other is refused 0x01, elsewhere 0x60 and 0x07 while one runs. The capture ends when its periods are recorded; what is left of the
injection runs on. -/
def Claim.InjectionAndCapture : Prop :=
  ∀ (s : State) (t : Nat), let q := s.at t
    (∀ (m : Msg) (x : Session) (payload : List Byte), let r := Claim.heard s t m x 0x32
      Claim.Taken s m x →
      (InjectReq.ofBytes payload = none → exec (.inject t m payload) s = .next (r.reply m 1)) ∧
      (∀ i, InjectReq.ofBytes payload = some i → s.fitted i.door = true → s.maint.doorTok[i.door.1] = some m.session →
        (InjectReq.inRange i = false → exec (.inject t m payload) s = .next (r.reply m 1)) ∧
        (InjectReq.inRange i = true → (s.cyc[i.door.1].state ≠ .service ∨ s.closedRead i.door = false ∨ s.lockRead i.door = false ∨
            s.slot[i.door.ch.1].mode ≠ .hold) → exec (.inject t m payload) s = .next (r.reply m 0x60)) ∧
        (InjectReq.inRange i = true → s.cyc[i.door.1].state = .service → s.closedRead i.door = true → s.lockRead i.door = true →
          s.slot[i.door.ch.1].mode = .hold →
          (s.capture.active = true → exec (.inject t m payload) s = .next (r.reply m 7)) ∧
          (s.capture.active = false → ∃ u, exec (.inject t m payload) s = .next u ∧
            u = { r with capture := u.capture, maint := u.maint } ∧ u.capture.running = true ∧ u.capture.active = true ∧
            u.capture.req = some i ∧ u.capture.session = m.session ∧ u.capture.samples = [] ∧ u.capture.period = 0 ∧
            u.maint.reason = 0)))) ∧
    (∀ i, s.capture.req = some i → s.capture.running = true → min 8192 (i.lead + i.duration) ≤ s.capture.period →
      exec (.captureEnd t) s = .next { q with capture := { s.capture with
        running := false, active := decide (s.capture.period < i.lead + i.duration) } })

/-- Live writes, injection and capture. -/
def Obligations.LiveWriteAndCapture : Prop := Claim.LiveWrite ∧ Claim.InjectionAndCapture

/-- R358, R360, R361: a write to a slot that is not booted programs its bytes, at a sector's start after erasing the sector, and changes
no other byte (an open sector of the refresh is completed first); the booted slot is refused 0x64, without a writable plug it is 0x6D, and a
length of 0 or above 1,024 or a place beyond the slot 0x01. A verification records 0x00 or 0x63, and ends the writing of the slot, as 60 s
without a write do. -/
def Claim.SlotWriteAndVerify : Prop :=
  ∀ (s : State) (t : Nat) (slotB : Bool), let q := s.at t
    let base := if slotB then 0xC00000 else 0
    (∀ (m : Msg) (x : Session) (off : Nat) (data : List Byte), let r := Claim.heard s t m x 0x40
      let bad : Prop := data = [] ∨ 1024 < data.length ∨ 0xC00000 ≤ off ∨ 0xC00000 < off + data.length
      Claim.Taken s m x →
      (bad → exec (.slotWrite t m slotB off data) s = .next (r.reply m 1)) ∧
      (¬ bad → s.plugWritable = false → exec (.slotWrite t m slotB off data) s = .next (r.reply m 0x6D)) ∧
      (¬ bad → s.plugWritable = true → s.maint.booted = some slotB → exec (.slotWrite t m slotB off data) s = .next (r.reply m 0x64)) ∧
      (¬ bad → s.plugWritable = true → s.maint.booted ≠ some slotB → s.pair.restartAfter = false → s.plugOk →
        ∃ u, exec (.slotWrite t m slotB off data) s = .next u ∧
          u = { r with nv := { s.nv with plug := u.nv.plug }, counters := u.counters, maint := u.maint } ∧
          u.maint.reason = 0 ∧ u.slotWriting slotB = true ∧
          ∀ a, Memory.read u.nv.plug a =
            (if base + off ≤ a ∧ a < base + off + data.length then data.getD (a - (base + off)) 0xFF
             else if off % 0x10000 = 0 ∧ base + off ≤ a ∧ a < base + off + 0x10000 then 0xFF
             else Memory.read s.programSector.nv.plug a))) ∧
    (∀ (m : Msg) (x : Session), let r := Claim.heard s t m x 0x42
      Claim.Taken s m x → s.maint.plugPresent = true →
        ∃ u, exec (.slotVerify t m slotB) s = .next u ∧ u = { r with counters := u.counters, book := u.book, maint := u.maint } ∧
          u.maint.reason = 0 ∧ u.slotWriting slotB = false ∧
          u.maint.outcomes.head? = some (.slotVerify, if ((s.slotView slotB).verify s.nv.is2216 s.maint.identity).isSome then 0x63 else 0)) ∧
    (∀ a, s.maint.writing[slotB.toNat]? = some (some a) → s.maint.failed = false → a + ms 60000 ≤ q.ns →
      ∃ u, exec (.slotWriteIdleTimeout t slotB) s = .next u ∧ u = { q with maint := { s.maint with writing := u.maint.writing } } ∧
        u.slotWriting slotB = false ∧ u.slotWriting (!slotB) = s.slotWriting (!slotB))

/-- R362, R363, R264: a doorway restart is refused with the code of its first condition that fails; a slot or a section that fails its
checks changes nothing and gives 0x63, 0x70 or 0xA3. Accepted, the doorway stops with its pairs open and its pending writes gone, whose
number the answer carries (the model's choice, log 48), and no other doorway changes. It is over once its inputs are filtered: referenced,
or UNREFERENCED. -/
def Claim.DoorwayRestart : Prop :=
  ∀ (s : State) (t : Nat) (d : Door), let q := s.at t
    (∀ (m : Msg) (x : Session) (bucket : Bool), let r := Claim.heard s t m x 0x43
      Claim.Taken s m x → s.fitted d = true →
      s.maint.doorTok[d.1] = some m.session →
      let v := s.slotView s.inactive
      (∀ c, s.restartRefusal d = some c → exec (.doorwayRestart t m d bucket) s = .next (r.reply m c)) ∧
      (s.restartRefusal d = none → (v.checks15 s.maint.identity).isSome = true →
        ∃ u, exec (.doorwayRestart t m d bucket) s = .next u ∧ u = { r with counters := u.counters, book := u.book, maint := u.maint } ∧
          u.maint.outcomes.head? = some (.doorwayRestart, 0x63) ∧ u.maint.restart = s.maint.restart) ∧
      (∀ c, s.restartRefusal d = none → v.checks15 s.maint.identity = none → s.sectionCode v d bucket = some c →
        ∃ u, exec (.doorwayRestart t m d bucket) s = .next u ∧ u = { r with counters := u.counters, maint := u.maint } ∧
          u.maint.outcomes.head? = some (.doorwayRestart, c) ∧ u.maint.restart = s.maint.restart) ∧
      (s.restartRefusal d = none → v.checks15 s.maint.identity = none → s.sectionCode v d bucket = none →
        ∃ u, exec (.doorwayRestart t m d bucket) s = .next u ∧ u.maint.restart = some d ∧
          u.maint.reply = (r.reply m 0 (toLe 1 (s.waitingWrites d))).maint.reply ∧
          u.cyc[d.1].restarting = true ∧ u.drv[d.1].pairsCmd = false ∧ u.slot[d.ch.1].pending = [] ∧
          u.slot[d.step.1].pending = [] ∧ u.enc[d.ch.1].ref = false ∧
          (∀ e : Door, e ≠ d → u.cyc[e.1] = s.cyc[e.1] ∧ u.drv[e.1] = s.drv[e.1] ∧ u.obs[e.1] = s.obs[e.1] ∧
            u.slot[e.ch.1] = s.slot[e.ch.1] ∧ u.cfg.door[e.1] = s.cfg.door[e.1]))) ∧
    (s.maint.restart = some d → s.maint.failed = false → s.cyc[d.1].restarting = true → s.inputsValid d = true → s.enc[d.ch.1].ref = false →
      ∃ u, exec (.doorwayRestartComplete t d) s = .next u ∧
        u = { q with enc := u.enc, drv := u.drv, gov := u.gov, slot := u.slot, cyc := u.cyc, io := u.io, maint := u.maint } ∧
        u.maint.restart = none ∧ u.cyc[d.1].restarting = false ∧
        (s.closedRead d = true → s.lockRead d = true → s.enc[d.ch.1].lineBad = false → s.enc[d.ch.1].supplyBad = false →
          u.enc[d.ch.1].ref = true ∧ (s.maint.doorTok[d.1].isSome = true → u.cyc[d.1].state = s.cyc[d.1].state)) ∧
        (s.closedRead d = false ∨ s.lockRead d = false ∨ s.enc[d.ch.1].lineBad = true ∨ s.enc[d.ch.1].supplyBad = true →
          u.cyc[d.1].state = .unreferenced))

/-- R365, R366: an image switch is refused with the code of its first condition that fails, and ends with outcome 0x63 where the inactive
slot fails its verification. A module alone, a standby or one without a stream then restarts; the token holder of a live pair asks for a
handover. -/
def Claim.ImageSwitch : Prop :=
  ∀ (s : State) (t : Nat) (m : Msg) (x : Session), let r := Claim.heard s t m x 0x44
    Claim.Taken s m x →
    let bad := ((s.slotView s.inactive).verify s.nv.is2216 s.maint.identity).isSome
    let hand : Prop := s.pair.formed = true ∧ s.pair.token = true ∧ s.pair.backLink = true
    (s.maint.moduleTok ≠ some m.session → exec (.imageSwitch t m) s = .next (r.reply m 5)) ∧
    (s.maint.moduleTok = some m.session →
      (∀ c, s.switchRefusal = some c → ∃ u, exec (.imageSwitch t m) s = .next u ∧
        u = { r with counters := u.counters, maint := u.maint } ∧ u.maint.reason = c ∧ u.maint.configured = true) ∧
      (s.switchRefusal = none → bad = true → ∃ u, exec (.imageSwitch t m) s = .next u ∧ u.maint.reason = 0 ∧
        u.maint.outcomes.head? = some (.imageSwitch, 0x63) ∧
        u = { r with counters := u.counters, book := u.book, maint := u.maint } ∧ u.maint.configured = true) ∧
      (s.switchRefusal = none → bad = false → hand → ∃ u, exec (.imageSwitch t m) s = .next u ∧
        u = { r with counters := u.counters, pair := u.pair, maint := u.maint } ∧ u.maint.reason = 0 ∧
        u.pair = { s.pair with restartAfter := true, handover := true, deferred := false }) ∧
      (s.switchRefusal = none → bad = false → ¬ hand → ∃ u, exec (.imageSwitch t m) s = .next u ∧ u.restarted ∧ u.ns = 0 ∧
        u.maint.configured = false ∧ u.pair.token = false ∧ u.pending = s.pending ∧ u.maint.reply = (r.reply m 0).maint.reply))

/-- Slot writes and checks, doorway restarts and image switches. -/
def Obligations.PlugImages : Prop := Claim.SlotWriteAndVerify ∧ Claim.DoorwayRestart ∧ Claim.ImageSwitch

/-- R298, R322, R344: a calendar set holds only while holdover is the one valid source (else 0x83; 0x01 where its microseconds are no
fraction of a second). A switchover test asks for a handover, or is refused 0x67. A Tally Millpond test starts the test of an AVAILABLE
store (else 0x6F). Each but the first needs the module token (else 0x05). -/
def Claim.ModuleTests : Prop :=
  ∀ (s : State) (t : Nat) (m : Msg) (x : Session), Claim.Taken s m x →
    (∀ (sec : BitVec 32) (us : Nat), let r := Claim.heard s t m x 0x47
      (1000000 ≤ us → exec (.calendarSet t m sec us) s = .next (r.reply m 1)) ∧
      (us < 1000000 → r.bestSrc ≠ .holdover → exec (.calendarSet t m sec us) s = .next ((r.bump 0x80 14).reply m 0x83)) ∧
      (us < 1000000 → r.bestSrc = .holdover → ∃ u, exec (.calendarSet t m sec us) s = .next u ∧
        u = { r with counters := u.counters, cal := u.cal, book := u.book, maint := u.maint } ∧
        u.cal.now u.ns = sec.toNat * 1000000 + us ∧ u.cal.byTally = true ∧ u.cal.slew = 0 ∧ u.maint.reason = 0)) ∧
    (let r := Claim.heard s t m x 0x45
     (s.maint.moduleTok ≠ some m.session → exec (.switchoverTest t m) s = .next (r.reply m 5)) ∧
     (s.maint.moduleTok = some m.session →
      (s.pair.token = false → exec (.switchoverTest t m) s = .next (r.reply m 0x69)) ∧
      (s.pair.token = true → s.anyDoorTok = true → exec (.switchoverTest t m) s = .next (r.reply m 0x66)) ∧
      (s.pair.token = true → s.anyDoorTok = false → s.handoverRefused = true → ∃ u, exec (.switchoverTest t m) s = .next u ∧
        u = { r with counters := u.counters, maint := u.maint } ∧ u.maint.reason = 0x67) ∧
      (s.pair.token = true → s.anyDoorTok = false → s.handoverRefused = false → ∃ u, exec (.switchoverTest t m) s = .next u ∧
        u = { r with counters := u.counters, pair := { s.pair with handover := true, deferred := false }, maint := u.maint } ∧
        u.maint.reason = 0))) ∧
    (let r := Claim.heard s t m x 0x46
     (s.maint.moduleTok ≠ some m.session → exec (.millpondTest t m) s = .next (r.reply m 5)) ∧
     (s.maint.moduleTok = some m.session →
      (s.book.pond ≠ .available → exec (.millpondTest t m) s = .next (r.reply m 0x6F)) ∧
      (s.book.pond = .available → s.book.testEnd.isSome = true → exec (.millpondTest t m) s = .next (r.reply m 7)) ∧
      (s.book.pond = .available → s.book.testEnd = none → exec (.millpondTest t m) s =
        .next ({ r with book := { s.book with
          charger := false, testEnd := some (r.ns + ms 200), testBy := some m, ptest := true } }.reply m 0))))

/-- R371, R373, R374: a key area segment is staged under the module token in depot mode; a full copy is committed where it is newer and
signed by a trusted key. A commit, accepted or refused, discards what was staged, and so do 60 s without one. A write that fails ends with
outcome 0x71 and leaves the area in force. -/
def Claim.KeyArea : Prop :=
  ∀ (s : State) (t : Nat), let q := s.at t
    (∀ (m : Msg) (x : Session), let r := Claim.heard s t m x 0x49
      Claim.Taken s m x →
      (s.maint.moduleTok ≠ some m.session → ∀ off data, exec (.keyAreaStage t m off data) s = .next (r.reply m 5)) ∧
      (s.maint.moduleTok = some m.session → s.depot = true → s.plugWritable = true →
        (∀ off data, off % 1024 = 0 → off < 4096 → data.length = 1024 → ∃ u, exec (.keyAreaStage t m off data) s = .next u ∧
          u = { r with maint := { r.maint with sessions := u.maint.sessions, reply := u.maint.reply, reason := 0 } } ∧
          ∃ y, u.session m.session = some y ∧ y.staged = mapPut (off / 1024) data x.staged ∧ y.stagedAt = r.ns) ∧
        (∀ off data, (off % 1024 ≠ 0 ∨ 4096 ≤ off ∨ data.length ≠ 1024) →
          exec (.keyAreaStage t m off data) s = .next (r.reply m 1))) ∧
      (∀ (key : CommitKey) sig c, s.commitRefusal m x.copy key.bytes sig = some c → ∃ u, exec (.keyAreaCommit t m key sig) s = .next u ∧
        u = { r with maint := u.maint } ∧ u.maint.reason = c ∧ u.maint.outcomes.head? = some (.keyArea, c) ∧
        u.maint.identity = s.maint.identity ∧ ∃ y, u.session m.session = some y ∧ y.staged = []) ∧
      (∀ (key : CommitKey) sig left, s.commitRefusal m x.copy key.bytes sig = none → key.failed = some left →
        ∃ u, exec (.keyAreaCommit t m key sig) s = .next u ∧
          u = { r with nv := { s.nv with plug := u.nv.plug }, counters := u.counters, maint := u.maint } ∧
          u.maint.reason = 0x71 ∧ u.maint.outcomes.head? = some (.keyArea, 0x71) ∧ u.maint.identity = s.maint.identity ∧
          ∃ y, u.session m.session = some y ∧ y.staged = []) ∧
      (∀ (key : CommitKey) sig l, s.commitRefusal m x.copy key.bytes sig = none → key.failed = none → x.copy = some l →
        ∃ u, exec (.keyAreaCommit t m key sig) s = .next u ∧
          u = { r with nv := { s.nv with plug := u.nv.plug }, counters := u.counters, book := u.book, maint := u.maint } ∧
          u.maint.reason = 0 ∧ u.maint.outcomes.head? = some (.keyArea, 0) ∧ u.maint.identity = decodeIdentity l ∧
          (s.plugOk → l.length = 4096 → let at_ := copyAt s.olderCopy
            (∀ i, (h : i < l.length) → Memory.read u.nv.plug (at_ + i) = l[i]) ∧
            ∀ a, ¬ (at_ ≤ a ∧ a < at_ + 0x10000) → Memory.read u.nv.plug a = Memory.read s.programSector.nv.plug a) ∧
          ∃ y, u.session m.session = some y ∧ y.staged = [])) ∧
    (∀ id x, s.session id = some x → s.maint.failed = false → x.stagedAt + ms 60000 ≤ q.ns →
      exec (.keyStageTimeout t id) s = .next (q.setSession { x with staged := [] }))

/-- R370, R382: an ARP or echo request is answered once start-up step 3 is over; a fragmented datagram is dropped and counted. A parity
error stops its bucket engine; of any engine but CUR and PWM-S it holds the doorway in FAULT_HELD with cause 3. -/
def Claim.PortAndParity : Prop :=
  ∀ (s : State) (t : Nat), let r := s.at t
    (3 ≤ s.maint.step → s.maint.failed = false →
      exec (.arpAndIcmpEcho t) s = .next { r with maint := { s.maint with echoAt := some r.ns } }) ∧
    (s.maint.step < 3 → exec (.arpAndIcmpEcho t) s = .next r) ∧
    (exec (.fragmentedDatagram t) s = .next (r.bump 0x80 24)) ∧
    (∀ (d : Door) (role : Fin 12), s.fitted d = true → s.maint.enginesStopped[d.1].getLsbD role.1 = false →
      ∃ u, exec (.bucketProgramParity t d role) s = .next u ∧ u.maint.enginesStopped[d.1].getLsbD role.1 = true ∧
        u.counter 0x80 26 = (s.counter 0x80 26).inc ∧ u.nv = s.nv ∧ u.cfg = s.cfg ∧ u.pair = s.pair ∧
        (role = 2 ∨ role = 3 → u.cyc = s.cyc ∧ u.drv = s.drv) ∧
        (role ≠ 2 → role ≠ 3 → s.cyc[d.1].state ≠ .isolated → s.cyc[d.1].state ≠ .faultHeld →
          u.cyc[d.1].state = .faultHeld ∧ u.cyc[d.1].fcause = 3) ∧
        (∀ e : Door, e ≠ d → u.cyc[e.1] = s.cyc[e.1]))

/-- Module tests, the key area, the service port and bucket engine parity. -/
def Obligations.ModuleTestsAndPort : Prop := Claim.ModuleTests ∧ Claim.KeyArea ∧ Claim.PortAndParity
end

