-- ==== Sys2Proof/Laws/State.lean ====
section
/-!
SUPPORT. Sys2Proof/Laws/State.lean: what each shared update of Machine/Ops.lean leaves of every field of State, one lemma a field and update,
so that no later proof unfolds a record update.
-/
namespace Sys2Proof.Machine

variable (s : State)

/-! CUR's following of the window comparators changes the drive stages only. -/

/-- A walk that changes nothing but the drive stages changes nothing but them. -/
theorem foldl_drv {α : Type} (l : List α) (f : State → α → State) (h : ∀ s a, ∃ x, f s a = { s with drv := x }) (s : State) :
    ∃ x, l.foldl f s = { s with drv := x } := by
  induction l generalizing s with
  | nil => exact ⟨_, rfl⟩
  | cons a r ih =>
    obtain ⟨x, hx⟩ := h s a
    obtain ⟨y, hy⟩ := ih (f s a)
    exact ⟨y, by rw [List.foldl_cons, hy, hx]⟩

theorem State.followLegs_shape (d : Door) : ∃ x, s.followLegs d = { s with drv := x } := by
  refine foldl_drv _ _ (fun s a => ?_) s
  unfold State.followWindow
  dsimp only
  split
  · split <;> exact ⟨_, rfl⟩
  · exact ⟨_, rfl⟩

/-! `State.at` -/
@[simp] theorem State.at_free (t : Nat) : (s.at t).free = s.free := rfl
@[simp] theorem State.at_pending (t : Nat) : (s.at t).pending = s.pending := rfl
@[simp] theorem State.at_nv (t : Nat) : (s.at t).nv = s.nv := rfl
@[simp] theorem State.at_cfg (t : Nat) : (s.at t).cfg = s.cfg := rfl
@[simp] theorem State.at_counters (t : Nat) : (s.at t).counters = s.counters := rfl
@[simp] theorem State.at_sluice (t : Nat) : (s.at t).sluice = s.sluice := rfl
@[simp] theorem State.at_enc (t : Nat) : (s.at t).enc = s.enc := rfl
@[simp] theorem State.at_cmp (t : Nat) : (s.at t).cmp = s.cmp := rfl
@[simp] theorem State.at_drv (t : Nat) : (s.at t).drv = s.drv := rfl
@[simp] theorem State.at_sup (t : Nat) : (s.at t).sup = s.sup := rfl
@[simp] theorem State.at_gov (t : Nat) : (s.at t).gov = s.gov := rfl
@[simp] theorem State.at_slot (t : Nat) : (s.at t).slot = s.slot := rfl
@[simp] theorem State.at_housekeepingHigh (t : Nat) : (s.at t).housekeepingHigh = s.housekeepingHigh := rfl
@[simp] theorem State.at_capture (t : Nat) : (s.at t).capture = s.capture := rfl
@[simp] theorem State.at_obs (t : Nat) : (s.at t).obs = s.obs := rfl
@[simp] theorem State.at_cyc (t : Nat) : (s.at t).cyc = s.cyc := rfl
@[simp] theorem State.at_waiting (t : Nat) : (s.at t).waiting = s.waiting := rfl
@[simp] theorem State.at_safety (t : Nat) : (s.at t).safety = s.safety := rfl
@[simp] theorem State.at_io (t : Nat) : (s.at t).io = s.io := rfl
@[simp] theorem State.at_bus (t : Nat) : (s.at t).bus = s.bus := rfl
@[simp] theorem State.at_tele (t : Nat) : (s.at t).tele = s.tele := rfl
@[simp] theorem State.at_cal (t : Nat) : (s.at t).cal = s.cal := rfl
@[simp] theorem State.at_pair (t : Nat) : (s.at t).pair = s.pair := rfl
@[simp] theorem State.at_book (t : Nat) : (s.at t).book = s.book := rfl
@[simp] theorem State.at_maint (t : Nat) : (s.at t).maint = s.maint := rfl

/-! `State.modEnc` -/
@[simp] theorem State.modEnc_ns (c : Ch) (f : Enc → Enc) : (s.modEnc c f).ns = s.ns := rfl
@[simp] theorem State.modEnc_free (c : Ch) (f : Enc → Enc) : (s.modEnc c f).free = s.free := rfl
@[simp] theorem State.modEnc_pending (c : Ch) (f : Enc → Enc) : (s.modEnc c f).pending = s.pending := rfl
@[simp] theorem State.modEnc_nv (c : Ch) (f : Enc → Enc) : (s.modEnc c f).nv = s.nv := rfl
@[simp] theorem State.modEnc_cfg (c : Ch) (f : Enc → Enc) : (s.modEnc c f).cfg = s.cfg := rfl
@[simp] theorem State.modEnc_counters (c : Ch) (f : Enc → Enc) : (s.modEnc c f).counters = s.counters := rfl
@[simp] theorem State.modEnc_sluice (c : Ch) (f : Enc → Enc) : (s.modEnc c f).sluice = s.sluice := rfl
@[simp] theorem State.modEnc_cmp (c : Ch) (f : Enc → Enc) : (s.modEnc c f).cmp = s.cmp := rfl
@[simp] theorem State.modEnc_drv (c : Ch) (f : Enc → Enc) : (s.modEnc c f).drv = s.drv := rfl
@[simp] theorem State.modEnc_sup (c : Ch) (f : Enc → Enc) : (s.modEnc c f).sup = s.sup := rfl
@[simp] theorem State.modEnc_gov (c : Ch) (f : Enc → Enc) : (s.modEnc c f).gov = s.gov := rfl
@[simp] theorem State.modEnc_slot (c : Ch) (f : Enc → Enc) : (s.modEnc c f).slot = s.slot := rfl
@[simp] theorem State.modEnc_housekeepingHigh (c : Ch) (f : Enc → Enc) : (s.modEnc c f).housekeepingHigh = s.housekeepingHigh := rfl
@[simp] theorem State.modEnc_capture (c : Ch) (f : Enc → Enc) : (s.modEnc c f).capture = s.capture := rfl
@[simp] theorem State.modEnc_obs (c : Ch) (f : Enc → Enc) : (s.modEnc c f).obs = s.obs := rfl
@[simp] theorem State.modEnc_cyc (c : Ch) (f : Enc → Enc) : (s.modEnc c f).cyc = s.cyc := rfl
@[simp] theorem State.modEnc_waiting (c : Ch) (f : Enc → Enc) : (s.modEnc c f).waiting = s.waiting := rfl
@[simp] theorem State.modEnc_safety (c : Ch) (f : Enc → Enc) : (s.modEnc c f).safety = s.safety := rfl
@[simp] theorem State.modEnc_io (c : Ch) (f : Enc → Enc) : (s.modEnc c f).io = s.io := rfl
@[simp] theorem State.modEnc_bus (c : Ch) (f : Enc → Enc) : (s.modEnc c f).bus = s.bus := rfl
@[simp] theorem State.modEnc_tele (c : Ch) (f : Enc → Enc) : (s.modEnc c f).tele = s.tele := rfl
@[simp] theorem State.modEnc_cal (c : Ch) (f : Enc → Enc) : (s.modEnc c f).cal = s.cal := rfl
@[simp] theorem State.modEnc_pair (c : Ch) (f : Enc → Enc) : (s.modEnc c f).pair = s.pair := rfl
@[simp] theorem State.modEnc_book (c : Ch) (f : Enc → Enc) : (s.modEnc c f).book = s.book := rfl
@[simp] theorem State.modEnc_maint (c : Ch) (f : Enc → Enc) : (s.modEnc c f).maint = s.maint := rfl

/-! `State.modSlot` -/
@[simp] theorem State.modSlot_ns (c : Ch) (f : Slot → Slot) : (s.modSlot c f).ns = s.ns := rfl
@[simp] theorem State.modSlot_free (c : Ch) (f : Slot → Slot) : (s.modSlot c f).free = s.free := rfl
@[simp] theorem State.modSlot_pending (c : Ch) (f : Slot → Slot) : (s.modSlot c f).pending = s.pending := rfl
@[simp] theorem State.modSlot_nv (c : Ch) (f : Slot → Slot) : (s.modSlot c f).nv = s.nv := rfl
@[simp] theorem State.modSlot_cfg (c : Ch) (f : Slot → Slot) : (s.modSlot c f).cfg = s.cfg := rfl
@[simp] theorem State.modSlot_counters (c : Ch) (f : Slot → Slot) : (s.modSlot c f).counters = s.counters := rfl
@[simp] theorem State.modSlot_sluice (c : Ch) (f : Slot → Slot) : (s.modSlot c f).sluice = s.sluice := rfl
@[simp] theorem State.modSlot_enc (c : Ch) (f : Slot → Slot) : (s.modSlot c f).enc = s.enc := rfl
@[simp] theorem State.modSlot_cmp (c : Ch) (f : Slot → Slot) : (s.modSlot c f).cmp = s.cmp := rfl
@[simp] theorem State.modSlot_drv (c : Ch) (f : Slot → Slot) : (s.modSlot c f).drv = s.drv := rfl
@[simp] theorem State.modSlot_sup (c : Ch) (f : Slot → Slot) : (s.modSlot c f).sup = s.sup := rfl
@[simp] theorem State.modSlot_gov (c : Ch) (f : Slot → Slot) : (s.modSlot c f).gov = s.gov := rfl
@[simp] theorem State.modSlot_housekeepingHigh (c : Ch) (f : Slot → Slot) : (s.modSlot c f).housekeepingHigh = s.housekeepingHigh := rfl
@[simp] theorem State.modSlot_capture (c : Ch) (f : Slot → Slot) : (s.modSlot c f).capture = s.capture := rfl
@[simp] theorem State.modSlot_obs (c : Ch) (f : Slot → Slot) : (s.modSlot c f).obs = s.obs := rfl
@[simp] theorem State.modSlot_cyc (c : Ch) (f : Slot → Slot) : (s.modSlot c f).cyc = s.cyc := rfl
@[simp] theorem State.modSlot_waiting (c : Ch) (f : Slot → Slot) : (s.modSlot c f).waiting = s.waiting := rfl
@[simp] theorem State.modSlot_safety (c : Ch) (f : Slot → Slot) : (s.modSlot c f).safety = s.safety := rfl
@[simp] theorem State.modSlot_io (c : Ch) (f : Slot → Slot) : (s.modSlot c f).io = s.io := rfl
@[simp] theorem State.modSlot_bus (c : Ch) (f : Slot → Slot) : (s.modSlot c f).bus = s.bus := rfl
@[simp] theorem State.modSlot_tele (c : Ch) (f : Slot → Slot) : (s.modSlot c f).tele = s.tele := rfl
@[simp] theorem State.modSlot_cal (c : Ch) (f : Slot → Slot) : (s.modSlot c f).cal = s.cal := rfl
@[simp] theorem State.modSlot_pair (c : Ch) (f : Slot → Slot) : (s.modSlot c f).pair = s.pair := rfl
@[simp] theorem State.modSlot_book (c : Ch) (f : Slot → Slot) : (s.modSlot c f).book = s.book := rfl
@[simp] theorem State.modSlot_maint (c : Ch) (f : Slot → Slot) : (s.modSlot c f).maint = s.maint := rfl

/-! `State.modCmp` -/
@[simp] theorem State.modCmp_ns (d : Door) (f : Cmp → Cmp) : (s.modCmp d f).ns = s.ns := rfl
@[simp] theorem State.modCmp_free (d : Door) (f : Cmp → Cmp) : (s.modCmp d f).free = s.free := rfl
@[simp] theorem State.modCmp_pending (d : Door) (f : Cmp → Cmp) : (s.modCmp d f).pending = s.pending := rfl
@[simp] theorem State.modCmp_nv (d : Door) (f : Cmp → Cmp) : (s.modCmp d f).nv = s.nv := rfl
@[simp] theorem State.modCmp_cfg (d : Door) (f : Cmp → Cmp) : (s.modCmp d f).cfg = s.cfg := rfl
@[simp] theorem State.modCmp_counters (d : Door) (f : Cmp → Cmp) : (s.modCmp d f).counters = s.counters := rfl
@[simp] theorem State.modCmp_sluice (d : Door) (f : Cmp → Cmp) : (s.modCmp d f).sluice = s.sluice := rfl
@[simp] theorem State.modCmp_enc (d : Door) (f : Cmp → Cmp) : (s.modCmp d f).enc = s.enc := rfl
@[simp] theorem State.modCmp_drv (d : Door) (f : Cmp → Cmp) : (s.modCmp d f).drv = s.drv := rfl
@[simp] theorem State.modCmp_sup (d : Door) (f : Cmp → Cmp) : (s.modCmp d f).sup = s.sup := rfl
@[simp] theorem State.modCmp_gov (d : Door) (f : Cmp → Cmp) : (s.modCmp d f).gov = s.gov := rfl
@[simp] theorem State.modCmp_slot (d : Door) (f : Cmp → Cmp) : (s.modCmp d f).slot = s.slot := rfl
@[simp] theorem State.modCmp_housekeepingHigh (d : Door) (f : Cmp → Cmp) : (s.modCmp d f).housekeepingHigh = s.housekeepingHigh := rfl
@[simp] theorem State.modCmp_capture (d : Door) (f : Cmp → Cmp) : (s.modCmp d f).capture = s.capture := rfl
@[simp] theorem State.modCmp_obs (d : Door) (f : Cmp → Cmp) : (s.modCmp d f).obs = s.obs := rfl
@[simp] theorem State.modCmp_cyc (d : Door) (f : Cmp → Cmp) : (s.modCmp d f).cyc = s.cyc := rfl
@[simp] theorem State.modCmp_waiting (d : Door) (f : Cmp → Cmp) : (s.modCmp d f).waiting = s.waiting := rfl
@[simp] theorem State.modCmp_safety (d : Door) (f : Cmp → Cmp) : (s.modCmp d f).safety = s.safety := rfl
@[simp] theorem State.modCmp_io (d : Door) (f : Cmp → Cmp) : (s.modCmp d f).io = s.io := rfl
@[simp] theorem State.modCmp_bus (d : Door) (f : Cmp → Cmp) : (s.modCmp d f).bus = s.bus := rfl
@[simp] theorem State.modCmp_tele (d : Door) (f : Cmp → Cmp) : (s.modCmp d f).tele = s.tele := rfl
@[simp] theorem State.modCmp_cal (d : Door) (f : Cmp → Cmp) : (s.modCmp d f).cal = s.cal := rfl
@[simp] theorem State.modCmp_pair (d : Door) (f : Cmp → Cmp) : (s.modCmp d f).pair = s.pair := rfl
@[simp] theorem State.modCmp_book (d : Door) (f : Cmp → Cmp) : (s.modCmp d f).book = s.book := rfl
@[simp] theorem State.modCmp_maint (d : Door) (f : Cmp → Cmp) : (s.modCmp d f).maint = s.maint := rfl

/-! `State.modDrv` -/
@[simp] theorem State.modDrv_ns (d : Door) (f : Drv → Drv) : (s.modDrv d f).ns = s.ns := rfl
@[simp] theorem State.modDrv_free (d : Door) (f : Drv → Drv) : (s.modDrv d f).free = s.free := rfl
@[simp] theorem State.modDrv_pending (d : Door) (f : Drv → Drv) : (s.modDrv d f).pending = s.pending := rfl
@[simp] theorem State.modDrv_nv (d : Door) (f : Drv → Drv) : (s.modDrv d f).nv = s.nv := rfl
@[simp] theorem State.modDrv_cfg (d : Door) (f : Drv → Drv) : (s.modDrv d f).cfg = s.cfg := rfl
@[simp] theorem State.modDrv_counters (d : Door) (f : Drv → Drv) : (s.modDrv d f).counters = s.counters := rfl
@[simp] theorem State.modDrv_sluice (d : Door) (f : Drv → Drv) : (s.modDrv d f).sluice = s.sluice := rfl
@[simp] theorem State.modDrv_enc (d : Door) (f : Drv → Drv) : (s.modDrv d f).enc = s.enc := rfl
@[simp] theorem State.modDrv_cmp (d : Door) (f : Drv → Drv) : (s.modDrv d f).cmp = s.cmp := rfl
@[simp] theorem State.modDrv_sup (d : Door) (f : Drv → Drv) : (s.modDrv d f).sup = s.sup := rfl
@[simp] theorem State.modDrv_gov (d : Door) (f : Drv → Drv) : (s.modDrv d f).gov = s.gov := rfl
@[simp] theorem State.modDrv_slot (d : Door) (f : Drv → Drv) : (s.modDrv d f).slot = s.slot := rfl
@[simp] theorem State.modDrv_housekeepingHigh (d : Door) (f : Drv → Drv) : (s.modDrv d f).housekeepingHigh = s.housekeepingHigh := rfl
@[simp] theorem State.modDrv_capture (d : Door) (f : Drv → Drv) : (s.modDrv d f).capture = s.capture := rfl
@[simp] theorem State.modDrv_obs (d : Door) (f : Drv → Drv) : (s.modDrv d f).obs = s.obs := rfl
@[simp] theorem State.modDrv_cyc (d : Door) (f : Drv → Drv) : (s.modDrv d f).cyc = s.cyc := rfl
@[simp] theorem State.modDrv_waiting (d : Door) (f : Drv → Drv) : (s.modDrv d f).waiting = s.waiting := rfl
@[simp] theorem State.modDrv_safety (d : Door) (f : Drv → Drv) : (s.modDrv d f).safety = s.safety := rfl
@[simp] theorem State.modDrv_io (d : Door) (f : Drv → Drv) : (s.modDrv d f).io = s.io := rfl
@[simp] theorem State.modDrv_bus (d : Door) (f : Drv → Drv) : (s.modDrv d f).bus = s.bus := rfl
@[simp] theorem State.modDrv_tele (d : Door) (f : Drv → Drv) : (s.modDrv d f).tele = s.tele := rfl
@[simp] theorem State.modDrv_cal (d : Door) (f : Drv → Drv) : (s.modDrv d f).cal = s.cal := rfl
@[simp] theorem State.modDrv_pair (d : Door) (f : Drv → Drv) : (s.modDrv d f).pair = s.pair := rfl
@[simp] theorem State.modDrv_book (d : Door) (f : Drv → Drv) : (s.modDrv d f).book = s.book := rfl
@[simp] theorem State.modDrv_maint (d : Door) (f : Drv → Drv) : (s.modDrv d f).maint = s.maint := rfl

/-! `State.modObs` -/
@[simp] theorem State.modObs_ns (d : Door) (f : Obs → Obs) : (s.modObs d f).ns = s.ns := rfl
@[simp] theorem State.modObs_free (d : Door) (f : Obs → Obs) : (s.modObs d f).free = s.free := rfl
@[simp] theorem State.modObs_pending (d : Door) (f : Obs → Obs) : (s.modObs d f).pending = s.pending := rfl
@[simp] theorem State.modObs_nv (d : Door) (f : Obs → Obs) : (s.modObs d f).nv = s.nv := rfl
@[simp] theorem State.modObs_cfg (d : Door) (f : Obs → Obs) : (s.modObs d f).cfg = s.cfg := rfl
@[simp] theorem State.modObs_counters (d : Door) (f : Obs → Obs) : (s.modObs d f).counters = s.counters := rfl
@[simp] theorem State.modObs_sluice (d : Door) (f : Obs → Obs) : (s.modObs d f).sluice = s.sluice := rfl
@[simp] theorem State.modObs_enc (d : Door) (f : Obs → Obs) : (s.modObs d f).enc = s.enc := rfl
@[simp] theorem State.modObs_cmp (d : Door) (f : Obs → Obs) : (s.modObs d f).cmp = s.cmp := rfl
@[simp] theorem State.modObs_drv (d : Door) (f : Obs → Obs) : (s.modObs d f).drv = s.drv := rfl
@[simp] theorem State.modObs_sup (d : Door) (f : Obs → Obs) : (s.modObs d f).sup = s.sup := rfl
@[simp] theorem State.modObs_gov (d : Door) (f : Obs → Obs) : (s.modObs d f).gov = s.gov := rfl
@[simp] theorem State.modObs_slot (d : Door) (f : Obs → Obs) : (s.modObs d f).slot = s.slot := rfl
@[simp] theorem State.modObs_housekeepingHigh (d : Door) (f : Obs → Obs) : (s.modObs d f).housekeepingHigh = s.housekeepingHigh := rfl
@[simp] theorem State.modObs_capture (d : Door) (f : Obs → Obs) : (s.modObs d f).capture = s.capture := rfl
@[simp] theorem State.modObs_cyc (d : Door) (f : Obs → Obs) : (s.modObs d f).cyc = s.cyc := rfl
@[simp] theorem State.modObs_waiting (d : Door) (f : Obs → Obs) : (s.modObs d f).waiting = s.waiting := rfl
@[simp] theorem State.modObs_safety (d : Door) (f : Obs → Obs) : (s.modObs d f).safety = s.safety := rfl
@[simp] theorem State.modObs_io (d : Door) (f : Obs → Obs) : (s.modObs d f).io = s.io := rfl
@[simp] theorem State.modObs_bus (d : Door) (f : Obs → Obs) : (s.modObs d f).bus = s.bus := rfl
@[simp] theorem State.modObs_tele (d : Door) (f : Obs → Obs) : (s.modObs d f).tele = s.tele := rfl
@[simp] theorem State.modObs_cal (d : Door) (f : Obs → Obs) : (s.modObs d f).cal = s.cal := rfl
@[simp] theorem State.modObs_pair (d : Door) (f : Obs → Obs) : (s.modObs d f).pair = s.pair := rfl
@[simp] theorem State.modObs_book (d : Door) (f : Obs → Obs) : (s.modObs d f).book = s.book := rfl
@[simp] theorem State.modObs_maint (d : Door) (f : Obs → Obs) : (s.modObs d f).maint = s.maint := rfl

/-! `State.modCyc` -/
@[simp] theorem State.modCyc_ns (d : Door) (f : Cyc → Cyc) : (s.modCyc d f).ns = s.ns := rfl
@[simp] theorem State.modCyc_free (d : Door) (f : Cyc → Cyc) : (s.modCyc d f).free = s.free := rfl
@[simp] theorem State.modCyc_pending (d : Door) (f : Cyc → Cyc) : (s.modCyc d f).pending = s.pending := rfl
@[simp] theorem State.modCyc_nv (d : Door) (f : Cyc → Cyc) : (s.modCyc d f).nv = s.nv := rfl
@[simp] theorem State.modCyc_cfg (d : Door) (f : Cyc → Cyc) : (s.modCyc d f).cfg = s.cfg := rfl
@[simp] theorem State.modCyc_counters (d : Door) (f : Cyc → Cyc) : (s.modCyc d f).counters = s.counters := rfl
@[simp] theorem State.modCyc_sluice (d : Door) (f : Cyc → Cyc) : (s.modCyc d f).sluice = s.sluice := rfl
@[simp] theorem State.modCyc_enc (d : Door) (f : Cyc → Cyc) : (s.modCyc d f).enc = s.enc := rfl
@[simp] theorem State.modCyc_cmp (d : Door) (f : Cyc → Cyc) : (s.modCyc d f).cmp = s.cmp := rfl
@[simp] theorem State.modCyc_drv (d : Door) (f : Cyc → Cyc) : (s.modCyc d f).drv = s.drv := rfl
@[simp] theorem State.modCyc_sup (d : Door) (f : Cyc → Cyc) : (s.modCyc d f).sup = s.sup := rfl
@[simp] theorem State.modCyc_gov (d : Door) (f : Cyc → Cyc) : (s.modCyc d f).gov = s.gov := rfl
@[simp] theorem State.modCyc_slot (d : Door) (f : Cyc → Cyc) : (s.modCyc d f).slot = s.slot := rfl
@[simp] theorem State.modCyc_housekeepingHigh (d : Door) (f : Cyc → Cyc) : (s.modCyc d f).housekeepingHigh = s.housekeepingHigh := rfl
@[simp] theorem State.modCyc_capture (d : Door) (f : Cyc → Cyc) : (s.modCyc d f).capture = s.capture := rfl
@[simp] theorem State.modCyc_obs (d : Door) (f : Cyc → Cyc) : (s.modCyc d f).obs = s.obs := rfl
@[simp] theorem State.modCyc_waiting (d : Door) (f : Cyc → Cyc) : (s.modCyc d f).waiting = s.waiting := rfl
@[simp] theorem State.modCyc_safety (d : Door) (f : Cyc → Cyc) : (s.modCyc d f).safety = s.safety := rfl
@[simp] theorem State.modCyc_io (d : Door) (f : Cyc → Cyc) : (s.modCyc d f).io = s.io := rfl
@[simp] theorem State.modCyc_bus (d : Door) (f : Cyc → Cyc) : (s.modCyc d f).bus = s.bus := rfl
@[simp] theorem State.modCyc_tele (d : Door) (f : Cyc → Cyc) : (s.modCyc d f).tele = s.tele := rfl
@[simp] theorem State.modCyc_cal (d : Door) (f : Cyc → Cyc) : (s.modCyc d f).cal = s.cal := rfl
@[simp] theorem State.modCyc_pair (d : Door) (f : Cyc → Cyc) : (s.modCyc d f).pair = s.pair := rfl
@[simp] theorem State.modCyc_book (d : Door) (f : Cyc → Cyc) : (s.modCyc d f).book = s.book := rfl
@[simp] theorem State.modCyc_maint (d : Door) (f : Cyc → Cyc) : (s.modCyc d f).maint = s.maint := rfl

/-! `State.modBus` -/
@[simp] theorem State.modBus_ns (b : BusId) (f : BusSt → BusSt) : (s.modBus b f).ns = s.ns := rfl
@[simp] theorem State.modBus_free (b : BusId) (f : BusSt → BusSt) : (s.modBus b f).free = s.free := rfl
@[simp] theorem State.modBus_pending (b : BusId) (f : BusSt → BusSt) : (s.modBus b f).pending = s.pending := rfl
@[simp] theorem State.modBus_nv (b : BusId) (f : BusSt → BusSt) : (s.modBus b f).nv = s.nv := rfl
@[simp] theorem State.modBus_cfg (b : BusId) (f : BusSt → BusSt) : (s.modBus b f).cfg = s.cfg := rfl
@[simp] theorem State.modBus_counters (b : BusId) (f : BusSt → BusSt) : (s.modBus b f).counters = s.counters := rfl
@[simp] theorem State.modBus_sluice (b : BusId) (f : BusSt → BusSt) : (s.modBus b f).sluice = s.sluice := rfl
@[simp] theorem State.modBus_enc (b : BusId) (f : BusSt → BusSt) : (s.modBus b f).enc = s.enc := rfl
@[simp] theorem State.modBus_cmp (b : BusId) (f : BusSt → BusSt) : (s.modBus b f).cmp = s.cmp := rfl
@[simp] theorem State.modBus_drv (b : BusId) (f : BusSt → BusSt) : (s.modBus b f).drv = s.drv := rfl
@[simp] theorem State.modBus_sup (b : BusId) (f : BusSt → BusSt) : (s.modBus b f).sup = s.sup := rfl
@[simp] theorem State.modBus_gov (b : BusId) (f : BusSt → BusSt) : (s.modBus b f).gov = s.gov := rfl
@[simp] theorem State.modBus_slot (b : BusId) (f : BusSt → BusSt) : (s.modBus b f).slot = s.slot := rfl
@[simp] theorem State.modBus_housekeepingHigh (b : BusId) (f : BusSt → BusSt) : (s.modBus b f).housekeepingHigh = s.housekeepingHigh := rfl
@[simp] theorem State.modBus_capture (b : BusId) (f : BusSt → BusSt) : (s.modBus b f).capture = s.capture := rfl
@[simp] theorem State.modBus_obs (b : BusId) (f : BusSt → BusSt) : (s.modBus b f).obs = s.obs := rfl
@[simp] theorem State.modBus_cyc (b : BusId) (f : BusSt → BusSt) : (s.modBus b f).cyc = s.cyc := rfl
@[simp] theorem State.modBus_waiting (b : BusId) (f : BusSt → BusSt) : (s.modBus b f).waiting = s.waiting := rfl
@[simp] theorem State.modBus_safety (b : BusId) (f : BusSt → BusSt) : (s.modBus b f).safety = s.safety := rfl
@[simp] theorem State.modBus_io (b : BusId) (f : BusSt → BusSt) : (s.modBus b f).io = s.io := rfl
@[simp] theorem State.modBus_tele (b : BusId) (f : BusSt → BusSt) : (s.modBus b f).tele = s.tele := rfl
@[simp] theorem State.modBus_cal (b : BusId) (f : BusSt → BusSt) : (s.modBus b f).cal = s.cal := rfl
@[simp] theorem State.modBus_pair (b : BusId) (f : BusSt → BusSt) : (s.modBus b f).pair = s.pair := rfl
@[simp] theorem State.modBus_book (b : BusId) (f : BusSt → BusSt) : (s.modBus b f).book = s.book := rfl
@[simp] theorem State.modBus_maint (b : BusId) (f : BusSt → BusSt) : (s.modBus b f).maint = s.maint := rfl

/-! `State.modGrp` -/
@[simp] theorem State.modGrp_ns (g : Group) (f : Grp → Grp) : (s.modGrp g f).ns = s.ns := rfl
@[simp] theorem State.modGrp_free (g : Group) (f : Grp → Grp) : (s.modGrp g f).free = s.free := rfl
@[simp] theorem State.modGrp_pending (g : Group) (f : Grp → Grp) : (s.modGrp g f).pending = s.pending := rfl
@[simp] theorem State.modGrp_nv (g : Group) (f : Grp → Grp) : (s.modGrp g f).nv = s.nv := rfl
@[simp] theorem State.modGrp_cfg (g : Group) (f : Grp → Grp) : (s.modGrp g f).cfg = s.cfg := rfl
@[simp] theorem State.modGrp_counters (g : Group) (f : Grp → Grp) : (s.modGrp g f).counters = s.counters := rfl
@[simp] theorem State.modGrp_sluice (g : Group) (f : Grp → Grp) : (s.modGrp g f).sluice = s.sluice := rfl
@[simp] theorem State.modGrp_enc (g : Group) (f : Grp → Grp) : (s.modGrp g f).enc = s.enc := rfl
@[simp] theorem State.modGrp_cmp (g : Group) (f : Grp → Grp) : (s.modGrp g f).cmp = s.cmp := rfl
@[simp] theorem State.modGrp_drv (g : Group) (f : Grp → Grp) : (s.modGrp g f).drv = s.drv := rfl
@[simp] theorem State.modGrp_sup (g : Group) (f : Grp → Grp) : (s.modGrp g f).sup = s.sup := rfl
@[simp] theorem State.modGrp_gov (g : Group) (f : Grp → Grp) : (s.modGrp g f).gov = s.gov := rfl
@[simp] theorem State.modGrp_slot (g : Group) (f : Grp → Grp) : (s.modGrp g f).slot = s.slot := rfl
@[simp] theorem State.modGrp_housekeepingHigh (g : Group) (f : Grp → Grp) : (s.modGrp g f).housekeepingHigh = s.housekeepingHigh := rfl
@[simp] theorem State.modGrp_capture (g : Group) (f : Grp → Grp) : (s.modGrp g f).capture = s.capture := rfl
@[simp] theorem State.modGrp_obs (g : Group) (f : Grp → Grp) : (s.modGrp g f).obs = s.obs := rfl
@[simp] theorem State.modGrp_cyc (g : Group) (f : Grp → Grp) : (s.modGrp g f).cyc = s.cyc := rfl
@[simp] theorem State.modGrp_waiting (g : Group) (f : Grp → Grp) : (s.modGrp g f).waiting = s.waiting := rfl
@[simp] theorem State.modGrp_io (g : Group) (f : Grp → Grp) : (s.modGrp g f).io = s.io := rfl
@[simp] theorem State.modGrp_bus (g : Group) (f : Grp → Grp) : (s.modGrp g f).bus = s.bus := rfl
@[simp] theorem State.modGrp_tele (g : Group) (f : Grp → Grp) : (s.modGrp g f).tele = s.tele := rfl
@[simp] theorem State.modGrp_cal (g : Group) (f : Grp → Grp) : (s.modGrp g f).cal = s.cal := rfl
@[simp] theorem State.modGrp_pair (g : Group) (f : Grp → Grp) : (s.modGrp g f).pair = s.pair := rfl
@[simp] theorem State.modGrp_book (g : Group) (f : Grp → Grp) : (s.modGrp g f).book = s.book := rfl
@[simp] theorem State.modGrp_maint (g : Group) (f : Grp → Grp) : (s.modGrp g f).maint = s.maint := rfl

/-! `State.modDout` -/
@[simp] theorem State.modDout_ns (n : Dout) (f : DoutSt → DoutSt) : (s.modDout n f).ns = s.ns := rfl
@[simp] theorem State.modDout_free (n : Dout) (f : DoutSt → DoutSt) : (s.modDout n f).free = s.free := rfl
@[simp] theorem State.modDout_pending (n : Dout) (f : DoutSt → DoutSt) : (s.modDout n f).pending = s.pending := rfl
@[simp] theorem State.modDout_nv (n : Dout) (f : DoutSt → DoutSt) : (s.modDout n f).nv = s.nv := rfl
@[simp] theorem State.modDout_cfg (n : Dout) (f : DoutSt → DoutSt) : (s.modDout n f).cfg = s.cfg := rfl
@[simp] theorem State.modDout_counters (n : Dout) (f : DoutSt → DoutSt) : (s.modDout n f).counters = s.counters := rfl
@[simp] theorem State.modDout_sluice (n : Dout) (f : DoutSt → DoutSt) : (s.modDout n f).sluice = s.sluice := rfl
@[simp] theorem State.modDout_enc (n : Dout) (f : DoutSt → DoutSt) : (s.modDout n f).enc = s.enc := rfl
@[simp] theorem State.modDout_cmp (n : Dout) (f : DoutSt → DoutSt) : (s.modDout n f).cmp = s.cmp := rfl
@[simp] theorem State.modDout_drv (n : Dout) (f : DoutSt → DoutSt) : (s.modDout n f).drv = s.drv := rfl
@[simp] theorem State.modDout_sup (n : Dout) (f : DoutSt → DoutSt) : (s.modDout n f).sup = s.sup := rfl
@[simp] theorem State.modDout_gov (n : Dout) (f : DoutSt → DoutSt) : (s.modDout n f).gov = s.gov := rfl
@[simp] theorem State.modDout_slot (n : Dout) (f : DoutSt → DoutSt) : (s.modDout n f).slot = s.slot := rfl
@[simp] theorem State.modDout_housekeepingHigh (n : Dout) (f : DoutSt → DoutSt) : (s.modDout n f).housekeepingHigh = s.housekeepingHigh := rfl
@[simp] theorem State.modDout_capture (n : Dout) (f : DoutSt → DoutSt) : (s.modDout n f).capture = s.capture := rfl
@[simp] theorem State.modDout_obs (n : Dout) (f : DoutSt → DoutSt) : (s.modDout n f).obs = s.obs := rfl
@[simp] theorem State.modDout_cyc (n : Dout) (f : DoutSt → DoutSt) : (s.modDout n f).cyc = s.cyc := rfl
@[simp] theorem State.modDout_waiting (n : Dout) (f : DoutSt → DoutSt) : (s.modDout n f).waiting = s.waiting := rfl
@[simp] theorem State.modDout_safety (n : Dout) (f : DoutSt → DoutSt) : (s.modDout n f).safety = s.safety := rfl
@[simp] theorem State.modDout_bus (n : Dout) (f : DoutSt → DoutSt) : (s.modDout n f).bus = s.bus := rfl
@[simp] theorem State.modDout_tele (n : Dout) (f : DoutSt → DoutSt) : (s.modDout n f).tele = s.tele := rfl
@[simp] theorem State.modDout_cal (n : Dout) (f : DoutSt → DoutSt) : (s.modDout n f).cal = s.cal := rfl
@[simp] theorem State.modDout_pair (n : Dout) (f : DoutSt → DoutSt) : (s.modDout n f).pair = s.pair := rfl
@[simp] theorem State.modDout_book (n : Dout) (f : DoutSt → DoutSt) : (s.modDout n f).book = s.book := rfl
@[simp] theorem State.modDout_maint (n : Dout) (f : DoutSt → DoutSt) : (s.modDout n f).maint = s.maint := rfl

/-! `State.modLs` -/
@[simp] theorem State.modLs_ns (n : Ls) (f : LsSt → LsSt) : (s.modLs n f).ns = s.ns := rfl
@[simp] theorem State.modLs_free (n : Ls) (f : LsSt → LsSt) : (s.modLs n f).free = s.free := rfl
@[simp] theorem State.modLs_pending (n : Ls) (f : LsSt → LsSt) : (s.modLs n f).pending = s.pending := rfl
@[simp] theorem State.modLs_nv (n : Ls) (f : LsSt → LsSt) : (s.modLs n f).nv = s.nv := rfl
@[simp] theorem State.modLs_cfg (n : Ls) (f : LsSt → LsSt) : (s.modLs n f).cfg = s.cfg := rfl
@[simp] theorem State.modLs_counters (n : Ls) (f : LsSt → LsSt) : (s.modLs n f).counters = s.counters := rfl
@[simp] theorem State.modLs_sluice (n : Ls) (f : LsSt → LsSt) : (s.modLs n f).sluice = s.sluice := rfl
@[simp] theorem State.modLs_enc (n : Ls) (f : LsSt → LsSt) : (s.modLs n f).enc = s.enc := rfl
@[simp] theorem State.modLs_cmp (n : Ls) (f : LsSt → LsSt) : (s.modLs n f).cmp = s.cmp := rfl
@[simp] theorem State.modLs_drv (n : Ls) (f : LsSt → LsSt) : (s.modLs n f).drv = s.drv := rfl
@[simp] theorem State.modLs_sup (n : Ls) (f : LsSt → LsSt) : (s.modLs n f).sup = s.sup := rfl
@[simp] theorem State.modLs_gov (n : Ls) (f : LsSt → LsSt) : (s.modLs n f).gov = s.gov := rfl
@[simp] theorem State.modLs_slot (n : Ls) (f : LsSt → LsSt) : (s.modLs n f).slot = s.slot := rfl
@[simp] theorem State.modLs_housekeepingHigh (n : Ls) (f : LsSt → LsSt) : (s.modLs n f).housekeepingHigh = s.housekeepingHigh := rfl
@[simp] theorem State.modLs_capture (n : Ls) (f : LsSt → LsSt) : (s.modLs n f).capture = s.capture := rfl
@[simp] theorem State.modLs_obs (n : Ls) (f : LsSt → LsSt) : (s.modLs n f).obs = s.obs := rfl
@[simp] theorem State.modLs_cyc (n : Ls) (f : LsSt → LsSt) : (s.modLs n f).cyc = s.cyc := rfl
@[simp] theorem State.modLs_waiting (n : Ls) (f : LsSt → LsSt) : (s.modLs n f).waiting = s.waiting := rfl
@[simp] theorem State.modLs_safety (n : Ls) (f : LsSt → LsSt) : (s.modLs n f).safety = s.safety := rfl
@[simp] theorem State.modLs_bus (n : Ls) (f : LsSt → LsSt) : (s.modLs n f).bus = s.bus := rfl
@[simp] theorem State.modLs_tele (n : Ls) (f : LsSt → LsSt) : (s.modLs n f).tele = s.tele := rfl
@[simp] theorem State.modLs_cal (n : Ls) (f : LsSt → LsSt) : (s.modLs n f).cal = s.cal := rfl
@[simp] theorem State.modLs_pair (n : Ls) (f : LsSt → LsSt) : (s.modLs n f).pair = s.pair := rfl
@[simp] theorem State.modLs_book (n : Ls) (f : LsSt → LsSt) : (s.modLs n f).book = s.book := rfl
@[simp] theorem State.modLs_maint (n : Ls) (f : LsSt → LsSt) : (s.modLs n f).maint = s.maint := rfl

/-! `State.modFi` -/
@[simp] theorem State.modFi_ns (n : Fi) (f : InSt → InSt) : (s.modFi n f).ns = s.ns := rfl
@[simp] theorem State.modFi_free (n : Fi) (f : InSt → InSt) : (s.modFi n f).free = s.free := rfl
@[simp] theorem State.modFi_pending (n : Fi) (f : InSt → InSt) : (s.modFi n f).pending = s.pending := rfl
@[simp] theorem State.modFi_nv (n : Fi) (f : InSt → InSt) : (s.modFi n f).nv = s.nv := rfl
@[simp] theorem State.modFi_cfg (n : Fi) (f : InSt → InSt) : (s.modFi n f).cfg = s.cfg := rfl
@[simp] theorem State.modFi_counters (n : Fi) (f : InSt → InSt) : (s.modFi n f).counters = s.counters := rfl
@[simp] theorem State.modFi_sluice (n : Fi) (f : InSt → InSt) : (s.modFi n f).sluice = s.sluice := rfl
@[simp] theorem State.modFi_enc (n : Fi) (f : InSt → InSt) : (s.modFi n f).enc = s.enc := rfl
@[simp] theorem State.modFi_cmp (n : Fi) (f : InSt → InSt) : (s.modFi n f).cmp = s.cmp := rfl
@[simp] theorem State.modFi_drv (n : Fi) (f : InSt → InSt) : (s.modFi n f).drv = s.drv := rfl
@[simp] theorem State.modFi_sup (n : Fi) (f : InSt → InSt) : (s.modFi n f).sup = s.sup := rfl
@[simp] theorem State.modFi_gov (n : Fi) (f : InSt → InSt) : (s.modFi n f).gov = s.gov := rfl
@[simp] theorem State.modFi_slot (n : Fi) (f : InSt → InSt) : (s.modFi n f).slot = s.slot := rfl
@[simp] theorem State.modFi_housekeepingHigh (n : Fi) (f : InSt → InSt) : (s.modFi n f).housekeepingHigh = s.housekeepingHigh := rfl
@[simp] theorem State.modFi_capture (n : Fi) (f : InSt → InSt) : (s.modFi n f).capture = s.capture := rfl
@[simp] theorem State.modFi_obs (n : Fi) (f : InSt → InSt) : (s.modFi n f).obs = s.obs := rfl
@[simp] theorem State.modFi_cyc (n : Fi) (f : InSt → InSt) : (s.modFi n f).cyc = s.cyc := rfl
@[simp] theorem State.modFi_waiting (n : Fi) (f : InSt → InSt) : (s.modFi n f).waiting = s.waiting := rfl
@[simp] theorem State.modFi_safety (n : Fi) (f : InSt → InSt) : (s.modFi n f).safety = s.safety := rfl
@[simp] theorem State.modFi_bus (n : Fi) (f : InSt → InSt) : (s.modFi n f).bus = s.bus := rfl
@[simp] theorem State.modFi_tele (n : Fi) (f : InSt → InSt) : (s.modFi n f).tele = s.tele := rfl
@[simp] theorem State.modFi_cal (n : Fi) (f : InSt → InSt) : (s.modFi n f).cal = s.cal := rfl
@[simp] theorem State.modFi_pair (n : Fi) (f : InSt → InSt) : (s.modFi n f).pair = s.pair := rfl
@[simp] theorem State.modFi_book (n : Fi) (f : InSt → InSt) : (s.modFi n f).book = s.book := rfl
@[simp] theorem State.modFi_maint (n : Fi) (f : InSt → InSt) : (s.modFi n f).maint = s.maint := rfl

/-! `State.setChan` -/
@[simp] theorem State.setChan_ns (ch : SafetyCh) (x : SafeChan) : (s.setChan ch x).ns = s.ns := by cases ch <;> rfl
@[simp] theorem State.setChan_free (ch : SafetyCh) (x : SafeChan) : (s.setChan ch x).free = s.free := by cases ch <;> rfl
@[simp] theorem State.setChan_pending (ch : SafetyCh) (x : SafeChan) : (s.setChan ch x).pending = s.pending := by cases ch <;> rfl
@[simp] theorem State.setChan_nv (ch : SafetyCh) (x : SafeChan) : (s.setChan ch x).nv = s.nv := by cases ch <;> rfl
@[simp] theorem State.setChan_cfg (ch : SafetyCh) (x : SafeChan) : (s.setChan ch x).cfg = s.cfg := by cases ch <;> rfl
@[simp] theorem State.setChan_counters (ch : SafetyCh) (x : SafeChan) : (s.setChan ch x).counters = s.counters := by cases ch <;> rfl
@[simp] theorem State.setChan_sluice (ch : SafetyCh) (x : SafeChan) : (s.setChan ch x).sluice = s.sluice := by cases ch <;> rfl
@[simp] theorem State.setChan_enc (ch : SafetyCh) (x : SafeChan) : (s.setChan ch x).enc = s.enc := by cases ch <;> rfl
@[simp] theorem State.setChan_cmp (ch : SafetyCh) (x : SafeChan) : (s.setChan ch x).cmp = s.cmp := by cases ch <;> rfl
@[simp] theorem State.setChan_drv (ch : SafetyCh) (x : SafeChan) : (s.setChan ch x).drv = s.drv := by cases ch <;> rfl
@[simp] theorem State.setChan_sup (ch : SafetyCh) (x : SafeChan) : (s.setChan ch x).sup = s.sup := by cases ch <;> rfl
@[simp] theorem State.setChan_gov (ch : SafetyCh) (x : SafeChan) : (s.setChan ch x).gov = s.gov := by cases ch <;> rfl
@[simp] theorem State.setChan_slot (ch : SafetyCh) (x : SafeChan) : (s.setChan ch x).slot = s.slot := by cases ch <;> rfl
@[simp] theorem State.setChan_housekeepingHigh (ch : SafetyCh) (x : SafeChan) : (s.setChan ch x).housekeepingHigh = s.housekeepingHigh := by cases ch <;> rfl
@[simp] theorem State.setChan_capture (ch : SafetyCh) (x : SafeChan) : (s.setChan ch x).capture = s.capture := by cases ch <;> rfl
@[simp] theorem State.setChan_obs (ch : SafetyCh) (x : SafeChan) : (s.setChan ch x).obs = s.obs := by cases ch <;> rfl
@[simp] theorem State.setChan_cyc (ch : SafetyCh) (x : SafeChan) : (s.setChan ch x).cyc = s.cyc := by cases ch <;> rfl
@[simp] theorem State.setChan_waiting (ch : SafetyCh) (x : SafeChan) : (s.setChan ch x).waiting = s.waiting := by cases ch <;> rfl
@[simp] theorem State.setChan_io (ch : SafetyCh) (x : SafeChan) : (s.setChan ch x).io = s.io := by cases ch <;> rfl
@[simp] theorem State.setChan_bus (ch : SafetyCh) (x : SafeChan) : (s.setChan ch x).bus = s.bus := by cases ch <;> rfl
@[simp] theorem State.setChan_tele (ch : SafetyCh) (x : SafeChan) : (s.setChan ch x).tele = s.tele := by cases ch <;> rfl
@[simp] theorem State.setChan_cal (ch : SafetyCh) (x : SafeChan) : (s.setChan ch x).cal = s.cal := by cases ch <;> rfl
@[simp] theorem State.setChan_pair (ch : SafetyCh) (x : SafeChan) : (s.setChan ch x).pair = s.pair := by cases ch <;> rfl
@[simp] theorem State.setChan_book (ch : SafetyCh) (x : SafeChan) : (s.setChan ch x).book = s.book := by cases ch <;> rfl
@[simp] theorem State.setChan_maint (ch : SafetyCh) (x : SafeChan) : (s.setChan ch x).maint = s.maint := by cases ch <;> rfl

/-! `State.bump` -/
@[simp] theorem State.bump_ns (i k : Nat) : (s.bump i k).ns = s.ns := rfl
@[simp] theorem State.bump_free (i k : Nat) : (s.bump i k).free = s.free := rfl
@[simp] theorem State.bump_pending (i k : Nat) : (s.bump i k).pending = s.pending := rfl
@[simp] theorem State.bump_nv (i k : Nat) : (s.bump i k).nv = s.nv := rfl
@[simp] theorem State.bump_cfg (i k : Nat) : (s.bump i k).cfg = s.cfg := rfl
@[simp] theorem State.bump_sluice (i k : Nat) : (s.bump i k).sluice = s.sluice := rfl
@[simp] theorem State.bump_enc (i k : Nat) : (s.bump i k).enc = s.enc := rfl
@[simp] theorem State.bump_cmp (i k : Nat) : (s.bump i k).cmp = s.cmp := rfl
@[simp] theorem State.bump_drv (i k : Nat) : (s.bump i k).drv = s.drv := rfl
@[simp] theorem State.bump_sup (i k : Nat) : (s.bump i k).sup = s.sup := rfl
@[simp] theorem State.bump_gov (i k : Nat) : (s.bump i k).gov = s.gov := rfl
@[simp] theorem State.bump_slot (i k : Nat) : (s.bump i k).slot = s.slot := rfl
@[simp] theorem State.bump_housekeepingHigh (i k : Nat) : (s.bump i k).housekeepingHigh = s.housekeepingHigh := rfl
@[simp] theorem State.bump_capture (i k : Nat) : (s.bump i k).capture = s.capture := rfl
@[simp] theorem State.bump_obs (i k : Nat) : (s.bump i k).obs = s.obs := rfl
@[simp] theorem State.bump_cyc (i k : Nat) : (s.bump i k).cyc = s.cyc := rfl
@[simp] theorem State.bump_waiting (i k : Nat) : (s.bump i k).waiting = s.waiting := rfl
@[simp] theorem State.bump_safety (i k : Nat) : (s.bump i k).safety = s.safety := rfl
@[simp] theorem State.bump_io (i k : Nat) : (s.bump i k).io = s.io := rfl
@[simp] theorem State.bump_bus (i k : Nat) : (s.bump i k).bus = s.bus := rfl
@[simp] theorem State.bump_tele (i k : Nat) : (s.bump i k).tele = s.tele := rfl
@[simp] theorem State.bump_cal (i k : Nat) : (s.bump i k).cal = s.cal := rfl
@[simp] theorem State.bump_pair (i k : Nat) : (s.bump i k).pair = s.pair := rfl
@[simp] theorem State.bump_book (i k : Nat) : (s.bump i k).book = s.book := rfl
@[simp] theorem State.bump_maint (i k : Nat) : (s.bump i k).maint = s.maint := rfl

/-! `State.bumpIf` -/
@[simp] theorem State.bumpIf_ns (v : Bool) (i k : Nat) : (s.bumpIf v i k).ns = s.ns := by cases v <;> rfl
@[simp] theorem State.bumpIf_free (v : Bool) (i k : Nat) : (s.bumpIf v i k).free = s.free := by cases v <;> rfl
@[simp] theorem State.bumpIf_pending (v : Bool) (i k : Nat) : (s.bumpIf v i k).pending = s.pending := by cases v <;> rfl
@[simp] theorem State.bumpIf_nv (v : Bool) (i k : Nat) : (s.bumpIf v i k).nv = s.nv := by cases v <;> rfl
@[simp] theorem State.bumpIf_cfg (v : Bool) (i k : Nat) : (s.bumpIf v i k).cfg = s.cfg := by cases v <;> rfl
@[simp] theorem State.bumpIf_sluice (v : Bool) (i k : Nat) : (s.bumpIf v i k).sluice = s.sluice := by cases v <;> rfl
@[simp] theorem State.bumpIf_enc (v : Bool) (i k : Nat) : (s.bumpIf v i k).enc = s.enc := by cases v <;> rfl
@[simp] theorem State.bumpIf_cmp (v : Bool) (i k : Nat) : (s.bumpIf v i k).cmp = s.cmp := by cases v <;> rfl
@[simp] theorem State.bumpIf_drv (v : Bool) (i k : Nat) : (s.bumpIf v i k).drv = s.drv := by cases v <;> rfl
@[simp] theorem State.bumpIf_sup (v : Bool) (i k : Nat) : (s.bumpIf v i k).sup = s.sup := by cases v <;> rfl
@[simp] theorem State.bumpIf_gov (v : Bool) (i k : Nat) : (s.bumpIf v i k).gov = s.gov := by cases v <;> rfl
@[simp] theorem State.bumpIf_slot (v : Bool) (i k : Nat) : (s.bumpIf v i k).slot = s.slot := by cases v <;> rfl
@[simp] theorem State.bumpIf_housekeepingHigh (v : Bool) (i k : Nat) : (s.bumpIf v i k).housekeepingHigh = s.housekeepingHigh := by cases v <;> rfl
@[simp] theorem State.bumpIf_capture (v : Bool) (i k : Nat) : (s.bumpIf v i k).capture = s.capture := by cases v <;> rfl
@[simp] theorem State.bumpIf_obs (v : Bool) (i k : Nat) : (s.bumpIf v i k).obs = s.obs := by cases v <;> rfl
@[simp] theorem State.bumpIf_cyc (v : Bool) (i k : Nat) : (s.bumpIf v i k).cyc = s.cyc := by cases v <;> rfl
@[simp] theorem State.bumpIf_waiting (v : Bool) (i k : Nat) : (s.bumpIf v i k).waiting = s.waiting := by cases v <;> rfl
@[simp] theorem State.bumpIf_safety (v : Bool) (i k : Nat) : (s.bumpIf v i k).safety = s.safety := by cases v <;> rfl
@[simp] theorem State.bumpIf_io (v : Bool) (i k : Nat) : (s.bumpIf v i k).io = s.io := by cases v <;> rfl
@[simp] theorem State.bumpIf_bus (v : Bool) (i k : Nat) : (s.bumpIf v i k).bus = s.bus := by cases v <;> rfl
@[simp] theorem State.bumpIf_tele (v : Bool) (i k : Nat) : (s.bumpIf v i k).tele = s.tele := by cases v <;> rfl
@[simp] theorem State.bumpIf_cal (v : Bool) (i k : Nat) : (s.bumpIf v i k).cal = s.cal := by cases v <;> rfl
@[simp] theorem State.bumpIf_pair (v : Bool) (i k : Nat) : (s.bumpIf v i k).pair = s.pair := by cases v <;> rfl
@[simp] theorem State.bumpIf_book (v : Bool) (i k : Nat) : (s.bumpIf v i k).book = s.book := by cases v <;> rfl
@[simp] theorem State.bumpIf_maint (v : Bool) (i k : Nat) : (s.bumpIf v i k).maint = s.maint := by cases v <;> rfl

/-! `State.setBucket` -/
@[simp] theorem State.setBucket_ns (n : Nat) (b : Bucket) : (s.setBucket n b).ns = s.ns := rfl
@[simp] theorem State.setBucket_free (n : Nat) (b : Bucket) : (s.setBucket n b).free = s.free := rfl
@[simp] theorem State.setBucket_pending (n : Nat) (b : Bucket) : (s.setBucket n b).pending = s.pending := rfl
@[simp] theorem State.setBucket_nv (n : Nat) (b : Bucket) : (s.setBucket n b).nv = s.nv := rfl
@[simp] theorem State.setBucket_cfg (n : Nat) (b : Bucket) : (s.setBucket n b).cfg = s.cfg := rfl
@[simp] theorem State.setBucket_counters (n : Nat) (b : Bucket) : (s.setBucket n b).counters = s.counters := rfl
@[simp] theorem State.setBucket_sluice (n : Nat) (b : Bucket) : (s.setBucket n b).sluice = s.sluice := rfl
@[simp] theorem State.setBucket_enc (n : Nat) (b : Bucket) : (s.setBucket n b).enc = s.enc := rfl
@[simp] theorem State.setBucket_cmp (n : Nat) (b : Bucket) : (s.setBucket n b).cmp = s.cmp := rfl
@[simp] theorem State.setBucket_drv (n : Nat) (b : Bucket) : (s.setBucket n b).drv = s.drv := rfl
@[simp] theorem State.setBucket_sup (n : Nat) (b : Bucket) : (s.setBucket n b).sup = s.sup := rfl
@[simp] theorem State.setBucket_gov (n : Nat) (b : Bucket) : (s.setBucket n b).gov = s.gov := rfl
@[simp] theorem State.setBucket_slot (n : Nat) (b : Bucket) : (s.setBucket n b).slot = s.slot := rfl
@[simp] theorem State.setBucket_housekeepingHigh (n : Nat) (b : Bucket) : (s.setBucket n b).housekeepingHigh = s.housekeepingHigh := rfl
@[simp] theorem State.setBucket_capture (n : Nat) (b : Bucket) : (s.setBucket n b).capture = s.capture := rfl
@[simp] theorem State.setBucket_obs (n : Nat) (b : Bucket) : (s.setBucket n b).obs = s.obs := rfl
@[simp] theorem State.setBucket_cyc (n : Nat) (b : Bucket) : (s.setBucket n b).cyc = s.cyc := rfl
@[simp] theorem State.setBucket_waiting (n : Nat) (b : Bucket) : (s.setBucket n b).waiting = s.waiting := rfl
@[simp] theorem State.setBucket_safety (n : Nat) (b : Bucket) : (s.setBucket n b).safety = s.safety := rfl
@[simp] theorem State.setBucket_io (n : Nat) (b : Bucket) : (s.setBucket n b).io = s.io := rfl
@[simp] theorem State.setBucket_bus (n : Nat) (b : Bucket) : (s.setBucket n b).bus = s.bus := rfl
@[simp] theorem State.setBucket_tele (n : Nat) (b : Bucket) : (s.setBucket n b).tele = s.tele := rfl
@[simp] theorem State.setBucket_cal (n : Nat) (b : Bucket) : (s.setBucket n b).cal = s.cal := rfl
@[simp] theorem State.setBucket_pair (n : Nat) (b : Bucket) : (s.setBucket n b).pair = s.pair := rfl
@[simp] theorem State.setBucket_maint (n : Nat) (b : Bucket) : (s.setBucket n b).maint = s.maint := rfl

/-! `State.takeToken` -/
@[simp] theorem State.takeToken_ns (n : Nat) : (s.takeToken n).ns = s.ns := rfl
@[simp] theorem State.takeToken_free (n : Nat) : (s.takeToken n).free = s.free := rfl
@[simp] theorem State.takeToken_pending (n : Nat) : (s.takeToken n).pending = s.pending := rfl
@[simp] theorem State.takeToken_nv (n : Nat) : (s.takeToken n).nv = s.nv := rfl
@[simp] theorem State.takeToken_cfg (n : Nat) : (s.takeToken n).cfg = s.cfg := rfl
@[simp] theorem State.takeToken_counters (n : Nat) : (s.takeToken n).counters = s.counters := rfl
@[simp] theorem State.takeToken_sluice (n : Nat) : (s.takeToken n).sluice = s.sluice := rfl
@[simp] theorem State.takeToken_enc (n : Nat) : (s.takeToken n).enc = s.enc := rfl
@[simp] theorem State.takeToken_cmp (n : Nat) : (s.takeToken n).cmp = s.cmp := rfl
@[simp] theorem State.takeToken_drv (n : Nat) : (s.takeToken n).drv = s.drv := rfl
@[simp] theorem State.takeToken_sup (n : Nat) : (s.takeToken n).sup = s.sup := rfl
@[simp] theorem State.takeToken_gov (n : Nat) : (s.takeToken n).gov = s.gov := rfl
@[simp] theorem State.takeToken_slot (n : Nat) : (s.takeToken n).slot = s.slot := rfl
@[simp] theorem State.takeToken_housekeepingHigh (n : Nat) : (s.takeToken n).housekeepingHigh = s.housekeepingHigh := rfl
@[simp] theorem State.takeToken_capture (n : Nat) : (s.takeToken n).capture = s.capture := rfl
@[simp] theorem State.takeToken_obs (n : Nat) : (s.takeToken n).obs = s.obs := rfl
@[simp] theorem State.takeToken_cyc (n : Nat) : (s.takeToken n).cyc = s.cyc := rfl
@[simp] theorem State.takeToken_waiting (n : Nat) : (s.takeToken n).waiting = s.waiting := rfl
@[simp] theorem State.takeToken_safety (n : Nat) : (s.takeToken n).safety = s.safety := rfl
@[simp] theorem State.takeToken_io (n : Nat) : (s.takeToken n).io = s.io := rfl
@[simp] theorem State.takeToken_bus (n : Nat) : (s.takeToken n).bus = s.bus := rfl
@[simp] theorem State.takeToken_tele (n : Nat) : (s.takeToken n).tele = s.tele := rfl
@[simp] theorem State.takeToken_cal (n : Nat) : (s.takeToken n).cal = s.cal := rfl
@[simp] theorem State.takeToken_pair (n : Nat) : (s.takeToken n).pair = s.pair := rfl
@[simp] theorem State.takeToken_maint (n : Nat) : (s.takeToken n).maint = s.maint := rfl

/-! `State.suppress` -/
@[simp] theorem State.suppress_ns (n : Nat) : (s.suppress n).ns = s.ns := rfl
@[simp] theorem State.suppress_free (n : Nat) : (s.suppress n).free = s.free := rfl
@[simp] theorem State.suppress_pending (n : Nat) : (s.suppress n).pending = s.pending := rfl
@[simp] theorem State.suppress_nv (n : Nat) : (s.suppress n).nv = s.nv := rfl
@[simp] theorem State.suppress_cfg (n : Nat) : (s.suppress n).cfg = s.cfg := rfl
@[simp] theorem State.suppress_sluice (n : Nat) : (s.suppress n).sluice = s.sluice := rfl
@[simp] theorem State.suppress_enc (n : Nat) : (s.suppress n).enc = s.enc := rfl
@[simp] theorem State.suppress_cmp (n : Nat) : (s.suppress n).cmp = s.cmp := rfl
@[simp] theorem State.suppress_drv (n : Nat) : (s.suppress n).drv = s.drv := rfl
@[simp] theorem State.suppress_sup (n : Nat) : (s.suppress n).sup = s.sup := rfl
@[simp] theorem State.suppress_gov (n : Nat) : (s.suppress n).gov = s.gov := rfl
@[simp] theorem State.suppress_slot (n : Nat) : (s.suppress n).slot = s.slot := rfl
@[simp] theorem State.suppress_housekeepingHigh (n : Nat) : (s.suppress n).housekeepingHigh = s.housekeepingHigh := rfl
@[simp] theorem State.suppress_capture (n : Nat) : (s.suppress n).capture = s.capture := rfl
@[simp] theorem State.suppress_obs (n : Nat) : (s.suppress n).obs = s.obs := rfl
@[simp] theorem State.suppress_cyc (n : Nat) : (s.suppress n).cyc = s.cyc := rfl
@[simp] theorem State.suppress_waiting (n : Nat) : (s.suppress n).waiting = s.waiting := rfl
@[simp] theorem State.suppress_safety (n : Nat) : (s.suppress n).safety = s.safety := rfl
@[simp] theorem State.suppress_io (n : Nat) : (s.suppress n).io = s.io := rfl
@[simp] theorem State.suppress_bus (n : Nat) : (s.suppress n).bus = s.bus := rfl
@[simp] theorem State.suppress_tele (n : Nat) : (s.suppress n).tele = s.tele := rfl
@[simp] theorem State.suppress_cal (n : Nat) : (s.suppress n).cal = s.cal := rfl
@[simp] theorem State.suppress_pair (n : Nat) : (s.suppress n).pair = s.pair := rfl
@[simp] theorem State.suppress_maint (n : Nat) : (s.suppress n).maint = s.maint := rfl

/-! `State.offer` -/
@[simp] theorem State.offer_ns (r : Record) : (s.offer r).ns = s.ns := by unfold State.offer; split <;> rfl
@[simp] theorem State.offer_free (r : Record) : (s.offer r).free = s.free := by unfold State.offer; split <;> rfl
@[simp] theorem State.offer_pending (r : Record) : (s.offer r).pending = s.pending := by unfold State.offer; split <;> rfl
@[simp] theorem State.offer_nv (r : Record) : (s.offer r).nv = s.nv := by unfold State.offer; split <;> rfl
@[simp] theorem State.offer_cfg (r : Record) : (s.offer r).cfg = s.cfg := by unfold State.offer; split <;> rfl
@[simp] theorem State.offer_counters (r : Record) : (s.offer r).counters = s.counters := by unfold State.offer; split <;> rfl
@[simp] theorem State.offer_sluice (r : Record) : (s.offer r).sluice = s.sluice := by unfold State.offer; split <;> rfl
@[simp] theorem State.offer_enc (r : Record) : (s.offer r).enc = s.enc := by unfold State.offer; split <;> rfl
@[simp] theorem State.offer_cmp (r : Record) : (s.offer r).cmp = s.cmp := by unfold State.offer; split <;> rfl
@[simp] theorem State.offer_drv (r : Record) : (s.offer r).drv = s.drv := by unfold State.offer; split <;> rfl
@[simp] theorem State.offer_sup (r : Record) : (s.offer r).sup = s.sup := by unfold State.offer; split <;> rfl
@[simp] theorem State.offer_gov (r : Record) : (s.offer r).gov = s.gov := by unfold State.offer; split <;> rfl
@[simp] theorem State.offer_slot (r : Record) : (s.offer r).slot = s.slot := by unfold State.offer; split <;> rfl
@[simp] theorem State.offer_housekeepingHigh (r : Record) : (s.offer r).housekeepingHigh = s.housekeepingHigh := by unfold State.offer; split <;> rfl
@[simp] theorem State.offer_capture (r : Record) : (s.offer r).capture = s.capture := by unfold State.offer; split <;> rfl
@[simp] theorem State.offer_obs (r : Record) : (s.offer r).obs = s.obs := by unfold State.offer; split <;> rfl
@[simp] theorem State.offer_cyc (r : Record) : (s.offer r).cyc = s.cyc := by unfold State.offer; split <;> rfl
@[simp] theorem State.offer_waiting (r : Record) : (s.offer r).waiting = s.waiting := by unfold State.offer; split <;> rfl
@[simp] theorem State.offer_safety (r : Record) : (s.offer r).safety = s.safety := by unfold State.offer; split <;> rfl
@[simp] theorem State.offer_io (r : Record) : (s.offer r).io = s.io := by unfold State.offer; split <;> rfl
@[simp] theorem State.offer_bus (r : Record) : (s.offer r).bus = s.bus := by unfold State.offer; split <;> rfl
@[simp] theorem State.offer_tele (r : Record) : (s.offer r).tele = s.tele := by unfold State.offer; split <;> rfl
@[simp] theorem State.offer_cal (r : Record) : (s.offer r).cal = s.cal := by unfold State.offer; split <;> rfl
@[simp] theorem State.offer_pair (r : Record) : (s.offer r).pair = s.pair := by unfold State.offer; split <;> rfl
@[simp] theorem State.offer_maint (r : Record) : (s.offer r).maint = s.maint := by unfold State.offer; split <;> rfl

/-! `State.event` -/
@[simp] theorem State.event_ns (n v k : Nat) (a b c e : BitVec 32) : (s.event n v k a b c e).ns = s.ns := by
  unfold State.event; split <;> [rfl; (dsimp only; split <;> [split; split])] <;> simp
@[simp] theorem State.event_free (n v k : Nat) (a b c e : BitVec 32) : (s.event n v k a b c e).free = s.free := by
  unfold State.event; split <;> [rfl; (dsimp only; split <;> [split; split])] <;> simp
@[simp] theorem State.event_pending (n v k : Nat) (a b c e : BitVec 32) : (s.event n v k a b c e).pending = s.pending := by
  unfold State.event; split <;> [rfl; (dsimp only; split <;> [split; split])] <;> simp
@[simp] theorem State.event_nv (n v k : Nat) (a b c e : BitVec 32) : (s.event n v k a b c e).nv = s.nv := by
  unfold State.event; split <;> [rfl; (dsimp only; split <;> [split; split])] <;> simp
@[simp] theorem State.event_cfg (n v k : Nat) (a b c e : BitVec 32) : (s.event n v k a b c e).cfg = s.cfg := by
  unfold State.event; split <;> [rfl; (dsimp only; split <;> [split; split])] <;> simp
@[simp] theorem State.event_sluice (n v k : Nat) (a b c e : BitVec 32) : (s.event n v k a b c e).sluice = s.sluice := by
  unfold State.event; split <;> [rfl; (dsimp only; split <;> [split; split])] <;> simp
@[simp] theorem State.event_enc (n v k : Nat) (a b c e : BitVec 32) : (s.event n v k a b c e).enc = s.enc := by
  unfold State.event; split <;> [rfl; (dsimp only; split <;> [split; split])] <;> simp
@[simp] theorem State.event_cmp (n v k : Nat) (a b c e : BitVec 32) : (s.event n v k a b c e).cmp = s.cmp := by
  unfold State.event; split <;> [rfl; (dsimp only; split <;> [split; split])] <;> simp
@[simp] theorem State.event_drv (n v k : Nat) (a b c e : BitVec 32) : (s.event n v k a b c e).drv = s.drv := by
  unfold State.event; split <;> [rfl; (dsimp only; split <;> [split; split])] <;> simp
@[simp] theorem State.event_sup (n v k : Nat) (a b c e : BitVec 32) : (s.event n v k a b c e).sup = s.sup := by
  unfold State.event; split <;> [rfl; (dsimp only; split <;> [split; split])] <;> simp
@[simp] theorem State.event_gov (n v k : Nat) (a b c e : BitVec 32) : (s.event n v k a b c e).gov = s.gov := by
  unfold State.event; split <;> [rfl; (dsimp only; split <;> [split; split])] <;> simp
@[simp] theorem State.event_slot (n v k : Nat) (a b c e : BitVec 32) : (s.event n v k a b c e).slot = s.slot := by
  unfold State.event; split <;> [rfl; (dsimp only; split <;> [split; split])] <;> simp
@[simp] theorem State.event_housekeepingHigh (n v k : Nat) (a b c e : BitVec 32) : (s.event n v k a b c e).housekeepingHigh = s.housekeepingHigh := by
  unfold State.event; split <;> [rfl; (dsimp only; split <;> [split; split])] <;> simp
@[simp] theorem State.event_capture (n v k : Nat) (a b c e : BitVec 32) : (s.event n v k a b c e).capture = s.capture := by
  unfold State.event; split <;> [rfl; (dsimp only; split <;> [split; split])] <;> simp
@[simp] theorem State.event_obs (n v k : Nat) (a b c e : BitVec 32) : (s.event n v k a b c e).obs = s.obs := by
  unfold State.event; split <;> [rfl; (dsimp only; split <;> [split; split])] <;> simp
@[simp] theorem State.event_cyc (n v k : Nat) (a b c e : BitVec 32) : (s.event n v k a b c e).cyc = s.cyc := by
  unfold State.event; split <;> [rfl; (dsimp only; split <;> [split; split])] <;> simp
@[simp] theorem State.event_waiting (n v k : Nat) (a b c e : BitVec 32) : (s.event n v k a b c e).waiting = s.waiting := by
  unfold State.event; split <;> [rfl; (dsimp only; split <;> [split; split])] <;> simp
@[simp] theorem State.event_safety (n v k : Nat) (a b c e : BitVec 32) : (s.event n v k a b c e).safety = s.safety := by
  unfold State.event; split <;> [rfl; (dsimp only; split <;> [split; split])] <;> simp
@[simp] theorem State.event_io (n v k : Nat) (a b c e : BitVec 32) : (s.event n v k a b c e).io = s.io := by
  unfold State.event; split <;> [rfl; (dsimp only; split <;> [split; split])] <;> simp
@[simp] theorem State.event_bus (n v k : Nat) (a b c e : BitVec 32) : (s.event n v k a b c e).bus = s.bus := by
  unfold State.event; split <;> [rfl; (dsimp only; split <;> [split; split])] <;> simp
@[simp] theorem State.event_tele (n v k : Nat) (a b c e : BitVec 32) : (s.event n v k a b c e).tele = s.tele := by
  unfold State.event; split <;> [rfl; (dsimp only; split <;> [split; split])] <;> simp
@[simp] theorem State.event_cal (n v k : Nat) (a b c e : BitVec 32) : (s.event n v k a b c e).cal = s.cal := by
  unfold State.event; split <;> [rfl; (dsimp only; split <;> [split; split])] <;> simp
@[simp] theorem State.event_pair (n v k : Nat) (a b c e : BitVec 32) : (s.event n v k a b c e).pair = s.pair := by
  unfold State.event; split <;> [rfl; (dsimp only; split <;> [split; split])] <;> simp
@[simp] theorem State.event_maint (n v k : Nat) (a b c e : BitVec 32) : (s.event n v k a b c e).maint = s.maint := by
  unfold State.event; split <;> [rfl; (dsimp only; split <;> [split; split])] <;> simp

/-! `State.doorEvent` -/
@[simp] theorem State.doorEvent_ns (d : Door) (n v k : Nat) (a b c : BitVec 32) : (s.doorEvent d n v k a b c).ns = s.ns := by simp [State.doorEvent]
@[simp] theorem State.doorEvent_free (d : Door) (n v k : Nat) (a b c : BitVec 32) : (s.doorEvent d n v k a b c).free = s.free := by simp [State.doorEvent]
@[simp] theorem State.doorEvent_pending (d : Door) (n v k : Nat) (a b c : BitVec 32) : (s.doorEvent d n v k a b c).pending = s.pending := by simp [State.doorEvent]
@[simp] theorem State.doorEvent_nv (d : Door) (n v k : Nat) (a b c : BitVec 32) : (s.doorEvent d n v k a b c).nv = s.nv := by simp [State.doorEvent]
@[simp] theorem State.doorEvent_cfg (d : Door) (n v k : Nat) (a b c : BitVec 32) : (s.doorEvent d n v k a b c).cfg = s.cfg := by simp [State.doorEvent]
@[simp] theorem State.doorEvent_sluice (d : Door) (n v k : Nat) (a b c : BitVec 32) : (s.doorEvent d n v k a b c).sluice = s.sluice := by simp [State.doorEvent]
@[simp] theorem State.doorEvent_enc (d : Door) (n v k : Nat) (a b c : BitVec 32) : (s.doorEvent d n v k a b c).enc = s.enc := by simp [State.doorEvent]
@[simp] theorem State.doorEvent_cmp (d : Door) (n v k : Nat) (a b c : BitVec 32) : (s.doorEvent d n v k a b c).cmp = s.cmp := by simp [State.doorEvent]
@[simp] theorem State.doorEvent_drv (d : Door) (n v k : Nat) (a b c : BitVec 32) : (s.doorEvent d n v k a b c).drv = s.drv := by simp [State.doorEvent]
@[simp] theorem State.doorEvent_sup (d : Door) (n v k : Nat) (a b c : BitVec 32) : (s.doorEvent d n v k a b c).sup = s.sup := by simp [State.doorEvent]
@[simp] theorem State.doorEvent_gov (d : Door) (n v k : Nat) (a b c : BitVec 32) : (s.doorEvent d n v k a b c).gov = s.gov := by simp [State.doorEvent]
@[simp] theorem State.doorEvent_slot (d : Door) (n v k : Nat) (a b c : BitVec 32) : (s.doorEvent d n v k a b c).slot = s.slot := by simp [State.doorEvent]
@[simp] theorem State.doorEvent_housekeepingHigh (d : Door) (n v k : Nat) (a b c : BitVec 32) : (s.doorEvent d n v k a b c).housekeepingHigh = s.housekeepingHigh := by simp [State.doorEvent]
@[simp] theorem State.doorEvent_capture (d : Door) (n v k : Nat) (a b c : BitVec 32) : (s.doorEvent d n v k a b c).capture = s.capture := by simp [State.doorEvent]
@[simp] theorem State.doorEvent_obs (d : Door) (n v k : Nat) (a b c : BitVec 32) : (s.doorEvent d n v k a b c).obs = s.obs := by simp [State.doorEvent]
@[simp] theorem State.doorEvent_cyc (d : Door) (n v k : Nat) (a b c : BitVec 32) : (s.doorEvent d n v k a b c).cyc = s.cyc := by simp [State.doorEvent]
@[simp] theorem State.doorEvent_waiting (d : Door) (n v k : Nat) (a b c : BitVec 32) : (s.doorEvent d n v k a b c).waiting = s.waiting := by simp [State.doorEvent]
@[simp] theorem State.doorEvent_safety (d : Door) (n v k : Nat) (a b c : BitVec 32) : (s.doorEvent d n v k a b c).safety = s.safety := by simp [State.doorEvent]
@[simp] theorem State.doorEvent_io (d : Door) (n v k : Nat) (a b c : BitVec 32) : (s.doorEvent d n v k a b c).io = s.io := by simp [State.doorEvent]
@[simp] theorem State.doorEvent_bus (d : Door) (n v k : Nat) (a b c : BitVec 32) : (s.doorEvent d n v k a b c).bus = s.bus := by simp [State.doorEvent]
@[simp] theorem State.doorEvent_tele (d : Door) (n v k : Nat) (a b c : BitVec 32) : (s.doorEvent d n v k a b c).tele = s.tele := by simp [State.doorEvent]
@[simp] theorem State.doorEvent_cal (d : Door) (n v k : Nat) (a b c : BitVec 32) : (s.doorEvent d n v k a b c).cal = s.cal := by simp [State.doorEvent]
@[simp] theorem State.doorEvent_pair (d : Door) (n v k : Nat) (a b c : BitVec 32) : (s.doorEvent d n v k a b c).pair = s.pair := by simp [State.doorEvent]
@[simp] theorem State.doorEvent_maint (d : Door) (n v k : Nat) (a b c : BitVec 32) : (s.doorEvent d n v k a b c).maint = s.maint := by simp [State.doorEvent]

/-! `State.request` -/
@[simp] theorem State.request_ns (c : Ch) (m : Mode) (a : Int) : (s.request c m a).ns = s.ns := rfl
@[simp] theorem State.request_free (c : Ch) (m : Mode) (a : Int) : (s.request c m a).free = s.free := rfl
@[simp] theorem State.request_pending (c : Ch) (m : Mode) (a : Int) : (s.request c m a).pending = s.pending := rfl
@[simp] theorem State.request_nv (c : Ch) (m : Mode) (a : Int) : (s.request c m a).nv = s.nv := rfl
@[simp] theorem State.request_cfg (c : Ch) (m : Mode) (a : Int) : (s.request c m a).cfg = s.cfg := rfl
@[simp] theorem State.request_counters (c : Ch) (m : Mode) (a : Int) : (s.request c m a).counters = s.counters := rfl
@[simp] theorem State.request_sluice (c : Ch) (m : Mode) (a : Int) : (s.request c m a).sluice = s.sluice := rfl
@[simp] theorem State.request_enc (c : Ch) (m : Mode) (a : Int) : (s.request c m a).enc = s.enc := rfl
@[simp] theorem State.request_cmp (c : Ch) (m : Mode) (a : Int) : (s.request c m a).cmp = s.cmp := rfl
@[simp] theorem State.request_drv (c : Ch) (m : Mode) (a : Int) : (s.request c m a).drv = s.drv := rfl
@[simp] theorem State.request_sup (c : Ch) (m : Mode) (a : Int) : (s.request c m a).sup = s.sup := rfl
@[simp] theorem State.request_gov (c : Ch) (m : Mode) (a : Int) : (s.request c m a).gov = s.gov := rfl
@[simp] theorem State.request_housekeepingHigh (c : Ch) (m : Mode) (a : Int) : (s.request c m a).housekeepingHigh = s.housekeepingHigh := rfl
@[simp] theorem State.request_capture (c : Ch) (m : Mode) (a : Int) : (s.request c m a).capture = s.capture := rfl
@[simp] theorem State.request_obs (c : Ch) (m : Mode) (a : Int) : (s.request c m a).obs = s.obs := rfl
@[simp] theorem State.request_cyc (c : Ch) (m : Mode) (a : Int) : (s.request c m a).cyc = s.cyc := rfl
@[simp] theorem State.request_waiting (c : Ch) (m : Mode) (a : Int) : (s.request c m a).waiting = s.waiting := rfl
@[simp] theorem State.request_safety (c : Ch) (m : Mode) (a : Int) : (s.request c m a).safety = s.safety := rfl
@[simp] theorem State.request_io (c : Ch) (m : Mode) (a : Int) : (s.request c m a).io = s.io := rfl
@[simp] theorem State.request_bus (c : Ch) (m : Mode) (a : Int) : (s.request c m a).bus = s.bus := rfl
@[simp] theorem State.request_tele (c : Ch) (m : Mode) (a : Int) : (s.request c m a).tele = s.tele := rfl
@[simp] theorem State.request_cal (c : Ch) (m : Mode) (a : Int) : (s.request c m a).cal = s.cal := rfl
@[simp] theorem State.request_pair (c : Ch) (m : Mode) (a : Int) : (s.request c m a).pair = s.pair := rfl
@[simp] theorem State.request_book (c : Ch) (m : Mode) (a : Int) : (s.request c m a).book = s.book := rfl
@[simp] theorem State.request_maint (c : Ch) (m : Mode) (a : Int) : (s.request c m a).maint = s.maint := rfl

/-! `State.openPairs` -/
@[simp] theorem State.openPairs_ns (d : Door) : (s.openPairs d).ns = s.ns := rfl
@[simp] theorem State.openPairs_free (d : Door) : (s.openPairs d).free = s.free := rfl
@[simp] theorem State.openPairs_pending (d : Door) : (s.openPairs d).pending = s.pending := rfl
@[simp] theorem State.openPairs_nv (d : Door) : (s.openPairs d).nv = s.nv := rfl
@[simp] theorem State.openPairs_cfg (d : Door) : (s.openPairs d).cfg = s.cfg := rfl
@[simp] theorem State.openPairs_counters (d : Door) : (s.openPairs d).counters = s.counters := rfl
@[simp] theorem State.openPairs_sluice (d : Door) : (s.openPairs d).sluice = s.sluice := rfl
@[simp] theorem State.openPairs_enc (d : Door) : (s.openPairs d).enc = s.enc := rfl
@[simp] theorem State.openPairs_cmp (d : Door) : (s.openPairs d).cmp = s.cmp := rfl
@[simp] theorem State.openPairs_sup (d : Door) : (s.openPairs d).sup = s.sup := rfl
@[simp] theorem State.openPairs_gov (d : Door) : (s.openPairs d).gov = s.gov := rfl
@[simp] theorem State.openPairs_slot (d : Door) : (s.openPairs d).slot = s.slot := rfl
@[simp] theorem State.openPairs_housekeepingHigh (d : Door) : (s.openPairs d).housekeepingHigh = s.housekeepingHigh := rfl
@[simp] theorem State.openPairs_capture (d : Door) : (s.openPairs d).capture = s.capture := rfl
@[simp] theorem State.openPairs_obs (d : Door) : (s.openPairs d).obs = s.obs := rfl
@[simp] theorem State.openPairs_cyc (d : Door) : (s.openPairs d).cyc = s.cyc := rfl
@[simp] theorem State.openPairs_waiting (d : Door) : (s.openPairs d).waiting = s.waiting := rfl
@[simp] theorem State.openPairs_safety (d : Door) : (s.openPairs d).safety = s.safety := rfl
@[simp] theorem State.openPairs_io (d : Door) : (s.openPairs d).io = s.io := rfl
@[simp] theorem State.openPairs_bus (d : Door) : (s.openPairs d).bus = s.bus := rfl
@[simp] theorem State.openPairs_tele (d : Door) : (s.openPairs d).tele = s.tele := rfl
@[simp] theorem State.openPairs_cal (d : Door) : (s.openPairs d).cal = s.cal := rfl
@[simp] theorem State.openPairs_pair (d : Door) : (s.openPairs d).pair = s.pair := rfl
@[simp] theorem State.openPairs_book (d : Door) : (s.openPairs d).book = s.book := rfl
@[simp] theorem State.openPairs_maint (d : Door) : (s.openPairs d).maint = s.maint := rfl

/-! `State.askBrake` -/
@[simp] theorem State.askBrake_ns (d : Door) : (s.askBrake d).ns = s.ns := rfl
@[simp] theorem State.askBrake_free (d : Door) : (s.askBrake d).free = s.free := rfl
@[simp] theorem State.askBrake_pending (d : Door) : (s.askBrake d).pending = s.pending := rfl
@[simp] theorem State.askBrake_nv (d : Door) : (s.askBrake d).nv = s.nv := rfl
@[simp] theorem State.askBrake_cfg (d : Door) : (s.askBrake d).cfg = s.cfg := rfl
@[simp] theorem State.askBrake_counters (d : Door) : (s.askBrake d).counters = s.counters := rfl
@[simp] theorem State.askBrake_sluice (d : Door) : (s.askBrake d).sluice = s.sluice := rfl
@[simp] theorem State.askBrake_enc (d : Door) : (s.askBrake d).enc = s.enc := rfl
@[simp] theorem State.askBrake_cmp (d : Door) : (s.askBrake d).cmp = s.cmp := rfl
@[simp] theorem State.askBrake_sup (d : Door) : (s.askBrake d).sup = s.sup := rfl
@[simp] theorem State.askBrake_gov (d : Door) : (s.askBrake d).gov = s.gov := rfl
@[simp] theorem State.askBrake_slot (d : Door) : (s.askBrake d).slot = s.slot := rfl
@[simp] theorem State.askBrake_housekeepingHigh (d : Door) : (s.askBrake d).housekeepingHigh = s.housekeepingHigh := rfl
@[simp] theorem State.askBrake_capture (d : Door) : (s.askBrake d).capture = s.capture := rfl
@[simp] theorem State.askBrake_obs (d : Door) : (s.askBrake d).obs = s.obs := rfl
@[simp] theorem State.askBrake_cyc (d : Door) : (s.askBrake d).cyc = s.cyc := rfl
@[simp] theorem State.askBrake_waiting (d : Door) : (s.askBrake d).waiting = s.waiting := rfl
@[simp] theorem State.askBrake_safety (d : Door) : (s.askBrake d).safety = s.safety := rfl
@[simp] theorem State.askBrake_io (d : Door) : (s.askBrake d).io = s.io := rfl
@[simp] theorem State.askBrake_bus (d : Door) : (s.askBrake d).bus = s.bus := rfl
@[simp] theorem State.askBrake_tele (d : Door) : (s.askBrake d).tele = s.tele := rfl
@[simp] theorem State.askBrake_cal (d : Door) : (s.askBrake d).cal = s.cal := rfl
@[simp] theorem State.askBrake_pair (d : Door) : (s.askBrake d).pair = s.pair := rfl
@[simp] theorem State.askBrake_book (d : Door) : (s.askBrake d).book = s.book := rfl
@[simp] theorem State.askBrake_maint (d : Door) : (s.askBrake d).maint = s.maint := rfl

/-! `State.dropBrake` -/
@[simp] theorem State.dropBrake_ns (d : Door) : (s.dropBrake d).ns = s.ns := rfl
@[simp] theorem State.dropBrake_free (d : Door) : (s.dropBrake d).free = s.free := rfl
@[simp] theorem State.dropBrake_pending (d : Door) : (s.dropBrake d).pending = s.pending := rfl
@[simp] theorem State.dropBrake_nv (d : Door) : (s.dropBrake d).nv = s.nv := rfl
@[simp] theorem State.dropBrake_cfg (d : Door) : (s.dropBrake d).cfg = s.cfg := rfl
@[simp] theorem State.dropBrake_counters (d : Door) : (s.dropBrake d).counters = s.counters := rfl
@[simp] theorem State.dropBrake_sluice (d : Door) : (s.dropBrake d).sluice = s.sluice := rfl
@[simp] theorem State.dropBrake_enc (d : Door) : (s.dropBrake d).enc = s.enc := rfl
@[simp] theorem State.dropBrake_cmp (d : Door) : (s.dropBrake d).cmp = s.cmp := rfl
@[simp] theorem State.dropBrake_sup (d : Door) : (s.dropBrake d).sup = s.sup := rfl
@[simp] theorem State.dropBrake_gov (d : Door) : (s.dropBrake d).gov = s.gov := rfl
@[simp] theorem State.dropBrake_slot (d : Door) : (s.dropBrake d).slot = s.slot := rfl
@[simp] theorem State.dropBrake_housekeepingHigh (d : Door) : (s.dropBrake d).housekeepingHigh = s.housekeepingHigh := rfl
@[simp] theorem State.dropBrake_capture (d : Door) : (s.dropBrake d).capture = s.capture := rfl
@[simp] theorem State.dropBrake_obs (d : Door) : (s.dropBrake d).obs = s.obs := rfl
@[simp] theorem State.dropBrake_cyc (d : Door) : (s.dropBrake d).cyc = s.cyc := rfl
@[simp] theorem State.dropBrake_waiting (d : Door) : (s.dropBrake d).waiting = s.waiting := rfl
@[simp] theorem State.dropBrake_safety (d : Door) : (s.dropBrake d).safety = s.safety := rfl
@[simp] theorem State.dropBrake_io (d : Door) : (s.dropBrake d).io = s.io := rfl
@[simp] theorem State.dropBrake_bus (d : Door) : (s.dropBrake d).bus = s.bus := rfl
@[simp] theorem State.dropBrake_tele (d : Door) : (s.dropBrake d).tele = s.tele := rfl
@[simp] theorem State.dropBrake_cal (d : Door) : (s.dropBrake d).cal = s.cal := rfl
@[simp] theorem State.dropBrake_pair (d : Door) : (s.dropBrake d).pair = s.pair := rfl
@[simp] theorem State.dropBrake_book (d : Door) : (s.dropBrake d).book = s.book := rfl
@[simp] theorem State.dropBrake_maint (d : Door) : (s.dropBrake d).maint = s.maint := rfl

/-! `State.bridgeOff` -/
@[simp] theorem State.bridgeOff_ns (c : Ch) : (s.bridgeOff c).ns = s.ns := rfl
@[simp] theorem State.bridgeOff_free (c : Ch) : (s.bridgeOff c).free = s.free := rfl
@[simp] theorem State.bridgeOff_pending (c : Ch) : (s.bridgeOff c).pending = s.pending := rfl
@[simp] theorem State.bridgeOff_nv (c : Ch) : (s.bridgeOff c).nv = s.nv := rfl
@[simp] theorem State.bridgeOff_cfg (c : Ch) : (s.bridgeOff c).cfg = s.cfg := rfl
@[simp] theorem State.bridgeOff_counters (c : Ch) : (s.bridgeOff c).counters = s.counters := rfl
@[simp] theorem State.bridgeOff_sluice (c : Ch) : (s.bridgeOff c).sluice = s.sluice := rfl
@[simp] theorem State.bridgeOff_enc (c : Ch) : (s.bridgeOff c).enc = s.enc := rfl
@[simp] theorem State.bridgeOff_cmp (c : Ch) : (s.bridgeOff c).cmp = s.cmp := rfl
@[simp] theorem State.bridgeOff_sup (c : Ch) : (s.bridgeOff c).sup = s.sup := rfl
@[simp] theorem State.bridgeOff_gov (c : Ch) : (s.bridgeOff c).gov = s.gov := rfl
@[simp] theorem State.bridgeOff_slot (c : Ch) : (s.bridgeOff c).slot = s.slot := rfl
@[simp] theorem State.bridgeOff_housekeepingHigh (c : Ch) : (s.bridgeOff c).housekeepingHigh = s.housekeepingHigh := rfl
@[simp] theorem State.bridgeOff_capture (c : Ch) : (s.bridgeOff c).capture = s.capture := rfl
@[simp] theorem State.bridgeOff_obs (c : Ch) : (s.bridgeOff c).obs = s.obs := rfl
@[simp] theorem State.bridgeOff_cyc (c : Ch) : (s.bridgeOff c).cyc = s.cyc := rfl
@[simp] theorem State.bridgeOff_waiting (c : Ch) : (s.bridgeOff c).waiting = s.waiting := rfl
@[simp] theorem State.bridgeOff_safety (c : Ch) : (s.bridgeOff c).safety = s.safety := rfl
@[simp] theorem State.bridgeOff_io (c : Ch) : (s.bridgeOff c).io = s.io := rfl
@[simp] theorem State.bridgeOff_bus (c : Ch) : (s.bridgeOff c).bus = s.bus := rfl
@[simp] theorem State.bridgeOff_tele (c : Ch) : (s.bridgeOff c).tele = s.tele := rfl
@[simp] theorem State.bridgeOff_cal (c : Ch) : (s.bridgeOff c).cal = s.cal := rfl
@[simp] theorem State.bridgeOff_pair (c : Ch) : (s.bridgeOff c).pair = s.pair := rfl
@[simp] theorem State.bridgeOff_book (c : Ch) : (s.bridgeOff c).book = s.book := rfl
@[simp] theorem State.bridgeOff_maint (c : Ch) : (s.bridgeOff c).maint = s.maint := rfl

/-! `State.followLegs` -/
@[simp] theorem State.followLegs_ns (d : Door) : (s.followLegs d).ns = s.ns := by obtain ⟨x, h⟩ := s.followLegs_shape d; rw [h]
@[simp] theorem State.followLegs_free (d : Door) : (s.followLegs d).free = s.free := by obtain ⟨x, h⟩ := s.followLegs_shape d; rw [h]
@[simp] theorem State.followLegs_pending (d : Door) : (s.followLegs d).pending = s.pending := by obtain ⟨x, h⟩ := s.followLegs_shape d; rw [h]
@[simp] theorem State.followLegs_nv (d : Door) : (s.followLegs d).nv = s.nv := by obtain ⟨x, h⟩ := s.followLegs_shape d; rw [h]
@[simp] theorem State.followLegs_cfg (d : Door) : (s.followLegs d).cfg = s.cfg := by obtain ⟨x, h⟩ := s.followLegs_shape d; rw [h]
@[simp] theorem State.followLegs_counters (d : Door) : (s.followLegs d).counters = s.counters := by obtain ⟨x, h⟩ := s.followLegs_shape d; rw [h]
@[simp] theorem State.followLegs_sluice (d : Door) : (s.followLegs d).sluice = s.sluice := by obtain ⟨x, h⟩ := s.followLegs_shape d; rw [h]
@[simp] theorem State.followLegs_enc (d : Door) : (s.followLegs d).enc = s.enc := by obtain ⟨x, h⟩ := s.followLegs_shape d; rw [h]
@[simp] theorem State.followLegs_cmp (d : Door) : (s.followLegs d).cmp = s.cmp := by obtain ⟨x, h⟩ := s.followLegs_shape d; rw [h]
@[simp] theorem State.followLegs_sup (d : Door) : (s.followLegs d).sup = s.sup := by obtain ⟨x, h⟩ := s.followLegs_shape d; rw [h]
@[simp] theorem State.followLegs_gov (d : Door) : (s.followLegs d).gov = s.gov := by obtain ⟨x, h⟩ := s.followLegs_shape d; rw [h]
@[simp] theorem State.followLegs_slot (d : Door) : (s.followLegs d).slot = s.slot := by obtain ⟨x, h⟩ := s.followLegs_shape d; rw [h]
@[simp] theorem State.followLegs_housekeepingHigh (d : Door) : (s.followLegs d).housekeepingHigh = s.housekeepingHigh := by obtain ⟨x, h⟩ := s.followLegs_shape d; rw [h]
@[simp] theorem State.followLegs_capture (d : Door) : (s.followLegs d).capture = s.capture := by obtain ⟨x, h⟩ := s.followLegs_shape d; rw [h]
@[simp] theorem State.followLegs_obs (d : Door) : (s.followLegs d).obs = s.obs := by obtain ⟨x, h⟩ := s.followLegs_shape d; rw [h]
@[simp] theorem State.followLegs_cyc (d : Door) : (s.followLegs d).cyc = s.cyc := by obtain ⟨x, h⟩ := s.followLegs_shape d; rw [h]
@[simp] theorem State.followLegs_waiting (d : Door) : (s.followLegs d).waiting = s.waiting := by obtain ⟨x, h⟩ := s.followLegs_shape d; rw [h]
@[simp] theorem State.followLegs_safety (d : Door) : (s.followLegs d).safety = s.safety := by obtain ⟨x, h⟩ := s.followLegs_shape d; rw [h]
@[simp] theorem State.followLegs_io (d : Door) : (s.followLegs d).io = s.io := by obtain ⟨x, h⟩ := s.followLegs_shape d; rw [h]
@[simp] theorem State.followLegs_bus (d : Door) : (s.followLegs d).bus = s.bus := by obtain ⟨x, h⟩ := s.followLegs_shape d; rw [h]
@[simp] theorem State.followLegs_tele (d : Door) : (s.followLegs d).tele = s.tele := by obtain ⟨x, h⟩ := s.followLegs_shape d; rw [h]
@[simp] theorem State.followLegs_cal (d : Door) : (s.followLegs d).cal = s.cal := by obtain ⟨x, h⟩ := s.followLegs_shape d; rw [h]
@[simp] theorem State.followLegs_pair (d : Door) : (s.followLegs d).pair = s.pair := by obtain ⟨x, h⟩ := s.followLegs_shape d; rw [h]
@[simp] theorem State.followLegs_book (d : Door) : (s.followLegs d).book = s.book := by obtain ⟨x, h⟩ := s.followLegs_shape d; rw [h]
@[simp] theorem State.followLegs_maint (d : Door) : (s.followLegs d).maint = s.maint := by obtain ⟨x, h⟩ := s.followLegs_shape d; rw [h]

/-! `State.outputsDue` -/
@[simp] theorem State.outputsDue_ns (d : Door) : (s.outputsDue d).ns = s.ns := by unfold State.outputsDue; dsimp only; split <;> simp
@[simp] theorem State.outputsDue_free (d : Door) : (s.outputsDue d).free = s.free := by unfold State.outputsDue; dsimp only; split <;> simp
@[simp] theorem State.outputsDue_pending (d : Door) : (s.outputsDue d).pending = s.pending := by unfold State.outputsDue; dsimp only; split <;> simp
@[simp] theorem State.outputsDue_nv (d : Door) : (s.outputsDue d).nv = s.nv := by unfold State.outputsDue; dsimp only; split <;> simp
@[simp] theorem State.outputsDue_cfg (d : Door) : (s.outputsDue d).cfg = s.cfg := by unfold State.outputsDue; dsimp only; split <;> simp
@[simp] theorem State.outputsDue_counters (d : Door) : (s.outputsDue d).counters = s.counters := by unfold State.outputsDue; dsimp only; split <;> simp
@[simp] theorem State.outputsDue_sluice (d : Door) : (s.outputsDue d).sluice = s.sluice := by unfold State.outputsDue; dsimp only; split <;> simp
@[simp] theorem State.outputsDue_enc (d : Door) : (s.outputsDue d).enc = s.enc := by unfold State.outputsDue; dsimp only; split <;> simp
@[simp] theorem State.outputsDue_cmp (d : Door) : (s.outputsDue d).cmp = s.cmp := by unfold State.outputsDue; dsimp only; split <;> simp
@[simp] theorem State.outputsDue_sup (d : Door) : (s.outputsDue d).sup = s.sup := by unfold State.outputsDue; dsimp only; split <;> simp
@[simp] theorem State.outputsDue_gov (d : Door) : (s.outputsDue d).gov = s.gov := by unfold State.outputsDue; dsimp only; split <;> simp
@[simp] theorem State.outputsDue_slot (d : Door) : (s.outputsDue d).slot = s.slot := by unfold State.outputsDue; dsimp only; split <;> simp
@[simp] theorem State.outputsDue_housekeepingHigh (d : Door) : (s.outputsDue d).housekeepingHigh = s.housekeepingHigh := by unfold State.outputsDue; dsimp only; split <;> simp
@[simp] theorem State.outputsDue_capture (d : Door) : (s.outputsDue d).capture = s.capture := by unfold State.outputsDue; dsimp only; split <;> simp
@[simp] theorem State.outputsDue_obs (d : Door) : (s.outputsDue d).obs = s.obs := by unfold State.outputsDue; dsimp only; split <;> simp
@[simp] theorem State.outputsDue_cyc (d : Door) : (s.outputsDue d).cyc = s.cyc := by unfold State.outputsDue; dsimp only; split <;> simp
@[simp] theorem State.outputsDue_waiting (d : Door) : (s.outputsDue d).waiting = s.waiting := by unfold State.outputsDue; dsimp only; split <;> simp
@[simp] theorem State.outputsDue_safety (d : Door) : (s.outputsDue d).safety = s.safety := by unfold State.outputsDue; dsimp only; split <;> simp
@[simp] theorem State.outputsDue_io (d : Door) : (s.outputsDue d).io = s.io := by unfold State.outputsDue; dsimp only; split <;> simp
@[simp] theorem State.outputsDue_bus (d : Door) : (s.outputsDue d).bus = s.bus := by unfold State.outputsDue; dsimp only; split <;> simp
@[simp] theorem State.outputsDue_tele (d : Door) : (s.outputsDue d).tele = s.tele := by unfold State.outputsDue; dsimp only; split <;> simp
@[simp] theorem State.outputsDue_cal (d : Door) : (s.outputsDue d).cal = s.cal := by unfold State.outputsDue; dsimp only; split <;> simp
@[simp] theorem State.outputsDue_pair (d : Door) : (s.outputsDue d).pair = s.pair := by unfold State.outputsDue; dsimp only; split <;> simp
@[simp] theorem State.outputsDue_book (d : Door) : (s.outputsDue d).book = s.book := by unfold State.outputsDue; dsimp only; split <;> simp
@[simp] theorem State.outputsDue_maint (d : Door) : (s.outputsDue d).maint = s.maint := by unfold State.outputsDue; dsimp only; split <;> simp

/-! `State.answer` -/
@[simp] theorem State.answer_ns (k : Nat) (m : Msg) (r : Nat) (p : List Byte) : (s.answer k m r p).ns = s.ns := rfl
@[simp] theorem State.answer_free (k : Nat) (m : Msg) (r : Nat) (p : List Byte) : (s.answer k m r p).free = s.free := rfl
@[simp] theorem State.answer_pending (k : Nat) (m : Msg) (r : Nat) (p : List Byte) : (s.answer k m r p).pending = s.pending := rfl
@[simp] theorem State.answer_nv (k : Nat) (m : Msg) (r : Nat) (p : List Byte) : (s.answer k m r p).nv = s.nv := rfl
@[simp] theorem State.answer_cfg (k : Nat) (m : Msg) (r : Nat) (p : List Byte) : (s.answer k m r p).cfg = s.cfg := rfl
@[simp] theorem State.answer_counters (k : Nat) (m : Msg) (r : Nat) (p : List Byte) : (s.answer k m r p).counters = s.counters := rfl
@[simp] theorem State.answer_sluice (k : Nat) (m : Msg) (r : Nat) (p : List Byte) : (s.answer k m r p).sluice = s.sluice := rfl
@[simp] theorem State.answer_enc (k : Nat) (m : Msg) (r : Nat) (p : List Byte) : (s.answer k m r p).enc = s.enc := rfl
@[simp] theorem State.answer_cmp (k : Nat) (m : Msg) (r : Nat) (p : List Byte) : (s.answer k m r p).cmp = s.cmp := rfl
@[simp] theorem State.answer_drv (k : Nat) (m : Msg) (r : Nat) (p : List Byte) : (s.answer k m r p).drv = s.drv := rfl
@[simp] theorem State.answer_sup (k : Nat) (m : Msg) (r : Nat) (p : List Byte) : (s.answer k m r p).sup = s.sup := rfl
@[simp] theorem State.answer_gov (k : Nat) (m : Msg) (r : Nat) (p : List Byte) : (s.answer k m r p).gov = s.gov := rfl
@[simp] theorem State.answer_slot (k : Nat) (m : Msg) (r : Nat) (p : List Byte) : (s.answer k m r p).slot = s.slot := rfl
@[simp] theorem State.answer_housekeepingHigh (k : Nat) (m : Msg) (r : Nat) (p : List Byte) : (s.answer k m r p).housekeepingHigh = s.housekeepingHigh := rfl
@[simp] theorem State.answer_capture (k : Nat) (m : Msg) (r : Nat) (p : List Byte) : (s.answer k m r p).capture = s.capture := rfl
@[simp] theorem State.answer_obs (k : Nat) (m : Msg) (r : Nat) (p : List Byte) : (s.answer k m r p).obs = s.obs := rfl
@[simp] theorem State.answer_cyc (k : Nat) (m : Msg) (r : Nat) (p : List Byte) : (s.answer k m r p).cyc = s.cyc := rfl
@[simp] theorem State.answer_waiting (k : Nat) (m : Msg) (r : Nat) (p : List Byte) : (s.answer k m r p).waiting = s.waiting := rfl
@[simp] theorem State.answer_safety (k : Nat) (m : Msg) (r : Nat) (p : List Byte) : (s.answer k m r p).safety = s.safety := rfl
@[simp] theorem State.answer_io (k : Nat) (m : Msg) (r : Nat) (p : List Byte) : (s.answer k m r p).io = s.io := rfl
@[simp] theorem State.answer_bus (k : Nat) (m : Msg) (r : Nat) (p : List Byte) : (s.answer k m r p).bus = s.bus := rfl
@[simp] theorem State.answer_tele (k : Nat) (m : Msg) (r : Nat) (p : List Byte) : (s.answer k m r p).tele = s.tele := rfl
@[simp] theorem State.answer_cal (k : Nat) (m : Msg) (r : Nat) (p : List Byte) : (s.answer k m r p).cal = s.cal := rfl
@[simp] theorem State.answer_pair (k : Nat) (m : Msg) (r : Nat) (p : List Byte) : (s.answer k m r p).pair = s.pair := rfl
@[simp] theorem State.answer_book (k : Nat) (m : Msg) (r : Nat) (p : List Byte) : (s.answer k m r p).book = s.book := rfl

/-! `State.putMsg` -/
@[simp] theorem State.putMsg_ns (m : CesilMsg) (x : Option Nat) : (s.putMsg m x).ns = s.ns := rfl
@[simp] theorem State.putMsg_free (m : CesilMsg) (x : Option Nat) : (s.putMsg m x).free = s.free := rfl
@[simp] theorem State.putMsg_pending (m : CesilMsg) (x : Option Nat) : (s.putMsg m x).pending = s.pending := rfl
@[simp] theorem State.putMsg_nv (m : CesilMsg) (x : Option Nat) : (s.putMsg m x).nv = s.nv := rfl
@[simp] theorem State.putMsg_cfg (m : CesilMsg) (x : Option Nat) : (s.putMsg m x).cfg = s.cfg := rfl
@[simp] theorem State.putMsg_counters (m : CesilMsg) (x : Option Nat) : (s.putMsg m x).counters = s.counters := rfl
@[simp] theorem State.putMsg_sluice (m : CesilMsg) (x : Option Nat) : (s.putMsg m x).sluice = s.sluice := rfl
@[simp] theorem State.putMsg_enc (m : CesilMsg) (x : Option Nat) : (s.putMsg m x).enc = s.enc := rfl
@[simp] theorem State.putMsg_cmp (m : CesilMsg) (x : Option Nat) : (s.putMsg m x).cmp = s.cmp := rfl
@[simp] theorem State.putMsg_drv (m : CesilMsg) (x : Option Nat) : (s.putMsg m x).drv = s.drv := rfl
@[simp] theorem State.putMsg_sup (m : CesilMsg) (x : Option Nat) : (s.putMsg m x).sup = s.sup := rfl
@[simp] theorem State.putMsg_gov (m : CesilMsg) (x : Option Nat) : (s.putMsg m x).gov = s.gov := rfl
@[simp] theorem State.putMsg_slot (m : CesilMsg) (x : Option Nat) : (s.putMsg m x).slot = s.slot := rfl
@[simp] theorem State.putMsg_housekeepingHigh (m : CesilMsg) (x : Option Nat) : (s.putMsg m x).housekeepingHigh = s.housekeepingHigh := rfl
@[simp] theorem State.putMsg_capture (m : CesilMsg) (x : Option Nat) : (s.putMsg m x).capture = s.capture := rfl
@[simp] theorem State.putMsg_obs (m : CesilMsg) (x : Option Nat) : (s.putMsg m x).obs = s.obs := rfl
@[simp] theorem State.putMsg_cyc (m : CesilMsg) (x : Option Nat) : (s.putMsg m x).cyc = s.cyc := rfl
@[simp] theorem State.putMsg_waiting (m : CesilMsg) (x : Option Nat) : (s.putMsg m x).waiting = s.waiting := rfl
@[simp] theorem State.putMsg_safety (m : CesilMsg) (x : Option Nat) : (s.putMsg m x).safety = s.safety := rfl
@[simp] theorem State.putMsg_io (m : CesilMsg) (x : Option Nat) : (s.putMsg m x).io = s.io := rfl
@[simp] theorem State.putMsg_bus (m : CesilMsg) (x : Option Nat) : (s.putMsg m x).bus = s.bus := rfl
@[simp] theorem State.putMsg_tele (m : CesilMsg) (x : Option Nat) : (s.putMsg m x).tele = s.tele := rfl
@[simp] theorem State.putMsg_cal (m : CesilMsg) (x : Option Nat) : (s.putMsg m x).cal = s.cal := rfl
@[simp] theorem State.putMsg_book (m : CesilMsg) (x : Option Nat) : (s.putMsg m x).book = s.book := rfl
@[simp] theorem State.putMsg_maint (m : CesilMsg) (x : Option Nat) : (s.putMsg m x).maint = s.maint := rfl

/-! `State.zeroOutputs` -/
@[simp] theorem State.zeroOutputs_ns (c : Ch) : (s.zeroOutputs c).ns = s.ns := by rfl
@[simp] theorem State.zeroOutputs_free (c : Ch) : (s.zeroOutputs c).free = s.free := by rfl
@[simp] theorem State.zeroOutputs_pending (c : Ch) : (s.zeroOutputs c).pending = s.pending := by rfl
@[simp] theorem State.zeroOutputs_nv (c : Ch) : (s.zeroOutputs c).nv = s.nv := by rfl
@[simp] theorem State.zeroOutputs_cfg (c : Ch) : (s.zeroOutputs c).cfg = s.cfg := by rfl
@[simp] theorem State.zeroOutputs_counters (c : Ch) : (s.zeroOutputs c).counters = s.counters := by rfl
@[simp] theorem State.zeroOutputs_sluice (c : Ch) : (s.zeroOutputs c).sluice = s.sluice := by rfl
@[simp] theorem State.zeroOutputs_enc (c : Ch) : (s.zeroOutputs c).enc = s.enc := by rfl
@[simp] theorem State.zeroOutputs_cmp (c : Ch) : (s.zeroOutputs c).cmp = s.cmp := by rfl
@[simp] theorem State.zeroOutputs_sup (c : Ch) : (s.zeroOutputs c).sup = s.sup := by rfl
@[simp] theorem State.zeroOutputs_gov (c : Ch) : (s.zeroOutputs c).gov = s.gov := by rfl
@[simp] theorem State.zeroOutputs_housekeepingHigh (c : Ch) : (s.zeroOutputs c).housekeepingHigh = s.housekeepingHigh := by rfl
@[simp] theorem State.zeroOutputs_capture (c : Ch) : (s.zeroOutputs c).capture = s.capture := by rfl
@[simp] theorem State.zeroOutputs_obs (c : Ch) : (s.zeroOutputs c).obs = s.obs := by rfl
@[simp] theorem State.zeroOutputs_cyc (c : Ch) : (s.zeroOutputs c).cyc = s.cyc := by rfl
@[simp] theorem State.zeroOutputs_waiting (c : Ch) : (s.zeroOutputs c).waiting = s.waiting := by rfl
@[simp] theorem State.zeroOutputs_safety (c : Ch) : (s.zeroOutputs c).safety = s.safety := by rfl
@[simp] theorem State.zeroOutputs_io (c : Ch) : (s.zeroOutputs c).io = s.io := by rfl
@[simp] theorem State.zeroOutputs_bus (c : Ch) : (s.zeroOutputs c).bus = s.bus := by rfl
@[simp] theorem State.zeroOutputs_tele (c : Ch) : (s.zeroOutputs c).tele = s.tele := by rfl
@[simp] theorem State.zeroOutputs_cal (c : Ch) : (s.zeroOutputs c).cal = s.cal := by rfl
@[simp] theorem State.zeroOutputs_pair (c : Ch) : (s.zeroOutputs c).pair = s.pair := by rfl
@[simp] theorem State.zeroOutputs_book (c : Ch) : (s.zeroOutputs c).book = s.book := by rfl
@[simp] theorem State.zeroOutputs_maint (c : Ch) : (s.zeroOutputs c).maint = s.maint := by rfl

/-! `State.settlePairs` -/
@[simp] theorem State.settlePairs_ns (d : Door) : (s.settlePairs d).ns = s.ns := by unfold State.settlePairs; split <;> split <;> rfl
@[simp] theorem State.settlePairs_free (d : Door) : (s.settlePairs d).free = s.free := by unfold State.settlePairs; split <;> split <;> rfl
@[simp] theorem State.settlePairs_pending (d : Door) : (s.settlePairs d).pending = s.pending := by unfold State.settlePairs; split <;> split <;> rfl
@[simp] theorem State.settlePairs_nv (d : Door) : (s.settlePairs d).nv = s.nv := by unfold State.settlePairs; split <;> split <;> rfl
@[simp] theorem State.settlePairs_cfg (d : Door) : (s.settlePairs d).cfg = s.cfg := by unfold State.settlePairs; split <;> split <;> rfl
@[simp] theorem State.settlePairs_counters (d : Door) : (s.settlePairs d).counters = s.counters := by unfold State.settlePairs; split <;> split <;> rfl
@[simp] theorem State.settlePairs_sluice (d : Door) : (s.settlePairs d).sluice = s.sluice := by unfold State.settlePairs; split <;> split <;> rfl
@[simp] theorem State.settlePairs_enc (d : Door) : (s.settlePairs d).enc = s.enc := by unfold State.settlePairs; split <;> split <;> rfl
@[simp] theorem State.settlePairs_cmp (d : Door) : (s.settlePairs d).cmp = s.cmp := by unfold State.settlePairs; split <;> split <;> rfl
@[simp] theorem State.settlePairs_sup (d : Door) : (s.settlePairs d).sup = s.sup := by unfold State.settlePairs; split <;> split <;> rfl
@[simp] theorem State.settlePairs_gov (d : Door) : (s.settlePairs d).gov = s.gov := by unfold State.settlePairs; split <;> split <;> rfl
@[simp] theorem State.settlePairs_slot (d : Door) : (s.settlePairs d).slot = s.slot := by unfold State.settlePairs; split <;> split <;> rfl
@[simp] theorem State.settlePairs_housekeepingHigh (d : Door) : (s.settlePairs d).housekeepingHigh = s.housekeepingHigh := by unfold State.settlePairs; split <;> split <;> rfl
@[simp] theorem State.settlePairs_capture (d : Door) : (s.settlePairs d).capture = s.capture := by unfold State.settlePairs; split <;> split <;> rfl
@[simp] theorem State.settlePairs_obs (d : Door) : (s.settlePairs d).obs = s.obs := by unfold State.settlePairs; split <;> split <;> rfl
@[simp] theorem State.settlePairs_cyc (d : Door) : (s.settlePairs d).cyc = s.cyc := by unfold State.settlePairs; split <;> split <;> rfl
@[simp] theorem State.settlePairs_waiting (d : Door) : (s.settlePairs d).waiting = s.waiting := by unfold State.settlePairs; split <;> split <;> rfl
@[simp] theorem State.settlePairs_safety (d : Door) : (s.settlePairs d).safety = s.safety := by unfold State.settlePairs; split <;> split <;> rfl
@[simp] theorem State.settlePairs_io (d : Door) : (s.settlePairs d).io = s.io := by unfold State.settlePairs; split <;> split <;> rfl
@[simp] theorem State.settlePairs_bus (d : Door) : (s.settlePairs d).bus = s.bus := by unfold State.settlePairs; split <;> split <;> rfl
@[simp] theorem State.settlePairs_tele (d : Door) : (s.settlePairs d).tele = s.tele := by unfold State.settlePairs; split <;> split <;> rfl
@[simp] theorem State.settlePairs_cal (d : Door) : (s.settlePairs d).cal = s.cal := by unfold State.settlePairs; split <;> split <;> rfl
@[simp] theorem State.settlePairs_pair (d : Door) : (s.settlePairs d).pair = s.pair := by unfold State.settlePairs; split <;> split <;> rfl
@[simp] theorem State.settlePairs_book (d : Door) : (s.settlePairs d).book = s.book := by unfold State.settlePairs; split <;> split <;> rfl
@[simp] theorem State.settlePairs_maint (d : Door) : (s.settlePairs d).maint = s.maint := by unfold State.settlePairs; split <;> split <;> rfl

/-! `State.endCapture` -/
@[simp] theorem State.endCapture_ns : (s.endCapture).ns = s.ns := by unfold State.endCapture; split <;> rfl
@[simp] theorem State.endCapture_free : (s.endCapture).free = s.free := by unfold State.endCapture; split <;> rfl
@[simp] theorem State.endCapture_pending : (s.endCapture).pending = s.pending := by unfold State.endCapture; split <;> rfl
@[simp] theorem State.endCapture_nv : (s.endCapture).nv = s.nv := by unfold State.endCapture; split <;> rfl
@[simp] theorem State.endCapture_cfg : (s.endCapture).cfg = s.cfg := by unfold State.endCapture; split <;> rfl
@[simp] theorem State.endCapture_counters : (s.endCapture).counters = s.counters := by unfold State.endCapture; split <;> rfl
@[simp] theorem State.endCapture_sluice : (s.endCapture).sluice = s.sluice := by unfold State.endCapture; split <;> rfl
@[simp] theorem State.endCapture_enc : (s.endCapture).enc = s.enc := by unfold State.endCapture; split <;> rfl
@[simp] theorem State.endCapture_cmp : (s.endCapture).cmp = s.cmp := by unfold State.endCapture; split <;> rfl
@[simp] theorem State.endCapture_drv : (s.endCapture).drv = s.drv := by unfold State.endCapture; split <;> rfl
@[simp] theorem State.endCapture_sup : (s.endCapture).sup = s.sup := by unfold State.endCapture; split <;> rfl
@[simp] theorem State.endCapture_gov : (s.endCapture).gov = s.gov := by unfold State.endCapture; split <;> rfl
@[simp] theorem State.endCapture_slot : (s.endCapture).slot = s.slot := by unfold State.endCapture; split <;> rfl
@[simp] theorem State.endCapture_housekeepingHigh : (s.endCapture).housekeepingHigh = s.housekeepingHigh := by unfold State.endCapture; split <;> rfl
@[simp] theorem State.endCapture_obs : (s.endCapture).obs = s.obs := by unfold State.endCapture; split <;> rfl
@[simp] theorem State.endCapture_cyc : (s.endCapture).cyc = s.cyc := by unfold State.endCapture; split <;> rfl
@[simp] theorem State.endCapture_waiting : (s.endCapture).waiting = s.waiting := by unfold State.endCapture; split <;> rfl
@[simp] theorem State.endCapture_safety : (s.endCapture).safety = s.safety := by unfold State.endCapture; split <;> rfl
@[simp] theorem State.endCapture_io : (s.endCapture).io = s.io := by unfold State.endCapture; split <;> rfl
@[simp] theorem State.endCapture_bus : (s.endCapture).bus = s.bus := by unfold State.endCapture; split <;> rfl
@[simp] theorem State.endCapture_tele : (s.endCapture).tele = s.tele := by unfold State.endCapture; split <;> rfl
@[simp] theorem State.endCapture_cal : (s.endCapture).cal = s.cal := by unfold State.endCapture; split <;> rfl
@[simp] theorem State.endCapture_pair : (s.endCapture).pair = s.pair := by unfold State.endCapture; split <;> rfl
@[simp] theorem State.endCapture_book : (s.endCapture).book = s.book := by unfold State.endCapture; split <;> rfl
@[simp] theorem State.endCapture_maint : (s.endCapture).maint = s.maint := by unfold State.endCapture; split <;> rfl

/-! `State.endCaptureOn` -/
@[simp] theorem State.endCaptureOn_ns (d : Door) : (s.endCaptureOn d).ns = s.ns := by unfold State.endCaptureOn; split <;> [split; skip] <;> simp
@[simp] theorem State.endCaptureOn_free (d : Door) : (s.endCaptureOn d).free = s.free := by unfold State.endCaptureOn; split <;> [split; skip] <;> simp
@[simp] theorem State.endCaptureOn_pending (d : Door) : (s.endCaptureOn d).pending = s.pending := by unfold State.endCaptureOn; split <;> [split; skip] <;> simp
@[simp] theorem State.endCaptureOn_nv (d : Door) : (s.endCaptureOn d).nv = s.nv := by unfold State.endCaptureOn; split <;> [split; skip] <;> simp
@[simp] theorem State.endCaptureOn_cfg (d : Door) : (s.endCaptureOn d).cfg = s.cfg := by unfold State.endCaptureOn; split <;> [split; skip] <;> simp
@[simp] theorem State.endCaptureOn_counters (d : Door) : (s.endCaptureOn d).counters = s.counters := by unfold State.endCaptureOn; split <;> [split; skip] <;> simp
@[simp] theorem State.endCaptureOn_sluice (d : Door) : (s.endCaptureOn d).sluice = s.sluice := by unfold State.endCaptureOn; split <;> [split; skip] <;> simp
@[simp] theorem State.endCaptureOn_enc (d : Door) : (s.endCaptureOn d).enc = s.enc := by unfold State.endCaptureOn; split <;> [split; skip] <;> simp
@[simp] theorem State.endCaptureOn_cmp (d : Door) : (s.endCaptureOn d).cmp = s.cmp := by unfold State.endCaptureOn; split <;> [split; skip] <;> simp
@[simp] theorem State.endCaptureOn_drv (d : Door) : (s.endCaptureOn d).drv = s.drv := by unfold State.endCaptureOn; split <;> [split; skip] <;> simp
@[simp] theorem State.endCaptureOn_sup (d : Door) : (s.endCaptureOn d).sup = s.sup := by unfold State.endCaptureOn; split <;> [split; skip] <;> simp
@[simp] theorem State.endCaptureOn_gov (d : Door) : (s.endCaptureOn d).gov = s.gov := by unfold State.endCaptureOn; split <;> [split; skip] <;> simp
@[simp] theorem State.endCaptureOn_slot (d : Door) : (s.endCaptureOn d).slot = s.slot := by unfold State.endCaptureOn; split <;> [split; skip] <;> simp
@[simp] theorem State.endCaptureOn_housekeepingHigh (d : Door) : (s.endCaptureOn d).housekeepingHigh = s.housekeepingHigh := by unfold State.endCaptureOn; split <;> [split; skip] <;> simp
@[simp] theorem State.endCaptureOn_obs (d : Door) : (s.endCaptureOn d).obs = s.obs := by unfold State.endCaptureOn; split <;> [split; skip] <;> simp
@[simp] theorem State.endCaptureOn_cyc (d : Door) : (s.endCaptureOn d).cyc = s.cyc := by unfold State.endCaptureOn; split <;> [split; skip] <;> simp
@[simp] theorem State.endCaptureOn_waiting (d : Door) : (s.endCaptureOn d).waiting = s.waiting := by unfold State.endCaptureOn; split <;> [split; skip] <;> simp
@[simp] theorem State.endCaptureOn_safety (d : Door) : (s.endCaptureOn d).safety = s.safety := by unfold State.endCaptureOn; split <;> [split; skip] <;> simp
@[simp] theorem State.endCaptureOn_io (d : Door) : (s.endCaptureOn d).io = s.io := by unfold State.endCaptureOn; split <;> [split; skip] <;> simp
@[simp] theorem State.endCaptureOn_bus (d : Door) : (s.endCaptureOn d).bus = s.bus := by unfold State.endCaptureOn; split <;> [split; skip] <;> simp
@[simp] theorem State.endCaptureOn_tele (d : Door) : (s.endCaptureOn d).tele = s.tele := by unfold State.endCaptureOn; split <;> [split; skip] <;> simp
@[simp] theorem State.endCaptureOn_cal (d : Door) : (s.endCaptureOn d).cal = s.cal := by unfold State.endCaptureOn; split <;> [split; skip] <;> simp
@[simp] theorem State.endCaptureOn_pair (d : Door) : (s.endCaptureOn d).pair = s.pair := by unfold State.endCaptureOn; split <;> [split; skip] <;> simp
@[simp] theorem State.endCaptureOn_book (d : Door) : (s.endCaptureOn d).book = s.book := by unfold State.endCaptureOn; split <;> [split; skip] <;> simp
@[simp] theorem State.endCaptureOn_maint (d : Door) : (s.endCaptureOn d).maint = s.maint := by unfold State.endCaptureOn; split <;> [split; skip] <;> simp

/-! `State.groupOff` -/
@[simp] theorem State.groupOff_ns (g : Group) : (s.groupOff g).ns = s.ns := by unfold State.groupOff; split <;> simp
@[simp] theorem State.groupOff_free (g : Group) : (s.groupOff g).free = s.free := by unfold State.groupOff; split <;> simp
@[simp] theorem State.groupOff_pending (g : Group) : (s.groupOff g).pending = s.pending := by unfold State.groupOff; split <;> simp
@[simp] theorem State.groupOff_nv (g : Group) : (s.groupOff g).nv = s.nv := by unfold State.groupOff; split <;> simp
@[simp] theorem State.groupOff_cfg (g : Group) : (s.groupOff g).cfg = s.cfg := by unfold State.groupOff; split <;> simp
@[simp] theorem State.groupOff_sluice (g : Group) : (s.groupOff g).sluice = s.sluice := by unfold State.groupOff; split <;> simp
@[simp] theorem State.groupOff_enc (g : Group) : (s.groupOff g).enc = s.enc := by unfold State.groupOff; split <;> simp
@[simp] theorem State.groupOff_cmp (g : Group) : (s.groupOff g).cmp = s.cmp := by unfold State.groupOff; split <;> simp
@[simp] theorem State.groupOff_drv (g : Group) : (s.groupOff g).drv = s.drv := by unfold State.groupOff; split <;> simp
@[simp] theorem State.groupOff_sup (g : Group) : (s.groupOff g).sup = s.sup := by unfold State.groupOff; split <;> simp
@[simp] theorem State.groupOff_gov (g : Group) : (s.groupOff g).gov = s.gov := by unfold State.groupOff; split <;> simp
@[simp] theorem State.groupOff_slot (g : Group) : (s.groupOff g).slot = s.slot := by unfold State.groupOff; split <;> simp
@[simp] theorem State.groupOff_housekeepingHigh (g : Group) : (s.groupOff g).housekeepingHigh = s.housekeepingHigh := by unfold State.groupOff; split <;> simp
@[simp] theorem State.groupOff_capture (g : Group) : (s.groupOff g).capture = s.capture := by unfold State.groupOff; split <;> simp
@[simp] theorem State.groupOff_obs (g : Group) : (s.groupOff g).obs = s.obs := by unfold State.groupOff; split <;> simp
@[simp] theorem State.groupOff_cyc (g : Group) : (s.groupOff g).cyc = s.cyc := by unfold State.groupOff; split <;> simp
@[simp] theorem State.groupOff_waiting (g : Group) : (s.groupOff g).waiting = s.waiting := by unfold State.groupOff; split <;> simp
@[simp] theorem State.groupOff_io (g : Group) : (s.groupOff g).io = s.io := by unfold State.groupOff; split <;> simp
@[simp] theorem State.groupOff_bus (g : Group) : (s.groupOff g).bus = s.bus := by unfold State.groupOff; split <;> simp
@[simp] theorem State.groupOff_tele (g : Group) : (s.groupOff g).tele = s.tele := by unfold State.groupOff; split <;> simp
@[simp] theorem State.groupOff_cal (g : Group) : (s.groupOff g).cal = s.cal := by unfold State.groupOff; split <;> simp
@[simp] theorem State.groupOff_pair (g : Group) : (s.groupOff g).pair = s.pair := by unfold State.groupOff; split <;> simp
@[simp] theorem State.groupOff_maint (g : Group) : (s.groupOff g).maint = s.maint := by unfold State.groupOff; split <;> simp

/-! `State.dropEnable` -/
@[simp] theorem State.dropEnable_ns (ch : SafetyCh) (g : Group) : (s.dropEnable ch g).ns = s.ns := by simp [State.dropEnable]
@[simp] theorem State.dropEnable_free (ch : SafetyCh) (g : Group) : (s.dropEnable ch g).free = s.free := by simp [State.dropEnable]
@[simp] theorem State.dropEnable_pending (ch : SafetyCh) (g : Group) : (s.dropEnable ch g).pending = s.pending := by simp [State.dropEnable]
@[simp] theorem State.dropEnable_nv (ch : SafetyCh) (g : Group) : (s.dropEnable ch g).nv = s.nv := by simp [State.dropEnable]
@[simp] theorem State.dropEnable_cfg (ch : SafetyCh) (g : Group) : (s.dropEnable ch g).cfg = s.cfg := by simp [State.dropEnable]
@[simp] theorem State.dropEnable_counters (ch : SafetyCh) (g : Group) : (s.dropEnable ch g).counters = s.counters := by simp [State.dropEnable]
@[simp] theorem State.dropEnable_sluice (ch : SafetyCh) (g : Group) : (s.dropEnable ch g).sluice = s.sluice := by simp [State.dropEnable]
@[simp] theorem State.dropEnable_enc (ch : SafetyCh) (g : Group) : (s.dropEnable ch g).enc = s.enc := by simp [State.dropEnable]
@[simp] theorem State.dropEnable_cmp (ch : SafetyCh) (g : Group) : (s.dropEnable ch g).cmp = s.cmp := by simp [State.dropEnable]
@[simp] theorem State.dropEnable_drv (ch : SafetyCh) (g : Group) : (s.dropEnable ch g).drv = s.drv := by simp [State.dropEnable]
@[simp] theorem State.dropEnable_sup (ch : SafetyCh) (g : Group) : (s.dropEnable ch g).sup = s.sup := by simp [State.dropEnable]
@[simp] theorem State.dropEnable_gov (ch : SafetyCh) (g : Group) : (s.dropEnable ch g).gov = s.gov := by simp [State.dropEnable]
@[simp] theorem State.dropEnable_slot (ch : SafetyCh) (g : Group) : (s.dropEnable ch g).slot = s.slot := by simp [State.dropEnable]
@[simp] theorem State.dropEnable_housekeepingHigh (ch : SafetyCh) (g : Group) : (s.dropEnable ch g).housekeepingHigh = s.housekeepingHigh := by simp [State.dropEnable]
@[simp] theorem State.dropEnable_capture (ch : SafetyCh) (g : Group) : (s.dropEnable ch g).capture = s.capture := by simp [State.dropEnable]
@[simp] theorem State.dropEnable_obs (ch : SafetyCh) (g : Group) : (s.dropEnable ch g).obs = s.obs := by simp [State.dropEnable]
@[simp] theorem State.dropEnable_cyc (ch : SafetyCh) (g : Group) : (s.dropEnable ch g).cyc = s.cyc := by simp [State.dropEnable]
@[simp] theorem State.dropEnable_waiting (ch : SafetyCh) (g : Group) : (s.dropEnable ch g).waiting = s.waiting := by simp [State.dropEnable]
@[simp] theorem State.dropEnable_io (ch : SafetyCh) (g : Group) : (s.dropEnable ch g).io = s.io := by simp [State.dropEnable]
@[simp] theorem State.dropEnable_bus (ch : SafetyCh) (g : Group) : (s.dropEnable ch g).bus = s.bus := by simp [State.dropEnable]
@[simp] theorem State.dropEnable_tele (ch : SafetyCh) (g : Group) : (s.dropEnable ch g).tele = s.tele := by simp [State.dropEnable]
@[simp] theorem State.dropEnable_cal (ch : SafetyCh) (g : Group) : (s.dropEnable ch g).cal = s.cal := by simp [State.dropEnable]
@[simp] theorem State.dropEnable_pair (ch : SafetyCh) (g : Group) : (s.dropEnable ch g).pair = s.pair := by simp [State.dropEnable]
@[simp] theorem State.dropEnable_book (ch : SafetyCh) (g : Group) : (s.dropEnable ch g).book = s.book := by simp [State.dropEnable]
@[simp] theorem State.dropEnable_maint (ch : SafetyCh) (g : Group) : (s.dropEnable ch g).maint = s.maint := by simp [State.dropEnable]

/-! `State.driveLs` -/
@[simp] theorem State.driveLs_ns (n : Ls) : (s.driveLs n).ns = s.ns := by unfold State.driveLs; split <;> rfl
@[simp] theorem State.driveLs_free (n : Ls) : (s.driveLs n).free = s.free := by unfold State.driveLs; split <;> rfl
@[simp] theorem State.driveLs_pending (n : Ls) : (s.driveLs n).pending = s.pending := by unfold State.driveLs; split <;> rfl
@[simp] theorem State.driveLs_nv (n : Ls) : (s.driveLs n).nv = s.nv := by unfold State.driveLs; split <;> rfl
@[simp] theorem State.driveLs_cfg (n : Ls) : (s.driveLs n).cfg = s.cfg := by unfold State.driveLs; split <;> rfl
@[simp] theorem State.driveLs_counters (n : Ls) : (s.driveLs n).counters = s.counters := by unfold State.driveLs; split <;> rfl
@[simp] theorem State.driveLs_sluice (n : Ls) : (s.driveLs n).sluice = s.sluice := by unfold State.driveLs; split <;> rfl
@[simp] theorem State.driveLs_enc (n : Ls) : (s.driveLs n).enc = s.enc := by unfold State.driveLs; split <;> rfl
@[simp] theorem State.driveLs_cmp (n : Ls) : (s.driveLs n).cmp = s.cmp := by unfold State.driveLs; split <;> rfl
@[simp] theorem State.driveLs_drv (n : Ls) : (s.driveLs n).drv = s.drv := by unfold State.driveLs; split <;> rfl
@[simp] theorem State.driveLs_sup (n : Ls) : (s.driveLs n).sup = s.sup := by unfold State.driveLs; split <;> rfl
@[simp] theorem State.driveLs_gov (n : Ls) : (s.driveLs n).gov = s.gov := by unfold State.driveLs; split <;> rfl
@[simp] theorem State.driveLs_slot (n : Ls) : (s.driveLs n).slot = s.slot := by unfold State.driveLs; split <;> rfl
@[simp] theorem State.driveLs_housekeepingHigh (n : Ls) : (s.driveLs n).housekeepingHigh = s.housekeepingHigh := by unfold State.driveLs; split <;> rfl
@[simp] theorem State.driveLs_capture (n : Ls) : (s.driveLs n).capture = s.capture := by unfold State.driveLs; split <;> rfl
@[simp] theorem State.driveLs_obs (n : Ls) : (s.driveLs n).obs = s.obs := by unfold State.driveLs; split <;> rfl
@[simp] theorem State.driveLs_cyc (n : Ls) : (s.driveLs n).cyc = s.cyc := by unfold State.driveLs; split <;> rfl
@[simp] theorem State.driveLs_waiting (n : Ls) : (s.driveLs n).waiting = s.waiting := by unfold State.driveLs; split <;> rfl
@[simp] theorem State.driveLs_safety (n : Ls) : (s.driveLs n).safety = s.safety := by unfold State.driveLs; split <;> rfl
@[simp] theorem State.driveLs_bus (n : Ls) : (s.driveLs n).bus = s.bus := by unfold State.driveLs; split <;> rfl
@[simp] theorem State.driveLs_tele (n : Ls) : (s.driveLs n).tele = s.tele := by unfold State.driveLs; split <;> rfl
@[simp] theorem State.driveLs_cal (n : Ls) : (s.driveLs n).cal = s.cal := by unfold State.driveLs; split <;> rfl
@[simp] theorem State.driveLs_pair (n : Ls) : (s.driveLs n).pair = s.pair := by unfold State.driveLs; split <;> rfl
@[simp] theorem State.driveLs_book (n : Ls) : (s.driveLs n).book = s.book := by unfold State.driveLs; split <;> rfl
@[simp] theorem State.driveLs_maint (n : Ls) : (s.driveLs n).maint = s.maint := by unfold State.driveLs; split <;> rfl

/-! `State.driveDo` -/
@[simp] theorem State.driveDo_ns (n : Dout) : (s.driveDo n).ns = s.ns := by unfold State.driveDo; split <;> rfl
@[simp] theorem State.driveDo_free (n : Dout) : (s.driveDo n).free = s.free := by unfold State.driveDo; split <;> rfl
@[simp] theorem State.driveDo_pending (n : Dout) : (s.driveDo n).pending = s.pending := by unfold State.driveDo; split <;> rfl
@[simp] theorem State.driveDo_nv (n : Dout) : (s.driveDo n).nv = s.nv := by unfold State.driveDo; split <;> rfl
@[simp] theorem State.driveDo_cfg (n : Dout) : (s.driveDo n).cfg = s.cfg := by unfold State.driveDo; split <;> rfl
@[simp] theorem State.driveDo_counters (n : Dout) : (s.driveDo n).counters = s.counters := by unfold State.driveDo; split <;> rfl
@[simp] theorem State.driveDo_sluice (n : Dout) : (s.driveDo n).sluice = s.sluice := by unfold State.driveDo; split <;> rfl
@[simp] theorem State.driveDo_enc (n : Dout) : (s.driveDo n).enc = s.enc := by unfold State.driveDo; split <;> rfl
@[simp] theorem State.driveDo_cmp (n : Dout) : (s.driveDo n).cmp = s.cmp := by unfold State.driveDo; split <;> rfl
@[simp] theorem State.driveDo_drv (n : Dout) : (s.driveDo n).drv = s.drv := by unfold State.driveDo; split <;> rfl
@[simp] theorem State.driveDo_sup (n : Dout) : (s.driveDo n).sup = s.sup := by unfold State.driveDo; split <;> rfl
@[simp] theorem State.driveDo_gov (n : Dout) : (s.driveDo n).gov = s.gov := by unfold State.driveDo; split <;> rfl
@[simp] theorem State.driveDo_slot (n : Dout) : (s.driveDo n).slot = s.slot := by unfold State.driveDo; split <;> rfl
@[simp] theorem State.driveDo_housekeepingHigh (n : Dout) : (s.driveDo n).housekeepingHigh = s.housekeepingHigh := by unfold State.driveDo; split <;> rfl
@[simp] theorem State.driveDo_capture (n : Dout) : (s.driveDo n).capture = s.capture := by unfold State.driveDo; split <;> rfl
@[simp] theorem State.driveDo_obs (n : Dout) : (s.driveDo n).obs = s.obs := by unfold State.driveDo; split <;> rfl
@[simp] theorem State.driveDo_cyc (n : Dout) : (s.driveDo n).cyc = s.cyc := by unfold State.driveDo; split <;> rfl
@[simp] theorem State.driveDo_waiting (n : Dout) : (s.driveDo n).waiting = s.waiting := by unfold State.driveDo; split <;> rfl
@[simp] theorem State.driveDo_safety (n : Dout) : (s.driveDo n).safety = s.safety := by unfold State.driveDo; split <;> rfl
@[simp] theorem State.driveDo_bus (n : Dout) : (s.driveDo n).bus = s.bus := by unfold State.driveDo; split <;> rfl
@[simp] theorem State.driveDo_tele (n : Dout) : (s.driveDo n).tele = s.tele := by unfold State.driveDo; split <;> rfl
@[simp] theorem State.driveDo_cal (n : Dout) : (s.driveDo n).cal = s.cal := by unfold State.driveDo; split <;> rfl
@[simp] theorem State.driveDo_pair (n : Dout) : (s.driveDo n).pair = s.pair := by unfold State.driveDo; split <;> rfl
@[simp] theorem State.driveDo_book (n : Dout) : (s.driveDo n).book = s.book := by unfold State.driveDo; split <;> rfl
@[simp] theorem State.driveDo_maint (n : Dout) : (s.driveDo n).maint = s.maint := by unfold State.driveDo; split <;> rfl

/-! `State.commandLs` -/
@[simp] theorem State.commandLs_ns (n : Ls) (v : Bool) (duty : Nat) : (s.commandLs n v duty).ns = s.ns := by simp [State.commandLs]
@[simp] theorem State.commandLs_free (n : Ls) (v : Bool) (duty : Nat) : (s.commandLs n v duty).free = s.free := by simp [State.commandLs]
@[simp] theorem State.commandLs_pending (n : Ls) (v : Bool) (duty : Nat) : (s.commandLs n v duty).pending = s.pending := by simp [State.commandLs]
@[simp] theorem State.commandLs_nv (n : Ls) (v : Bool) (duty : Nat) : (s.commandLs n v duty).nv = s.nv := by simp [State.commandLs]
@[simp] theorem State.commandLs_cfg (n : Ls) (v : Bool) (duty : Nat) : (s.commandLs n v duty).cfg = s.cfg := by simp [State.commandLs]
@[simp] theorem State.commandLs_counters (n : Ls) (v : Bool) (duty : Nat) : (s.commandLs n v duty).counters = s.counters := by simp [State.commandLs]
@[simp] theorem State.commandLs_sluice (n : Ls) (v : Bool) (duty : Nat) : (s.commandLs n v duty).sluice = s.sluice := by simp [State.commandLs]
@[simp] theorem State.commandLs_enc (n : Ls) (v : Bool) (duty : Nat) : (s.commandLs n v duty).enc = s.enc := by simp [State.commandLs]
@[simp] theorem State.commandLs_cmp (n : Ls) (v : Bool) (duty : Nat) : (s.commandLs n v duty).cmp = s.cmp := by simp [State.commandLs]
@[simp] theorem State.commandLs_drv (n : Ls) (v : Bool) (duty : Nat) : (s.commandLs n v duty).drv = s.drv := by simp [State.commandLs]
@[simp] theorem State.commandLs_sup (n : Ls) (v : Bool) (duty : Nat) : (s.commandLs n v duty).sup = s.sup := by simp [State.commandLs]
@[simp] theorem State.commandLs_gov (n : Ls) (v : Bool) (duty : Nat) : (s.commandLs n v duty).gov = s.gov := by simp [State.commandLs]
@[simp] theorem State.commandLs_slot (n : Ls) (v : Bool) (duty : Nat) : (s.commandLs n v duty).slot = s.slot := by simp [State.commandLs]
@[simp] theorem State.commandLs_housekeepingHigh (n : Ls) (v : Bool) (duty : Nat) : (s.commandLs n v duty).housekeepingHigh = s.housekeepingHigh := by simp [State.commandLs]
@[simp] theorem State.commandLs_capture (n : Ls) (v : Bool) (duty : Nat) : (s.commandLs n v duty).capture = s.capture := by simp [State.commandLs]
@[simp] theorem State.commandLs_obs (n : Ls) (v : Bool) (duty : Nat) : (s.commandLs n v duty).obs = s.obs := by simp [State.commandLs]
@[simp] theorem State.commandLs_cyc (n : Ls) (v : Bool) (duty : Nat) : (s.commandLs n v duty).cyc = s.cyc := by simp [State.commandLs]
@[simp] theorem State.commandLs_waiting (n : Ls) (v : Bool) (duty : Nat) : (s.commandLs n v duty).waiting = s.waiting := by simp [State.commandLs]
@[simp] theorem State.commandLs_safety (n : Ls) (v : Bool) (duty : Nat) : (s.commandLs n v duty).safety = s.safety := by simp [State.commandLs]
@[simp] theorem State.commandLs_bus (n : Ls) (v : Bool) (duty : Nat) : (s.commandLs n v duty).bus = s.bus := by simp [State.commandLs]
@[simp] theorem State.commandLs_tele (n : Ls) (v : Bool) (duty : Nat) : (s.commandLs n v duty).tele = s.tele := by simp [State.commandLs]
@[simp] theorem State.commandLs_cal (n : Ls) (v : Bool) (duty : Nat) : (s.commandLs n v duty).cal = s.cal := by simp [State.commandLs]
@[simp] theorem State.commandLs_pair (n : Ls) (v : Bool) (duty : Nat) : (s.commandLs n v duty).pair = s.pair := by simp [State.commandLs]
@[simp] theorem State.commandLs_book (n : Ls) (v : Bool) (duty : Nat) : (s.commandLs n v duty).book = s.book := by simp [State.commandLs]
@[simp] theorem State.commandLs_maint (n : Ls) (v : Bool) (duty : Nat) : (s.commandLs n v duty).maint = s.maint := by simp [State.commandLs]

/-! `State.takeToken'` -/
@[simp] theorem State.takeToken'_ns : (s.takeToken').ns = s.ns := rfl
@[simp] theorem State.takeToken'_free : (s.takeToken').free = s.free := rfl
@[simp] theorem State.takeToken'_pending : (s.takeToken').pending = s.pending := rfl
@[simp] theorem State.takeToken'_nv : (s.takeToken').nv = s.nv := rfl
@[simp] theorem State.takeToken'_cfg : (s.takeToken').cfg = s.cfg := rfl
@[simp] theorem State.takeToken'_counters : (s.takeToken').counters = s.counters := rfl
@[simp] theorem State.takeToken'_sluice : (s.takeToken').sluice = s.sluice := rfl
@[simp] theorem State.takeToken'_enc : (s.takeToken').enc = s.enc := rfl
@[simp] theorem State.takeToken'_cmp : (s.takeToken').cmp = s.cmp := rfl
@[simp] theorem State.takeToken'_drv : (s.takeToken').drv = s.drv := rfl
@[simp] theorem State.takeToken'_sup : (s.takeToken').sup = s.sup := rfl
@[simp] theorem State.takeToken'_gov : (s.takeToken').gov = s.gov := rfl
@[simp] theorem State.takeToken'_slot : (s.takeToken').slot = s.slot := rfl
@[simp] theorem State.takeToken'_housekeepingHigh : (s.takeToken').housekeepingHigh = s.housekeepingHigh := rfl
@[simp] theorem State.takeToken'_capture : (s.takeToken').capture = s.capture := rfl
@[simp] theorem State.takeToken'_obs : (s.takeToken').obs = s.obs := rfl
@[simp] theorem State.takeToken'_cyc : (s.takeToken').cyc = s.cyc := rfl
@[simp] theorem State.takeToken'_waiting : (s.takeToken').waiting = s.waiting := rfl
@[simp] theorem State.takeToken'_io : (s.takeToken').io = s.io := rfl
@[simp] theorem State.takeToken'_bus : (s.takeToken').bus = s.bus := rfl
@[simp] theorem State.takeToken'_tele : (s.takeToken').tele = s.tele := rfl
@[simp] theorem State.takeToken'_cal : (s.takeToken').cal = s.cal := rfl
@[simp] theorem State.takeToken'_book : (s.takeToken').book = s.book := rfl
@[simp] theorem State.takeToken'_maint : (s.takeToken').maint = s.maint := rfl

/-! `State.setSession` -/
@[simp] theorem State.setSession_ns (x : Session) : (s.setSession x).ns = s.ns := rfl
@[simp] theorem State.setSession_free (x : Session) : (s.setSession x).free = s.free := rfl
@[simp] theorem State.setSession_pending (x : Session) : (s.setSession x).pending = s.pending := rfl
@[simp] theorem State.setSession_nv (x : Session) : (s.setSession x).nv = s.nv := rfl
@[simp] theorem State.setSession_cfg (x : Session) : (s.setSession x).cfg = s.cfg := rfl
@[simp] theorem State.setSession_counters (x : Session) : (s.setSession x).counters = s.counters := rfl
@[simp] theorem State.setSession_sluice (x : Session) : (s.setSession x).sluice = s.sluice := rfl
@[simp] theorem State.setSession_enc (x : Session) : (s.setSession x).enc = s.enc := rfl
@[simp] theorem State.setSession_cmp (x : Session) : (s.setSession x).cmp = s.cmp := rfl
@[simp] theorem State.setSession_drv (x : Session) : (s.setSession x).drv = s.drv := rfl
@[simp] theorem State.setSession_sup (x : Session) : (s.setSession x).sup = s.sup := rfl
@[simp] theorem State.setSession_gov (x : Session) : (s.setSession x).gov = s.gov := rfl
@[simp] theorem State.setSession_slot (x : Session) : (s.setSession x).slot = s.slot := rfl
@[simp] theorem State.setSession_housekeepingHigh (x : Session) : (s.setSession x).housekeepingHigh = s.housekeepingHigh := rfl
@[simp] theorem State.setSession_capture (x : Session) : (s.setSession x).capture = s.capture := rfl
@[simp] theorem State.setSession_obs (x : Session) : (s.setSession x).obs = s.obs := rfl
@[simp] theorem State.setSession_cyc (x : Session) : (s.setSession x).cyc = s.cyc := rfl
@[simp] theorem State.setSession_waiting (x : Session) : (s.setSession x).waiting = s.waiting := rfl
@[simp] theorem State.setSession_safety (x : Session) : (s.setSession x).safety = s.safety := rfl
@[simp] theorem State.setSession_io (x : Session) : (s.setSession x).io = s.io := rfl
@[simp] theorem State.setSession_bus (x : Session) : (s.setSession x).bus = s.bus := rfl
@[simp] theorem State.setSession_tele (x : Session) : (s.setSession x).tele = s.tele := rfl
@[simp] theorem State.setSession_cal (x : Session) : (s.setSession x).cal = s.cal := rfl
@[simp] theorem State.setSession_pair (x : Session) : (s.setSession x).pair = s.pair := rfl
@[simp] theorem State.setSession_book (x : Session) : (s.setSession x).book = s.book := rfl

/-! `State.hear` -/
@[simp] theorem State.hear_ns (k : Nat) : (s.hear k).ns = s.ns := rfl
@[simp] theorem State.hear_free (k : Nat) : (s.hear k).free = s.free := rfl
@[simp] theorem State.hear_pending (k : Nat) : (s.hear k).pending = s.pending := rfl
@[simp] theorem State.hear_nv (k : Nat) : (s.hear k).nv = s.nv := rfl
@[simp] theorem State.hear_cfg (k : Nat) : (s.hear k).cfg = s.cfg := rfl
@[simp] theorem State.hear_counters (k : Nat) : (s.hear k).counters = s.counters := rfl
@[simp] theorem State.hear_sluice (k : Nat) : (s.hear k).sluice = s.sluice := rfl
@[simp] theorem State.hear_enc (k : Nat) : (s.hear k).enc = s.enc := rfl
@[simp] theorem State.hear_cmp (k : Nat) : (s.hear k).cmp = s.cmp := rfl
@[simp] theorem State.hear_drv (k : Nat) : (s.hear k).drv = s.drv := rfl
@[simp] theorem State.hear_sup (k : Nat) : (s.hear k).sup = s.sup := rfl
@[simp] theorem State.hear_gov (k : Nat) : (s.hear k).gov = s.gov := rfl
@[simp] theorem State.hear_slot (k : Nat) : (s.hear k).slot = s.slot := rfl
@[simp] theorem State.hear_housekeepingHigh (k : Nat) : (s.hear k).housekeepingHigh = s.housekeepingHigh := rfl
@[simp] theorem State.hear_capture (k : Nat) : (s.hear k).capture = s.capture := rfl
@[simp] theorem State.hear_obs (k : Nat) : (s.hear k).obs = s.obs := rfl
@[simp] theorem State.hear_cyc (k : Nat) : (s.hear k).cyc = s.cyc := rfl
@[simp] theorem State.hear_waiting (k : Nat) : (s.hear k).waiting = s.waiting := rfl
@[simp] theorem State.hear_safety (k : Nat) : (s.hear k).safety = s.safety := rfl
@[simp] theorem State.hear_io (k : Nat) : (s.hear k).io = s.io := rfl
@[simp] theorem State.hear_bus (k : Nat) : (s.hear k).bus = s.bus := rfl
@[simp] theorem State.hear_tele (k : Nat) : (s.hear k).tele = s.tele := rfl
@[simp] theorem State.hear_cal (k : Nat) : (s.hear k).cal = s.cal := rfl
@[simp] theorem State.hear_pair (k : Nat) : (s.hear k).pair = s.pair := rfl
@[simp] theorem State.hear_book (k : Nat) : (s.hear k).book = s.book := rfl

/-! `State.reply` -/
@[simp] theorem State.reply_ns (m : Msg) (r : Nat) (p : List Byte) : (s.reply m r p).ns = s.ns := rfl
@[simp] theorem State.reply_free (m : Msg) (r : Nat) (p : List Byte) : (s.reply m r p).free = s.free := rfl
@[simp] theorem State.reply_pending (m : Msg) (r : Nat) (p : List Byte) : (s.reply m r p).pending = s.pending := rfl
@[simp] theorem State.reply_nv (m : Msg) (r : Nat) (p : List Byte) : (s.reply m r p).nv = s.nv := rfl
@[simp] theorem State.reply_cfg (m : Msg) (r : Nat) (p : List Byte) : (s.reply m r p).cfg = s.cfg := rfl
@[simp] theorem State.reply_counters (m : Msg) (r : Nat) (p : List Byte) : (s.reply m r p).counters = s.counters := rfl
@[simp] theorem State.reply_sluice (m : Msg) (r : Nat) (p : List Byte) : (s.reply m r p).sluice = s.sluice := rfl
@[simp] theorem State.reply_enc (m : Msg) (r : Nat) (p : List Byte) : (s.reply m r p).enc = s.enc := rfl
@[simp] theorem State.reply_cmp (m : Msg) (r : Nat) (p : List Byte) : (s.reply m r p).cmp = s.cmp := rfl
@[simp] theorem State.reply_drv (m : Msg) (r : Nat) (p : List Byte) : (s.reply m r p).drv = s.drv := rfl
@[simp] theorem State.reply_sup (m : Msg) (r : Nat) (p : List Byte) : (s.reply m r p).sup = s.sup := rfl
@[simp] theorem State.reply_gov (m : Msg) (r : Nat) (p : List Byte) : (s.reply m r p).gov = s.gov := rfl
@[simp] theorem State.reply_slot (m : Msg) (r : Nat) (p : List Byte) : (s.reply m r p).slot = s.slot := rfl
@[simp] theorem State.reply_housekeepingHigh (m : Msg) (r : Nat) (p : List Byte) : (s.reply m r p).housekeepingHigh = s.housekeepingHigh := rfl
@[simp] theorem State.reply_capture (m : Msg) (r : Nat) (p : List Byte) : (s.reply m r p).capture = s.capture := rfl
@[simp] theorem State.reply_obs (m : Msg) (r : Nat) (p : List Byte) : (s.reply m r p).obs = s.obs := rfl
@[simp] theorem State.reply_cyc (m : Msg) (r : Nat) (p : List Byte) : (s.reply m r p).cyc = s.cyc := rfl
@[simp] theorem State.reply_waiting (m : Msg) (r : Nat) (p : List Byte) : (s.reply m r p).waiting = s.waiting := rfl
@[simp] theorem State.reply_safety (m : Msg) (r : Nat) (p : List Byte) : (s.reply m r p).safety = s.safety := rfl
@[simp] theorem State.reply_io (m : Msg) (r : Nat) (p : List Byte) : (s.reply m r p).io = s.io := rfl
@[simp] theorem State.reply_bus (m : Msg) (r : Nat) (p : List Byte) : (s.reply m r p).bus = s.bus := rfl
@[simp] theorem State.reply_tele (m : Msg) (r : Nat) (p : List Byte) : (s.reply m r p).tele = s.tele := rfl
@[simp] theorem State.reply_cal (m : Msg) (r : Nat) (p : List Byte) : (s.reply m r p).cal = s.cal := rfl
@[simp] theorem State.reply_pair (m : Msg) (r : Nat) (p : List Byte) : (s.reply m r p).pair = s.pair := rfl
@[simp] theorem State.reply_book (m : Msg) (r : Nat) (p : List Byte) : (s.reply m r p).book = s.book := rfl

/-! `State.outcome` -/
@[simp] theorem State.outcome_ns (k : MaintKind) (n : Nat) : (s.outcome k n).ns = s.ns := rfl
@[simp] theorem State.outcome_free (k : MaintKind) (n : Nat) : (s.outcome k n).free = s.free := rfl
@[simp] theorem State.outcome_pending (k : MaintKind) (n : Nat) : (s.outcome k n).pending = s.pending := rfl
@[simp] theorem State.outcome_nv (k : MaintKind) (n : Nat) : (s.outcome k n).nv = s.nv := rfl
@[simp] theorem State.outcome_cfg (k : MaintKind) (n : Nat) : (s.outcome k n).cfg = s.cfg := rfl
@[simp] theorem State.outcome_counters (k : MaintKind) (n : Nat) : (s.outcome k n).counters = s.counters := rfl
@[simp] theorem State.outcome_sluice (k : MaintKind) (n : Nat) : (s.outcome k n).sluice = s.sluice := rfl
@[simp] theorem State.outcome_enc (k : MaintKind) (n : Nat) : (s.outcome k n).enc = s.enc := rfl
@[simp] theorem State.outcome_cmp (k : MaintKind) (n : Nat) : (s.outcome k n).cmp = s.cmp := rfl
@[simp] theorem State.outcome_drv (k : MaintKind) (n : Nat) : (s.outcome k n).drv = s.drv := rfl
@[simp] theorem State.outcome_sup (k : MaintKind) (n : Nat) : (s.outcome k n).sup = s.sup := rfl
@[simp] theorem State.outcome_gov (k : MaintKind) (n : Nat) : (s.outcome k n).gov = s.gov := rfl
@[simp] theorem State.outcome_slot (k : MaintKind) (n : Nat) : (s.outcome k n).slot = s.slot := rfl
@[simp] theorem State.outcome_housekeepingHigh (k : MaintKind) (n : Nat) : (s.outcome k n).housekeepingHigh = s.housekeepingHigh := rfl
@[simp] theorem State.outcome_capture (k : MaintKind) (n : Nat) : (s.outcome k n).capture = s.capture := rfl
@[simp] theorem State.outcome_obs (k : MaintKind) (n : Nat) : (s.outcome k n).obs = s.obs := rfl
@[simp] theorem State.outcome_cyc (k : MaintKind) (n : Nat) : (s.outcome k n).cyc = s.cyc := rfl
@[simp] theorem State.outcome_waiting (k : MaintKind) (n : Nat) : (s.outcome k n).waiting = s.waiting := rfl
@[simp] theorem State.outcome_safety (k : MaintKind) (n : Nat) : (s.outcome k n).safety = s.safety := rfl
@[simp] theorem State.outcome_io (k : MaintKind) (n : Nat) : (s.outcome k n).io = s.io := rfl
@[simp] theorem State.outcome_bus (k : MaintKind) (n : Nat) : (s.outcome k n).bus = s.bus := rfl
@[simp] theorem State.outcome_tele (k : MaintKind) (n : Nat) : (s.outcome k n).tele = s.tele := rfl
@[simp] theorem State.outcome_cal (k : MaintKind) (n : Nat) : (s.outcome k n).cal = s.cal := rfl
@[simp] theorem State.outcome_pair (k : MaintKind) (n : Nat) : (s.outcome k n).pair = s.pair := rfl
@[simp] theorem State.outcome_book (k : MaintKind) (n : Nat) : (s.outcome k n).book = s.book := rfl

/-! What an update of one entry leaves in that entry and in the others. -/
@[simp] theorem State.modEnc_enc_same (c : Ch) (f : Enc → Enc) : (s.modEnc c f).enc[c.1] = f s.enc[c.1] := by
  simp [State.modEnc]
theorem State.modEnc_enc_other (c k : Ch) (f : Enc → Enc) (h : k ≠ c) : (s.modEnc c f).enc[k.1] = s.enc[k.1] := by
  simp [State.modEnc, Fin.val_ne_of_ne (Ne.symm h)]
@[simp] theorem State.modSlot_slot_same (c : Ch) (f : Slot → Slot) : (s.modSlot c f).slot[c.1] = f s.slot[c.1] := by
  simp [State.modSlot]
theorem State.modSlot_slot_other (c k : Ch) (f : Slot → Slot) (h : k ≠ c) : (s.modSlot c f).slot[k.1] = s.slot[k.1] := by
  simp [State.modSlot, Fin.val_ne_of_ne (Ne.symm h)]
@[simp] theorem State.modCmp_cmp_same (c : Door) (f : Cmp → Cmp) : (s.modCmp c f).cmp[c.1] = f s.cmp[c.1] := by
  simp [State.modCmp]
theorem State.modCmp_cmp_other (c k : Door) (f : Cmp → Cmp) (h : k ≠ c) : (s.modCmp c f).cmp[k.1] = s.cmp[k.1] := by
  simp [State.modCmp, Fin.val_ne_of_ne (Ne.symm h)]
@[simp] theorem State.modDrv_drv_same (c : Door) (f : Drv → Drv) : (s.modDrv c f).drv[c.1] = f s.drv[c.1] := by
  simp [State.modDrv]
theorem State.modDrv_drv_other (c k : Door) (f : Drv → Drv) (h : k ≠ c) : (s.modDrv c f).drv[k.1] = s.drv[k.1] := by
  simp [State.modDrv, Fin.val_ne_of_ne (Ne.symm h)]
@[simp] theorem State.modObs_obs_same (c : Door) (f : Obs → Obs) : (s.modObs c f).obs[c.1] = f s.obs[c.1] := by
  simp [State.modObs]
theorem State.modObs_obs_other (c k : Door) (f : Obs → Obs) (h : k ≠ c) : (s.modObs c f).obs[k.1] = s.obs[k.1] := by
  simp [State.modObs, Fin.val_ne_of_ne (Ne.symm h)]
@[simp] theorem State.modCyc_cyc_same (c : Door) (f : Cyc → Cyc) : (s.modCyc c f).cyc[c.1] = f s.cyc[c.1] := by
  simp [State.modCyc]
theorem State.modCyc_cyc_other (c k : Door) (f : Cyc → Cyc) (h : k ≠ c) : (s.modCyc c f).cyc[k.1] = s.cyc[k.1] := by
  simp [State.modCyc, Fin.val_ne_of_ne (Ne.symm h)]
@[simp] theorem State.modBus_bus_same (c : BusId) (f : BusSt → BusSt) : (s.modBus c f).bus[c.1] = f s.bus[c.1] := by
  simp [State.modBus]
theorem State.modBus_bus_other (c k : BusId) (f : BusSt → BusSt) (h : k ≠ c) : (s.modBus c f).bus[k.1] = s.bus[k.1] := by
  simp [State.modBus, Fin.val_ne_of_ne (Ne.symm h)]
@[simp] theorem State.modGrp_grp_same (c : Group) (f : Grp → Grp) : (s.modGrp c f).safety.grp[c.1] = f s.safety.grp[c.1] := by
  simp [State.modGrp]
theorem State.modGrp_grp_other (c k : Group) (f : Grp → Grp) (h : k ≠ c) : (s.modGrp c f).safety.grp[k.1] = s.safety.grp[k.1] := by
  simp [State.modGrp, Fin.val_ne_of_ne (Ne.symm h)]
@[simp] theorem State.modDout_dout_same (c : Dout) (f : DoutSt → DoutSt) : (s.modDout c f).io.dout[c.1] = f s.io.dout[c.1] := by
  simp [State.modDout]
theorem State.modDout_dout_other (c k : Dout) (f : DoutSt → DoutSt) (h : k ≠ c) : (s.modDout c f).io.dout[k.1] = s.io.dout[k.1] := by
  simp [State.modDout, Fin.val_ne_of_ne (Ne.symm h)]
@[simp] theorem State.modLs_ls_same (c : Ls) (f : LsSt → LsSt) : (s.modLs c f).io.ls[c.1] = f s.io.ls[c.1] := by
  simp [State.modLs]
theorem State.modLs_ls_other (c k : Ls) (f : LsSt → LsSt) (h : k ≠ c) : (s.modLs c f).io.ls[k.1] = s.io.ls[k.1] := by
  simp [State.modLs, Fin.val_ne_of_ne (Ne.symm h)]
@[simp] theorem State.modFi_fi_same (c : Fi) (f : InSt → InSt) : (s.modFi c f).io.fi[c.1] = f s.io.fi[c.1] := by
  simp [State.modFi]
theorem State.modFi_fi_other (c k : Fi) (f : InSt → InSt) (h : k ≠ c) : (s.modFi c f).io.fi[k.1] = s.io.fi[k.1] := by
  simp [State.modFi, Fin.val_ne_of_ne (Ne.symm h)]

end Sys2Proof.Machine
end

