-- ==== Sys2Proof/Laws/Ops.lean ====
section
/-!
SUPPORT. Sys2Proof/Laws/Ops.lean: what the shared operations of Machine/Ops.lean can do: walks over doorways and channels, the
sparse maps, the plug's bytes and their canonical form, the outputs, the token and the loop groups.
-/
namespace Sys2Proof.Machine

/-! ## Walks -/

/-- What every step of a fold keeps, the fold keeps. -/
theorem foldl_keep {α β γ : Type} (P : β → γ) (f : β → α → β) (l : List α) (h : ∀ b a, P (f b a) = P b) (b : β) :
    P (l.foldl f b) = P b := by
  induction l generalizing b with
  | nil => rfl
  | cons a r ih => rw [List.foldl_cons, ih, h]

/-- What every step of a fold preserves, the fold preserves. -/
theorem foldl_inv {α β : Type} (P : β → Prop) (f : β → α → β) (l : List α) (h : ∀ b a, P b → P (f b a)) (b : β) (hb : P b) :
    P (l.foldl f b) := by
  induction l generalizing b with
  | nil => exact hb
  | cons a r ih => exact ih _ (h _ _ hb)

theorem State.eachDoor_keep {γ : Type} (P : State → γ) (f : State → Door → State) (h : ∀ s d, P (f s d) = P s) (s : State) :
    P (s.eachDoor f) = P s := foldl_keep P f _ h s

theorem State.eachCh_keep {γ : Type} (P : State → γ) (f : State → Ch → State) (h : ∀ s c, P (f s c) = P s) (s : State) :
    P (s.eachCh f) = P s := foldl_keep P f _ h s

theorem State.eachDoor_inv (P : State → Prop) (f : State → Door → State) (h : ∀ s d, P s → P (f s d)) (s : State) (hs : P s) :
    P (s.eachDoor f) := foldl_inv P f _ h s hs

theorem State.eachCh_inv (P : State → Prop) (f : State → Ch → State) (h : ∀ s c, P s → P (f s c)) (s : State) (hs : P s) :
    P (s.eachCh f) := foldl_inv P f _ h s hs

/-! ## Clock and counters -/

@[simp] theorem State.at_ns (s : State) (t : Nat) : (s.at t).ns = max s.ns t := rfl

/-- Keys of a map rise strictly from a bound. -/
def Rising {α : Type} : Nat → List (Nat × α) → Prop
  | _, [] => True
  | lo, (k, _) :: r => lo ≤ k ∧ Rising (k + 1) r

theorem Rising.mono {α : Type} {l : List (Nat × α)} {a b : Nat} (h : a ≤ b) (hb : Rising b l) : Rising a l := by
  cases l with
  | nil => trivial
  | cons p r => exact ⟨le_trans h hb.1, hb.2⟩

theorem mapGet_below {α : Type} {l : List (Nat × α)} {lo k : Nat} (h : Rising lo l) (hk : k < lo) : mapGet k l = none := by
  induction l generalizing lo with
  | nil => rfl
  | cons p r ih =>
    have hp := h.1
    rw [mapGet, if_neg (by omega), ih h.2 (by omega)]

theorem mapGet_put_same {α : Type} (l : List (Nat × α)) (k : Nat) (v : α) : mapGet k (mapPut k v l) = some v := by
  induction l with
  | nil => simp [mapPut, mapGet]
  | cons p r ih =>
    obtain ⟨j, w⟩ := p
    unfold mapPut
    split
    · simp [mapGet]
    · split
      · simp [mapGet]
      · rw [mapGet, if_neg (by omega), ih]

theorem mapGet_put_other {α : Type} (l : List (Nat × α)) (k j : Nat) (v : α) (h : j ≠ k) :
    mapGet j (mapPut k v l) = mapGet j l := by
  induction l with
  | nil => simp [mapPut, mapGet, Ne.symm h]
  | cons p r ih =>
    obtain ⟨i, w⟩ := p
    unfold mapPut
    split
    · simp [mapGet, Ne.symm h]
    · split
      · rename_i h1 h2; subst h2; simp [mapGet, Ne.symm h]
      · simp only [mapGet, ih]

theorem mapGet_erase_same {α : Type} {l : List (Nat × α)} {lo : Nat} (h : Rising lo l) (k : Nat) : mapGet k (mapErase k l) = none := by
  induction l generalizing lo with
  | nil => rfl
  | cons p r ih =>
    obtain ⟨j, w⟩ := p
    unfold mapErase
    split
    · rename_i h1; subst h1; exact mapGet_below h.2 (Nat.lt_succ_self _)
    · rename_i h1; rw [mapGet, if_neg h1, ih h.2]

theorem mapGet_erase_other {α : Type} (l : List (Nat × α)) (k j : Nat) (h : j ≠ k) : mapGet j (mapErase k l) = mapGet j l := by
  induction l with
  | nil => rfl
  | cons p r ih =>
    obtain ⟨i, w⟩ := p
    unfold mapErase
    split
    · rename_i h1; subst h1; simp [mapGet, Ne.symm h]
    · simp only [mapGet, ih]

/-- The counter counted moves on by one; every other counter stands. -/
theorem State.bump_counter (s : State) (i k : Nat) : (s.bump i k).counter i k = (s.counter i k).inc := by
  simp [State.bump, State.counter, mapGet_put_same]

theorem State.bump_counter_other (s : State) (i k j n : Nat) (h : j * 65536 + n ≠ i * 65536 + k) :
    (s.bump i k).counter j n = s.counter j n := by
  simp [State.bump, State.counter, mapGet_put_other _ _ _ _ h]

/-! ## Events -/

/-- An event changes Millbook's volatile side and the counters only. -/
theorem State.event_eq (s : State) (n v k : Nat) (a b c e : BitVec 32) :
    s.event n v k a b c e = { s with book := (s.event n v k a b c e).book, counters := (s.event n v k a b c e).counters } := by
  unfold State.event
  split
  · rfl
  · dsimp only
    split
    · split <;> (unfold State.offer; split <;> rfl)
    · split
      · rfl
      · unfold State.offer; split <;> rfl

/-! ## The plug's bytes -/

theorem Memory.wfFrom_rising {m : List Host.Cell} {lo : Nat} (h : Memory.wfFrom lo m = true) : Rising lo m := by
  induction m generalizing lo with
  | nil => trivial
  | cons c r ih =>
    obtain ⟨a, b⟩ := c
    simp only [Memory.wfFrom, Bool.and_eq_true, decide_eq_true_eq] at h
    exact ⟨h.1.1.1, ih h.2⟩

theorem Memory.wfFrom_mono {m : List Host.Cell} {a b : Nat} (h : a ≤ b) (hb : Memory.wfFrom b m = true) :
    Memory.wfFrom a m = true := by
  cases m with
  | nil => rfl
  | cons c r =>
    simp only [Memory.wfFrom, Bool.and_eq_true, decide_eq_true_eq] at hb ⊢
    exact ⟨⟨⟨le_trans h hb.1.1.1, hb.1.1.2⟩, hb.1.2⟩, hb.2⟩

theorem Memory.wfFrom_put {m : List Host.Cell} {lo k : Nat} {v : Byte} (h : Memory.wfFrom lo m = true) (hk : lo ≤ k)
    (hv : v ≠ 0xFF) (hp : k < 0x2000000) : Memory.wfFrom lo (mapPut k v m) = true := by
  induction m generalizing lo with
  | nil =>
    simp only [mapPut, Memory.wfFrom, Bool.and_eq_true, decide_eq_true_eq]
    exact ⟨⟨⟨hk, bne_iff_ne.mpr hv⟩, hp⟩, trivial⟩
  | cons c r ih =>
    obtain ⟨a, b⟩ := c
    simp only [Memory.wfFrom, Bool.and_eq_true, decide_eq_true_eq] at h
    unfold mapPut
    split
    · simp only [Memory.wfFrom, Bool.and_eq_true, decide_eq_true_eq]
      exact ⟨⟨⟨hk, bne_iff_ne.mpr hv⟩, hp⟩, ⟨⟨by omega, h.1.1.2⟩, h.1.2⟩, h.2⟩
    · split
      · rename_i h1 h2
        subst h2
        simp only [Memory.wfFrom, Bool.and_eq_true, decide_eq_true_eq]
        exact ⟨⟨⟨hk, bne_iff_ne.mpr hv⟩, hp⟩, h.2⟩
      · simp only [Memory.wfFrom, Bool.and_eq_true, decide_eq_true_eq]
        exact ⟨h.1, ih h.2 (by omega)⟩

theorem Memory.wfFrom_eraseKey {m : List Host.Cell} {lo k : Nat} (h : Memory.wfFrom lo m = true) :
    Memory.wfFrom lo (mapErase k m) = true := by
  induction m generalizing lo with
  | nil => rfl
  | cons c r ih =>
    obtain ⟨a, b⟩ := c
    simp only [Memory.wfFrom, Bool.and_eq_true, decide_eq_true_eq] at h
    unfold mapErase
    split
    · exact Memory.wfFrom_mono (by omega) h.2
    · simp only [Memory.wfFrom, Bool.and_eq_true, decide_eq_true_eq]
      exact ⟨h.1, ih h.2⟩

theorem Memory.wfFrom_filter {m : List Host.Cell} {lo : Nat} (p : Host.Cell → Bool) (h : Memory.wfFrom lo m = true) :
    Memory.wfFrom lo (m.filter p) = true := by
  induction m generalizing lo with
  | nil => rfl
  | cons c r ih =>
    obtain ⟨a, b⟩ := c
    simp only [Memory.wfFrom, Bool.and_eq_true, decide_eq_true_eq] at h
    rw [List.filter_cons]
    split
    · simp only [Memory.wfFrom, Bool.and_eq_true, decide_eq_true_eq]
      exact ⟨h.1, ih h.2⟩
    · exact ih (Memory.wfFrom_mono (by omega) h.2)

/-- Programming a byte keeps the canonical form. -/
theorem Memory.wf_write {m : List Host.Cell} (a : Nat) (b : Byte) (h : Memory.wf m = true) : Memory.wf (Memory.write m a b) = true := by
  unfold Memory.write
  split
  · exact h
  · split
    · exact Memory.wfFrom_eraseKey h
    · exact Memory.wfFrom_put h (Nat.zero_le _) ‹_› (by omega)

theorem Memory.wf_writeBytes {m : List Host.Cell} (a : Nat) (l : List Byte) (h : Memory.wf m = true) :
    Memory.wf (Memory.writeBytes m a l) = true := by
  induction l generalizing m a with
  | nil => exact h
  | cons b r ih => exact ih _ (Memory.wf_write a b h)

theorem Memory.wf_erase {m : List Host.Cell} (a n : Nat) (h : Memory.wf m = true) : Memory.wf (Memory.erase m a n) = true :=
  Memory.wfFrom_filter _ h

theorem Memory.wf_reset : Memory.wf State.reset.nv.plug = true := rfl

/-- A byte on the plug reads as it was last programmed. -/
theorem Memory.read_write_same {m : List Host.Cell} (a : Nat) (b : Byte) (h : Memory.wf m = true) (ha : a < 0x2000000) :
    Memory.read (Memory.write m a b) a = b := by
  unfold Memory.write Memory.read
  rw [if_neg (by omega)]
  split
  · rename_i h1; rw [mapGet_erase_same (Memory.wfFrom_rising h)]; exact h1.symm
  · rw [mapGet_put_same]; rfl

theorem Memory.read_write_other (m : List Host.Cell) (a k : Nat) (b : Byte) (h : k ≠ a) :
    Memory.read (Memory.write m a b) k = Memory.read m k := by
  unfold Memory.write Memory.read
  split
  · rfl
  · split
    · rw [mapGet_erase_other _ _ _ h]
    · rw [mapGet_put_other _ _ _ _ h]

/-- A run of bytes changes no byte outside it. -/
theorem Memory.read_writeBytes_other (m : List Host.Cell) (a k : Nat) (l : List Byte) (h : k < a ∨ a + l.length ≤ k) :
    Memory.read (Memory.writeBytes m a l) k = Memory.read m k := by
  induction l generalizing m a with
  | nil => rfl
  | cons b r ih =>
    rw [List.length_cons] at h
    rw [Memory.writeBytes, ih _ _ (by omega), Memory.read_write_other _ _ _ _ (by omega)]

theorem mapGet_filter {α : Type} (l : List (Nat × α)) (p : Nat → Bool) (k : Nat) :
    mapGet k (l.filter fun c => p c.1) = if p k then mapGet k l else none := by
  induction l with
  | nil => simp [mapGet]
  | cons c r ih =>
    obtain ⟨j, w⟩ := c
    rw [List.filter_cons]
    by_cases hj : j = k
    · subst hj
      by_cases hp : p j = true
      · simp [hp, mapGet]
      · simp [hp, ih]
    · by_cases hp : p j = true
      · simp [hp, mapGet, hj, ih]
      · simp [hp, mapGet, hj, ih]

/-- An erased byte reads 0xFF, every other byte as before. -/
theorem Memory.read_erase (m : List Host.Cell) (a n k : Nat) :
    Memory.read (Memory.erase m a n) k = if k < a ∨ a + n ≤ k then Memory.read m k else 0xFF := by
  unfold Memory.erase Memory.read
  rw [mapGet_filter m (fun x => decide (x < a) || decide (a + n ≤ x)) k]
  by_cases h : k < a ∨ a + n ≤ k
  · simp [h]
  · simp [h]

/-! ## Outputs, token, Sluice -/

/-- A walk that changes nothing but the field outputs changes nothing but them. -/
theorem foldl_io {α : Type} (l : List α) (f : State → α → State) (h : ∀ s a, ∃ x, f s a = { s with io := x }) (s : State) :
    ∃ x, l.foldl f s = { s with io := x } := by
  induction l generalizing s with
  | nil => exact ⟨_, rfl⟩
  | cons a r ih =>
    obtain ⟨x, hx⟩ := h s a
    obtain ⟨y, hy⟩ := ih (f s a)
    exact ⟨y, by rw [List.foldl_cons, hy, hx]⟩

/-- Driving every output changes the field outputs only. -/
theorem State.driveAll_shape (s : State) : ∃ x, s.driveAll = { s with io := x } := by
  obtain ⟨x, hx⟩ := foldl_io (List.finRange 32) State.driveDo (fun s a => by unfold State.driveDo; split <;> exact ⟨_, rfl⟩) s
  obtain ⟨y, hy⟩ := foldl_io (List.finRange 48) State.driveLs (fun s a => by unfold State.driveLs; split <;> exact ⟨_, rfl⟩)
    ((List.finRange 32).foldl State.driveDo s)
  exact ⟨y, by rw [State.driveAll, hy, hx]⟩

/-- What becomes of the pair's state when TOK-OUT is released (R304). -/
def Pair.released (p : Pair) (now : Nat) : Pair :=
  { p with token := false, releasing := false, handover := false, roleAt := now
           gaveUp := if p.formed then some p.givenUp else none
           pstate := if p.formed then .standbyNotReady else p.pstate }

/-- Releasing the token changes the pair, where TOK-OUT then reads released, the field outputs, and the step bridges of the drive stages. -/
theorem State.releaseToken_shape (s : State) :
    ∃ x y, s.releaseToken = { s with pair := s.pair.released s.ns, io := x, drv := y } := by
  obtain ⟨z, hz⟩ : ∃ z, s.dropToken = { s with pair := s.pair.released s.ns, io := { s.io with pairSink := s.pair.formed }, drv := z } :=
    foldl_drv (List.finRange 16) (fun (s : State) (d : Door) => s.bridgeOff d.step) (fun s a => ⟨_, rfl⟩)
      ({ s with pair := s.pair.released s.ns, io := { s.io with pairSink := s.pair.formed } } : State)
  unfold State.releaseToken
  rw [hz]
  dsimp only
  split
  · exact ⟨_, _, rfl⟩
  · obtain ⟨x, hx⟩ := foldl_io (List.finRange 32) (fun s n => s.modDout n fun x => { x with pin := .z, mismatch := none })
      (fun s a => ⟨_, rfl⟩) ({ s with pair := s.pair.released s.ns, io := { s.io with pairSink := s.pair.formed }, drv := z } : State)
    obtain ⟨y, hy⟩ := foldl_io (List.finRange 48) (fun s n => s.modLs n fun x => { x.settle s.ns with on := false, active := 0 })
      (fun s a => ⟨_, rfl⟩) ({ s with pair := s.pair.released s.ns, io := x, drv := z } : State)
    refine ⟨y, z, ?_⟩
    rw [← hy, ← hx]

/-- A try to release the token either leaves the state as it is or releases it. -/
theorem State.tryRelease_cases (s : State) :
    s.tryRelease = s ∨
    (s.pair.token = true ∧ (s.pair.releasing = true ∨ s.pair.tokenBarred = true) ∧ s.allPairsOpen = true ∧
      s.tryRelease = s.releaseToken) := by
  unfold State.tryRelease
  split
  · rename_i h
    simp only [Bool.and_eq_true, Bool.or_eq_true] at h
    exact .inr ⟨h.1.1, h.1.2, h.2, rfl⟩
  · exact .inl rfl

theorem State.tryRelease_shape (s : State) : ∃ p x y, s.tryRelease = { s with pair := p, io := x, drv := y } := by
  rcases s.tryRelease_cases with h | ⟨-, -, -, h⟩
  · exact ⟨_, _, _, h⟩
  · obtain ⟨x, y, hx⟩ := s.releaseToken_shape
    exact ⟨_, x, y, h.trans hx⟩

/-- A group's outputs off: a pin stays on only where it is stuck, and the event and count are Millbook's and the counters'. -/
theorem State.groupOff_shape (s : State) (g : Group) :
    ∃ x b k, s.groupOff g = { s with safety := { s.safety with grp := s.safety.grp.set g.1 x g.2 }, book := b, counters := k } ∧
      x.on = false ∧ x.p = s.safety.grp[g.1].stuckP ∧ x.m = s.safety.grp[g.1].stuckM := by
  unfold State.groupOff
  split
  · exact ⟨_, _, _, by rw [State.event_eq]; rfl, rfl, rfl, rfl⟩
  · rename_i h
    exact ⟨_, _, _, rfl, by simpa using h, rfl, rfl⟩

end Sys2Proof.Machine
end

