-- ==== Sys2Proof/Laws/Requests.lean ====
section
/-!
SUPPORT. Sys2Proof/Laws/Requests.lean: what a Tally request that is taken runs, what a read of a Hopper object can do, what a latch
does to a field input, and when a period's Brake output changes a drive.
-/
namespace Sys2Proof.Machine

/-! ## Tally requests (R353, R371, R369) -/

/-- The state in which a taken request of a session is decided: its counter, the moment and its command code are noted. -/
def State.taking (s : State) (code : Nat) (m : Msg) (x : Session) : State :=
  (s.setSession { x with counter := m.counter, last := s.ns }).hear code

/-- A request that start-up, its session and its counter allow, and that may be answered now, is decided by its body alone. -/
theorem State.tally_taken {s : State} {code : Nat} {m : Msg} {l : TallyLevel} {x : Session} (hs : 3 ≤ s.maint.step) (hf : s.maint.failed = false)
    (hx : s.session m.session = some x) (hc : x.counter < m.counter) (ha : (s.taking code m x).tallyAnswers l = true)
    (body : State → Session → State) :
    s.tally code m l body = body (s.taking code m x) { x with counter := m.counter, last := s.ns } := by
  have h1 : (s.maint.step < 3 || s.maint.failed) = false := by simp [hf, Nat.not_lt.mpr hs]
  have h2 : ¬ m.counter ≤ x.counter := BitVec.not_le.mpr hc
  unfold State.tally
  simp only [h1, hx, h2, if_false]
  exact if_pos ha

/-- A request for a doorway that is fitted and whose token the session holds is decided by its body alone. -/
theorem State.tallyDoor_taken {s : State} {code : Nat} {m : Msg} {d : Door} {x : Session} (hs : 3 ≤ s.maint.step) (hf : s.maint.failed = false)
    (hx : s.session m.session = some x) (hc : x.counter < m.counter) (ha : (s.taking code m x).tallyAnswers .configured = true)
    (hd : s.fitted d = true) (ht : s.maint.doorTok[d.1] = some m.session) (body : State → State) :
    s.tallyDoor code m d body = body (s.taking code m x) := by
  unfold State.tallyDoor
  rw [State.tally_taken hs hf hx hc ha]
  have h1 : (s.taking code m x).fitted d = true := hd
  have h2 : (s.taking code m x).maint.doorTok[d.1] = some m.session := ht
  simp [h1, h2]

/-! ## Hopper reads (R278, R279) -/

/-- A walk that only counts changes the counters alone. -/
theorem foldl_counters {α : Type} (l : List α) (f : State → α → State) (h : ∀ s a, ∃ k, f s a = { s with counters := k }) (s : State) :
    ∃ k, l.foldl f s = { s with counters := k } := by
  induction l generalizing s with
  | nil => exact ⟨_, rfl⟩
  | cons a r ih =>
    obtain ⟨x, hx⟩ := h s a
    obtain ⟨y, hy⟩ := ih (f s a)
    exact ⟨y, by rw [List.foldl_cons, hy, hx]⟩

theorem State.bumpIf_shape (s : State) (c : Bool) (i k : Nat) : ∃ x, s.bumpIf c i k = { s with counters := x } := by
  unfold State.bumpIf
  split <;> exact ⟨_, rfl⟩

/-- A read of an object answers its frame, with NEW cleared and only counters moved besides, exactly where the frame is new, free of a
double-bit error and whole within four tries; else it answers none. -/
theorem State.readObject_cases (s : State) (b : BusId) (k : Fin 128) (x : HopRead) :
    (s.readObject b k x = (none, s) ∧ s.bus[b.1].hopper[k.1].new = false) ∨
    (s.readObject b k x = (none, s.discardObject b k) ∧ s.bus[b.1].hopper[k.1].new = true ∧ x.ecc = .uncorrectable) ∨
    (∃ n, s.readObject b k x = (none, { s with counters := n }) ∧ s.bus[b.1].hopper[k.1].new = true ∧
      x.ecc ≠ .uncorrectable ∧ 4 ≤ x.failed.length) ∨
    (∃ n, s.readObject b k x = (some s.bus[b.1].hopper[k.1],
        { s.modBus b (fun y => { y with hopper := y.hopper.set k.1 { s.bus[b.1].hopper[k.1] with new := false } }) with counters := n }) ∧
      s.bus[b.1].hopper[k.1].new = true ∧ x.ecc ≠ .uncorrectable ∧ x.failed.length < 4) := by
  unfold State.readObject
  by_cases hn : s.bus[b.1].hopper[k.1].new = true
  · by_cases he : x.ecc = .uncorrectable
    · exact .inr (.inl ⟨by simp [hn, he], hn, he⟩)
    · obtain ⟨n1, h1⟩ := s.bumpIf_shape (x.ecc == .corrected) (0x81 + b.1) 10
      obtain ⟨n2, h2⟩ := foldl_counters (x.failed.take 4) (fun (s : State) e => s.bumpIf (e == .parity) (0x81 + b.1) 12)
        (fun s a => s.bumpIf_shape _ _ _) ({ s with counters := n1 } : State)
      by_cases hl : 4 ≤ x.failed.length
      · exact .inr (.inr (.inl ⟨_, by simp [hn, he, h1, h2, hl]; rfl, hn, he, hl⟩))
      · exact .inr (.inr (.inr ⟨n2, by simp [hn, he, h1, h2, hl]; rfl, hn, he, by omega⟩))
  · exact .inl ⟨by simp [hn], by simpa using hn⟩

/-! ## Field inputs at the latch (R240, R242) -/

@[simp] theorem InSt.latch_value (x : InSt) (n : Nat) : (x.latch n).value = x.filtered := rfl
@[simp] theorem InSt.latch_filtered (x : InSt) (n : Nat) : (x.latch n).filtered = x.filtered := rfl
@[simp] theorem InSt.latch_c (x : InSt) (n : Nat) : (x.latch n).c = x.c := rfl
@[simp] theorem InSt.latch_given (x : InSt) (n : Nat) : (x.latch n).given = x.given := rfl

/-! ## Outputs in force from phase 110 µs (R10, R89) -/

/-- A drive with no output to come, or whose output comes later, is as it is. -/
theorem Drv.outputsDue_idle (x : Drv) (dwell dead ns : Nat) (h : ∀ v k, x.lowNext = some (v, k) → ns < k) : x.outputsDue dwell dead ns = x := by
  unfold Drv.outputsDue
  split
  · rename_i v k hk
    exact if_neg (Nat.not_le.mpr (h v k hk))
  · rfl

/-- An output whose moment has come takes effect at that moment, once. -/
theorem Drv.outputsDue_due (x : Drv) (dwell dead ns : Nat) (v : Bool) (k : Nat) (h : x.lowNext = some (v, k)) (hk : k ≤ ns) :
    x.outputsDue dwell dead ns = ({ x with lowNext := none }).setLowBrake v k dwell dead := by
  simp [Drv.outputsDue, h, hk]

end Sys2Proof.Machine
end

