-- ==== Sys2Proof/Tests/Slice0.lean ====
section
/-!
SUPPORT. Sys2Proof/Tests/Slice0.lean: small states, worked examples of the spec, single steps, ill-formed operands, and, for every
statement with hypotheses, states and operands that meet them.
-/
namespace Sys2Proof.Tests
open Sys2Proof.Machine

set_option maxRecDepth 20000

/-! ## Small states -/

/-- An accepted module that runs alone and holds the token, every doorway and step fitted, at a clock of a second. -/
def base : State :=
  let s := State.reset
  { s with
    ns := 1000000000
    cfg := { s.cfg with pers := { s.cfg.pers with doors := 0xFFFF, steps := 0xFFFF } }
    drv := Vector.replicate 16 { dv := 1100 }
    sluice := { holding := false, latched := true }
    safety := { s.safety with running := true, gridLocked := true }
    pair := { s.pair with token := true }
    book := { s.book with intakeOpen := true }
    maint := { s.maint with configured := true, step := 9, blank := false, plugPresent := true } }

/-- `base` with every field input of a doorway valid and at the level of its place, and every train line on. -/
def levels (f : Nat → Bool) : State :=
  { base with io := { base.io with
    fi := Vector.ofFn fun n => { given := 100, filtered := f (n.1 % 12), value := f (n.1 % 12), valid := true }
    tl := Vector.replicate 16 { given := 100, filtered := true, value := true, valid := true } } }

/-- Closed, locked, edge contacts closed, handle and key at rest, step retracted. -/
def shut : State := levels fun k => k == 0 || k == 2 || k == 3 || k == 4 || k == 5 || k == 6 || k == 10

/-- Unlocked and open. -/
def ajar : State := levels fun k => k == 1 || k == 4 || k == 5 || k == 6 || k == 10

/-- `s` with doorway 1 in a state, changed further. -/
def door1 (s : State) (x : DoorState) (f : Cyc → Cyc := id) : State := s.modCyc 0 fun y => f { y with state := x }

/-- The session of the Tally tests, which holds every token, and its message. -/
def sess : Session := { id := 1, key := [], last := 0, stagedAt := 0 }
def msg : Msg := ⟨1, 1⟩
def tally (s : State) : State :=
  { s with maint := { s.maint with sessions := [sess], moduleTok := some 1, doorTok := Vector.replicate 16 (some 1) } }

/-- A pair of modules; the standby of one. -/
def paired (s : State) : State :=
  { s with cfg := { s.cfg with pair := { s.cfg.pair with enable := true } }, pair := { s.pair with formed := true, pstate := .active } }
def standby (s : State) : State :=
  let s := paired s
  { s with pair := { s.pair with token := false, tokIn := true, pstate := .standbyReady } }

/-- Entries and frames of zeros. -/
def entry0 : DoorEntry :=
  { forceOut := 0, fHat := 0, integ := 0, stroke := 0, iqM := 0, bClose := 0, bOpen := 0, mode := 0, gset := false, rphase := false
    scale := 0, state := 0, confirm := 0, stretch := 0, obswin := false, decel := false, lzone := false, proven := false
    closecmd := false, ref := false, edgereq := false, timer := 0, startTick := 0, reopens := 0
    attempts := 0 }
def stepEntry0 : StepEntry := { wOut := 0, integV := 0, integI := 0, iRef := 0, mode := 0, state := 0, stroke := 0 }
def frame0 : ActiveFrame :=
  { fseq := 0, pclock := 0, handover := false, calS := 0, calUs := 0, tq := 0, src := 0, doPins := 0, lsPins := 0, relL := false
    relR := false, single := false, cmdNo := 0, cmdSeq := 0, doors := Vector.replicate 16 entry0
    steps := Vector.replicate 16 stepEntry0, msgs := [] }
def back0 : BackFrame :=
  { bseq := 0, ack := 0, pstate := 0, notready := 0, pairiso := false, posmis := 0, lwResult := 0, lwChannel := 0, calResult := 0
    calDoor := 0 }

/-- The payload of Table 4-7 of `injectOf 0 a 5 5`. -/
def injectBytes (a : Nat) : List Byte :=
  [1, 0] ++ toLe 2 a ++ toLe 2 5 ++ toLe 2 5 ++ toLe 2 8 ++ toLe 2 0 ++ [1, 2, 3, 0xF] ++ toLe 2 0 ++ toLe 2 0

/-! ## Worked examples of the spec -/

/-- Doorway 11's third load switch is LS33 (scope). -/
theorem test_doorway11_ls : (Door.ls 10 2).1 + 1 = 33 := by decide

/-- Code 0x2A3 is doorway 15, index 3; the edge fault of doorway 11 is 0x1F1 (13). -/
theorem test_event_codes : codeDoorway 0x2A3 = 15 ∧ 0x2A3 % 48 = 3 ∧ codeDoorway 0x1F1 = 11 ∧ 0x1F1 % 48 = 17 := by decide

/-- The wire breaks of FI053 are counter 22 of instance 0x93, at 0x0293002C (13). -/
theorem test_counter_address : counterAt 0x0293002C = some (0x93, 22) := by decide

/-- Lock NC of doorway 10 is FI110 (14). -/
theorem test_lock_nc_input : (Door.fi 9 1).1 + 1 = 110 := by decide

/-- The bytes of "123456789" give the check value 0xE3069283 of CRC-32C. -/
theorem test_crc32c : crc32c [0x31, 0x32, 0x33, 0x34, 0x35, 0x36, 0x37, 0x38, 0x39] = 0xE3069283 := by decide

/-! ## Small steps -/

/-- Inputs of a mill tick without faults. -/
def tick0 : TickIn := { parity := [], aborted := [], outParity := [], wait := [], housekeeping := 100, demandW := 5, temp := [] }

/-- A start in which every check passes. -/
def boot0 : BootIn :=
  { millerRomOk := true, millerRamOk := true, runnerRomOk := true, runnerRamOk := true, posB := false, plugPresent := true, tokIn := false
    storePresent := true }

/-- The state after an outcome; `base` where there is none. -/
def after (o : Out) : State := match o with | .next u => u | _ => base

/-- A step takes the front command and keeps the rest of the queue (log 9: an empty queue idles). -/
theorem test_step_queue :
    (after (step { base with pending := [.fragmentedDatagram 5, .arpAndIcmpEcho 6] })).pending = [.arpAndIcmpEcho 6] ∧
    (after (step base)).pending = [] := by decide

/-- R25: a leading edge of A moves the counter of channel 4 alone. -/
theorem test_encoder_edge :
    (after (exec (.encoderEdge 5 3 true false) base)).enc[3].count = 1 ∧ (after (exec (.encoderEdge 5 3 true false) base)).enc[2].count = 0 := by
  decide

/-- R31: both lines change at once: the counter stands, and the channel is in encoder fault. -/
theorem test_illegal_transition :
    (after (exec (.encoderEdge 5 3 true true) base)).enc[3].count = 0 ∧ (after (exec (.encoderEdge 5 3 true true) base)).enc[3].encFlt = true := by
  decide

/-- R13: heartbeats that stay away take the safe state, and a later one does not end it. -/
theorem test_sluice :
    let u := after (exec (.sluiceHeartbeatLoss 2000000000) base)
    u.sluice.safe = true ∧ (after (exec (.heartbeatWrite 2000000001) u)).sluice.safe = true := by decide

/-- R18: a mill tick stands at the next multiple of 125 µs. -/
theorem test_mill_tick : (after (exec (.millTick tick0) State.reset)).ns = 125000 := by decide

/-- Table 4-7: a payload for doorway 0 or 17, one with a reserved field that is not 0 and one of 19 bytes are none. -/
theorem test_inject_payload :
    (InjectReq.ofBytes (injectBytes 300)).map (fun r => (r.door, r.amplitude, r.duration)) = some (0, 300, 8) ∧
    InjectReq.ofBytes (0 :: (injectBytes 300).drop 1) = none ∧ InjectReq.ofBytes (17 :: (injectBytes 300).drop 1) = none ∧
    InjectReq.ofBytes ((injectBytes 300).take 19 ++ [1]) = none ∧ InjectReq.ofBytes ((injectBytes 300).take 19) = none := by decide

/-! ## Operands that are refused as ill-formed, one for each check, beside one that is not -/

theorem test_wf_millTick :
    (Instr.millTick { tick0 with wait := [(0, 30)] }).wellFormed = true ∧ (Instr.millTick { tick0 with wait := [(0, 31)] }).wellFormed = false ∧
    (Instr.millTick { tick0 with housekeeping := 5401 }).wellFormed = false := by decide

theorem test_wf_frames :
    (Instr.frameReceived 0 0 { ext := false, id := 1, fd := false, brs := false, data := List.replicate 9 0 }).wellFormed = false ∧
    (Instr.frameReceived 0 0 { ext := false, id := 1, fd := true, brs := false, data := List.replicate 9 0 }).wellFormed = true ∧
    (Instr.frameReceived 0 0 { ext := false, id := 1, fd := true, brs := false, data := List.replicate 65 0 }).wellFormed = false ∧
    (Instr.activeFrameReceived 0 ⟨false, 0⟩ frame0).wellFormed = true ∧
    (Instr.activeFrameReceived 0 ⟨false, 0⟩ { frame0 with calUs := 1000000 }).wellFormed = false ∧
    (Instr.activeFrameReceived 0 ⟨false, 0⟩ { frame0 with msgs := [.calChunk 0 0 []] }).wellFormed = false ∧
    (Instr.activeFrameReceived 0 ⟨false, 0⟩ { frame0 with msgs := [.liveCheck 0 65536 0] }).wellFormed = false ∧
    (Instr.activeFrameReceived 0 ⟨false, 0⟩ { frame0 with msgs := List.replicate 16 (.liveCheck 0 0 0) }).wellFormed = false ∧
    (Instr.backFrameReceived 0 ⟨false, 0⟩ { back0 with notready := 7 }).wellFormed = false := by decide

theorem test_wf_tally :
    (Instr.openSession 0 [1]).wellFormed = false ∧ (Instr.readWords 0 msg 0 0).wellFormed = false ∧
    (Instr.readWords 0 msg 0 257).wellFormed = false ∧ (Instr.readWords 0 msg 0 256).wellFormed = true ∧
    (Instr.readStamps 0 msg 65).wellFormed = false ∧ (Instr.readCapture 0 msg 8192 1).wellFormed = false ∧
    (Instr.readCapture 0 msg 0 129).wellFormed = false ∧ (Instr.slotWrite 0 msg true 0xC00000 [1]).wellFormed = false ∧
    (Instr.slotWrite 0 msg true 0 []).wellFormed = false ∧ (Instr.slotRead 0 msg true 0 1025).wellFormed = false ∧
    (Instr.identityRead 0 msg 0 4096 1).wellFormed = false ∧ (Instr.keyAreaStage 0 msg 5 []).wellFormed = false ∧
    (Instr.keyAreaCommit 0 msg { bytes := [1] } []).wellFormed = false ∧ (Instr.calendarSet 0 msg 0 1000000).wellFormed = false ∧
    (Instr.liveWrite 0 msg 0 65536 0).wellFormed = false ∧ (Instr.tokenBucketRefill 0 0x480).wellFormed = false ∧
    (Instr.plugRefitted 0 [(0x2000000, 0)]).wellFormed = false := by decide

theorem test_wf_hopperReads :
    (Instr.readHopper 0 msg 0 { obj := 3, read := { failed := List.replicate 5 .collision } }).wellFormed = false ∧
    (Instr.outputCommand 0 0 { obj := 0, read := { failed := List.replicate 4 .collision } }).wellFormed = true := by decide

/-- What a power failure cut off is a record or a trace. -/
theorem test_wf_powerOnReset :
    (Instr.powerOnReset { boot0 with cut := some [1] }).wellFormed = false ∧
    (Instr.powerOnReset { boot0 with cut := some (List.replicate 64 0) }).wellFormed = true := by decide

/-! ## States that meet the hypotheses of the statements -/

def ready : State := { shut with
    maint := { shut.maint with configured := false, step := 5, booted := some false }
    sluice := {}
    pair := {} }
def switching : State := base.modDrv 0 fun x => { x with
    bridgeOn := true
    pairsCmd := true
    pairsSensed := true
    refs := #v[1000, 0, -1000]
    legs := #v[{}, { high := true, on := true }, { high := true, dead := some 5, dwell := some 7 }] }
def stepPwm (duty : BitVec 12) (run : Nat) : State := switching.modDrv 0 fun x => { x with
    shadow := { duty := duty, dir := true, mode := .drive }
    fullRun := run }
/-- `base` with one compare entry of doorway 1 in its opening set, and that set armed with it or not. -/
def comparing (e : CmpEntry) (armed : BitVec 32) : State :=
  let g := base.cfg.door[0]
  { base with
      cfg := { base.cfg with door := base.cfg.door.set 0 { g with cmp := g.cmp.set 3 e } }
      cmp := base.cmp.set 0 { set := some true, armed := armed } }
/-- `base` with doorway 1's channel in a mode and its leaf watched, the observer changed further. -/
def watched (m : Mode) (f : Obs → Obs) : State :=
  ((((base.modSlot 0 fun x => { x with mode := m, alignCount := some 5 }).modEnc 0 fun e => { e with ref := true }).modCmp 0
    fun c => { c with window := true }).modObs 0 fun o => f { o with noCal := false }).modDrv 0 fun x => { x with pairsSensed := true }
/-- The leaf of doorway 1 at a stroke and at rest. -/
def resting (n : Nat) (s : State) : State := s.modEnc 0 fun e => { e with
  ref := true, ext := BitVec.ofNat 48 n, latched := 0, hist := List.replicate 161 0 }
def inj : InjectReq := {
    door := 0
    signal := 1
    amplitude := 500
    paramA := 10
    paramB := 0
    duration := 100
    lead := 0
    codes := #v[1, 0x10, 0x11, 0]
    capPhase := 0 }
def capturing : State := { base with capture := { req := some inj, running := true, samples := [#v[0,0,0,0]] } }
def tripped (f : Weir → Weir) : State := (door1 switching .open).modDrv 0 fun x => { x with weir := f { trip := some .overCurrent } }
def reservation1 : Reservation := {
    ch := 0
    supply := 0
    startW := 100
    runW := 50
    s := 256
    start := 8000
    stageEnd := 8800
    stop := 9000 }
def aligning : State := (door1 base .unlocking (fun y => { y with aligning := true })).modSlot 0 fun x => { x with mode := .align, alignAt := some 5 }
def edgeDiscrepant : State := { shut with
    safety := { shut.safety with
        runner := { shut.safety.runner with edgeDisc := Vector.replicate 16 (some 5), edgeOkAt := Vector.replicate 16 (some 5) }
        bedstone := { shut.safety.bedstone with edgeDisc := Vector.replicate 16 (some 5), edgeOkAt := Vector.replicate 16 none } } }
def stalling (f : Cyc → Cyc) (ex : Bool) : State := { ((door1 base .open f).modObs 0 fun x => { x with stallAt := some 5 }) with
    cfg := { base.cfg with step := base.cfg.step.set 0 { base.cfg.step[0] with cyc := { stallExtended := ex } } } }
def granted (st : DoorState) (f : Cyc → Cyc) : State := door1 { shut with
    gov := {
        res := [{ ch := 0, supply := 0, startW := 100, runW := 50, s := 256, start := 8000, stageEnd := 8800, stop := 9000 }] } } st f
def reopening (n : Nat) : State := granted .reopenHold (fun y => { y with
    holdDl := some 5
    closeCmd := true
    reopens := n
    rec? := some {} })
def ajarIn (st : DoorState) (f : Cyc → Cyc) : State := door1 ajar st f
def chans (s : State) (f : Nat → Bool) : State :=
  let c : SafeChan := {
      inp := Vector.replicate 16 (Vector.ofFn fun k => { given := 100, filtered := f k.1 })
      fb := Vector.replicate 2 { given := 100, filtered := true } }
  { s with safety := { s.safety with runner := c, bedstone := c, blockLatched := true, blockOk := true } }
def provingDoor : State := (chans (granted .proving (fun y => { y with backDl := some 5, backing := true, rec? := some {} })) (fun k => k == 0 || k == 2 || k == 3 || k == 4 || k == 5 || k == 6 || k == 8)).modEnc 0 fun e => { e with ref := true }
def releasedTl (s : State) : State := { s with
    cfg := { s.cfg with io := { s.cfg.io with tl := s.cfg.io.tl } }
    tele := { s.tele with relL := true, relR := true } }
def planned : State × Reservation := ((((reopening 0).at 5).modCyc 0 (fun y => { y with holdDl := none })).plan 0 false).getD (base, reservation1)
def safeInputs : State := chans shut (fun k => k == 0 || k == 2 || k == 3 || k == 4 || k == 5 || k == 6 || k == 8)
def grpOn (f : Grp → Grp) : State := { safeInputs with
    safety := { safeInputs.safety with
        grp := Vector.replicate 2 (f { on := true, p := true, m := true, tested := true, changedAt := 5 })
        runner := { safeInputs.safety.runner with enable := 3, counted := 0xFFFF }
        bedstone := { safeInputs.safety.bedstone with enable := 3 } } }
def pairDiscrepant (k : Fin 3) (f : SafetyCh → Bool) : State := { grpOn id with safety := { (grpOn id).safety with
  runner := { (grpOn id).safety.runner with
      pairs := Vector.replicate 16 ((Vector.replicate 3 {}).set k.1 { since := if f .runner then some 5 else none }) }
  bedstone := { (grpOn id).safety.bedstone with
      pairs := Vector.replicate 16 ((Vector.replicate 3 {}).set k.1 { since := if f .bedstone then some 5 else none })
      counted := 0xFFFF } 
  grp := Vector.replicate 2 { on := true, chanDisc := Vector.replicate 16 (some 5) } } }
def notEvidenced : State := { (grpOn id).modObs 0 (fun o => { o with reqRunner := true, reqBed := true }) with safety := { (grpOn id).safety with
  runner := { (grpOn id).safety.runner with watch := Vector.replicate 16 (some { since := 5, ext := 500, modeBad := true }) }
  bedstone := { (grpOn id).safety.bedstone with watch := Vector.replicate 16 (some { since := 5, ext := 500 }) } } }
def resetEdges (j : Bool) (a b : Bool) (s : State) : State := { s with
    safety := { s.safety with rst := #v[{ edgeR := a, edgeB := b }, { jammed := j }] } }
def resetJam (f : Bool) : State := let c : SafeChan := { safeInputs.safety.runner with
    rst := { given := 100, filtered := f, since := 5 } }; { safeInputs with safety := { safeInputs.safety with runner := c, bedstone := c } }
def bandAt (b : Band) : State := { safeInputs with
    io := { safeInputs.io with fi := Vector.replicate 192 { band := some b, bandAt := 5, goodAt := some 5 } } }
def stamping (f : InSt → InSt) (l : List Stamp) : State := { safeInputs with
    cfg := { safeInputs.cfg with io := { safeInputs.cfg.io with fi := Vector.replicate 192 { general := true, stamp := true } } }
    io := { safeInputs.io with fi := Vector.replicate 192 (f {}), stamps := l } }
def outputsOn (f : DoutSt → DoutSt) : State := { safeInputs with
    io := { safeInputs.io with dout := Vector.replicate 32 (f { pin := .on }) } }
def switchesOn (f : LsSt → LsSt) : State := { safeInputs with
    io := { safeInputs.io with ls := Vector.replicate 48 (f { on := true, cmd := true, shadow := 500 }) } }
def shedding : State := { switchesOn (fun x => x) with
    cfg := { safeInputs.cfg with ls := { safeInputs.cfg.ls with sw := Vector.replicate 48 { shed := true } } }
    io := { (switchesOn id).io with lsSup := Vector.replicate 2 { shedding := true } } }
def busWith (f : BusSt → BusSt) (s : State) : State := { s with
    bus := Vector.replicate 2 (f {
        started := true
        bstate := .detected
        prior := .detected
        listen := false
        adopted := 0
        timing := { nominal := 3, data := 2 } }) }
def frameOfId (id : BitVec 11) (e : Bool) : Frame := { ext := e, id := id, fd := true, brs := true, data := [1,2,3] }
def detecting (f : BusSt → BusSt) : State := busWith (fun x => f { x with
    bstate := .detecting
    prior := .detecting
    listen := true
    adopted := 15
    timing := {} }) safeInputs
def telegramBytes (seq : Nat) (bits : Nat) (cl : Nat) (no : Nat) : List Byte := 
  let l := toBe 2 (0x1000 + 14*256 + 1) ++ toBe 2 seq ++ toBe 4 1000 ++ toBe 2 cl ++ toBe 2 0 ++ toBe 2 0 ++ toBe 1 no ++ toBe 1 bits ++ List.replicate 4 0
  l ++ toBe 4 (crc32c l).toNat
def telegramObj (l : List Byte) : HObj := { id := 0x08E, fd := true, brs := true, data := l, new := true, time := 1000000 }
def telegramIn (seq : Nat) (rm : Nat) (single : Bool) (copies : List TeleCopy) (base' : Bool) : State :=
  let s := safeInputs
  { s with cfg := { s.cfg with bus := { s.cfg.bus with releaseMode := rm } }
           bus := #v[{
               started := true
               bstate := .detected
               listen := false
               timing := { nominal := 3, data := 2 }
               hopper := (Vector.replicate 128 {}).set 2 (telegramObj (telegramBytes seq 3 0x00F0 5)) },
                     {
                         started := true
                         bstate := .detected
                         listen := false
                         timing := { nominal := 3, data := 2 }
                         copies := copies }]
           tele := { s.tele with
               single := single
               baseline := base'
               own := { seq := 9, time := 500, arrival := 999500, valid := true } } }
def copyOf (seq : Nat) (a : Nat) : TeleCopy := { bytes := telegramBytes seq 3 0x00F0 5, arrival := a }
def telegramSeq (seq : Nat) := telegramObj (telegramBytes seq 3 0x00F0 5)
def deliveries (a b : Option Nat) (sg : Bool) : State := let s := telegramIn 10 2 sg [] false; { s with
    tele := { s.tele with bitL := true, agreeAt := some 5 }
    bus := #v[{ s.bus[0] with copyAt := a }, { s.bus[1] with copyAt := b }] }
def outputObj (dv dst : Nat) (lv lst : Nat) : HObj := {
    id := 0x18E
    fd := true
    brs := true
    new := true
    data := toBe 1 0 ++ toBe 1 7 ++ toBe 4 dv ++ toBe 4 dst ++ toBe 6 lv ++ toBe 6 lst ++ toBe 2 0 }
def outputIn (o : HObj) : State := let s := busWith (fun x => { x with hopper := x.hopper.set 9 o }) safeInputs; { s with
    cfg := { s.cfg with io := { s.cfg.io with dout := Vector.ofFn fun n => { source := n.1 % 3 } } } }
def timeBytes (c us mq : Nat) (sec : Nat) : List Byte := toBe 4 sec ++ toBe 3 (us * 16 + mq) ++ toBe 1 c
def timeObj (us : Nat) : HObj := { id := 0x01F, data := timeBytes 5 us 1 51, new := true }
def timeIn (us : Nat) (held : Option Int) (f : Calendar → Calendar) : State :=
  let s := busWith (fun x => { x with hopper := x.hopper.set 5 (timeObj us) }) safeInputs
  { s with
      cal := f { s.cal with
          us := 50000000
          at_ := 5
          src := .busA
          held := held
          refs := #v[{ counter := 4, sof := 1000000, seen := true, calSof := 51000000 }, {}] } }
def recovered : State := let s := timeIn 5 (some 7) (fun c => { c with
    src := .holdover
    left := .busA
    psrc := some .busB
    refs := #v[{ pairAt := some 999999999 }, { pairAt := some 999999999 }] }); { s with bus := s.bus.set 0 { s.bus[0] with bstate := .recovery, err := .off } }
def identFrame : IdFrame := { variant2216 := true, posB := true, headerCrc := 0 }
def forming (f : Pair → Pair) : State := let s := safeInputs; { s with
    cfg := { s.cfg with pair := { s.cfg.pair with enable := true } }
    pair := f { s.pair with token := false, pstate := .forming, formAt := some 5 } }
def doorEntryOf (m st : Nat) : DoorEntry := { entry0 with
    mode := BitVec.ofNat 4 m
    state := BitVec.ofNat 4 st
    forceOut := 155
    stroke := 0
    startTick := 5 }
def frameOf (m st : Nat) : ActiveFrame := { frame0 with
    fseq := 100
    doors := Vector.replicate 16 (doorEntryOf m st)
    doPins := 0x0F0F
    lsPins := 0x123456 }
def standbyRx (f : Pair → Pair) (m st : Nat) : State := { forming (fun p => f { p with formed := true, tokIn := true, pstate := .standbyReady, rx := some (frameOf m st), rxAt := some 999990000 }) with
    slot := Vector.replicate 32 { pending := [{ offset := 0, value := 0 }] } }
def tokenHolder (f : Pair → Pair) : State := { forming (fun p => f { p with formed := true, token := true, pstate := .active }) with
    drv := Vector.replicate 16 { dv := 1100, brake := some 5, brakeAsked := true } }
def standbyCold (f : Pair → Pair) : State := forming (fun p => f { p with
    formed := true
    tokIn := true
    pstate := .standbyNotReady })
def backFrame : BackFrame := { back0 with lwResult := 1, lwChannel := 3 }
def msg1 : Msg := ⟨1, 1⟩
def writeOne : Sys2Proof.Machine.LiveWrite := { offset := 4, value := 5 }
def eventRec (e sv : Nat) : Record := {
    event := e
    mill := 0
    calUs := 0
    tq := 0
    severity := sv
    doorway := 0
    body := .event 0 0 0 0 0 0 0 }
def cycleRec : Record := { event := 0, mill := 0, calUs := 0, tq := 0, severity := 0, doorway := 1, body := .cycle {} }
/-- A trace record, and a doorway whose ring holds one that still needs `n` entries. -/
def trace0 : Trace :=
  { cycleSeq := 0, trigger := 0, interval := 8, trigEntry := 0, tick0 := 0, scaleNm := 0, thrClose := 0, thrOpen := 0, bClose := 0
    bOpen := 0, stretch := 0, entries := [] }
def traceRec : Record := { cycleRec with body := .trace trace0 }
def tracing (n : Nat) (c : CycleRec) : State :=
  let s := door1 base .open fun y => { y with rec? := some c }
  { s with book := { s.book with rings := Vector.replicate 16 { pending := if n = 0 then [] else [(traceRec, n)] } } }
def bookWith (f : Book → Book) : State := { safeInputs with book := f { safeInputs.book with wthru := false } }
def hour : Nat := 3600000000000
def recordsOpen : State := { bookWith (fun b => { b with intake := [eventRec 5 1, cycleRec, eventRec 6 2], staging := [cycleRec], offered := [eventRec 9 2] }) with
    cyc := Vector.ofFn fun d => {
        rec? := if d.1 % 5 = 0 then some {} else none
        ending := if d.1 = 7 then some { outcome := 2 } else none } }
def plugCells : List Host.Cell := Memory.writeBytes (Memory.writeBytes [] 0 [1,2,3]) 0xC10000 [4,5,6]
def plugWith (f : Maint → Maint) : State := { bookWith id with
    nv := { safeInputs.nv with plug := plugCells }
    maint := f safeInputs.maint }
def maintWith (f : Maint → Maint) : State := let s := tally (bookWith id); { s with maint := f s.maint }
def oneDoor (s : State) : State := { s with cfg := { s.cfg with pers := { s.cfg.pers with doors := 1 } } }
def inService (s : State) (f : Cyc → Cyc) : State := door1 s .service f
def noTok (s : State) : State := { s with maint := { s.maint with doorTok := Vector.replicate 16 none } }
def fullCycle (y : Cyc) : Cyc := { y with
    rec? := some {}
    closeCmd := true
    sol := .pull 5
    holdDl := some 5
    unlockDl := some 5
    backing := true
    backDl := some 7
    svc := .unlock 5
    ending := some {}
    proven := true }
def withAngle (s : State) : State := { s with slot := Vector.replicate 32 { s.slot[0] with alignCount := some 5, mode := .hold } }
def referenced (s : State) : State := { s with enc := Vector.replicate 32 { s.enc[0] with ref := true } }
def tenterOn (s : State) (y : Tenter) : State := { s with maint := { s.maint with tenter := some y } }
def tenterRun : Tenter := { door := 0, session := 1 }
def gainWord : BitVec 32 := 0x6666
def queueFull (s : State) : State := { s with
    slot := Vector.replicate 32 { s.slot[0] with pending := List.replicate 8 writeOne } }
def injectOf (sg a p q : Nat) : InjectReq := {
    door := 0
    signal := sg
    amplitude := a
    paramA := p
    paramB := q
    duration := 8
    lead := 0
    codes := #v[1,2,3,0xF]
    capPhase := 0 }
def captureOn (s : State) : State := { s with
    capture := { req := some (injectOf 0 5 5 5), running := true, injecting := true, active := true, period := 8, signal := 7 } }
def plugged (f : Maint → Maint) : State := let s := tally (plugWith id); { s with maint := f s.maint }
def plugFor (f : Maint → Maint) (g : State → State) : State := g (plugged (fun m => f { m with moduleTok := none, booted := some false }))
def noDoorTok (s : State) : State := let s := tally s; { s with maint := { s.maint with doorTok := Vector.replicate 16 none } }
def allShut (s : State) : State := { s with cyc := Vector.replicate 16 { s.cyc[0] with state := .closedLocked } }
def noTokWith (g : State → State) : State := g (noTok (tally (plugWith (fun m => { m with booted := some false }))))
def handoverOk : State := allShut (noDoorTok (tokenHolder (fun p => {p with backLink := true, rxBack := some { backFrame with pstate := 3 }, rxBackAt := some 999999999 })))
def depotWith (f : Maint → Maint) : State := let s := plugged f; { s with
    io := { s.io with tl := Vector.replicate 16 { given := 100, filtered := true, value := true, valid := true } } }
def ioFaulty (s : State) : State := { s with
    io := { s.io with
        ls := Vector.replicate 48 { s.io.ls[0] with latched := true, tries := 3 }
        dout := Vector.replicate 32 { s.io.dout[0] with fault := true } } }
def readable : State := let s := plugged id; { s with
    io := { s.io with stamps := s.io.stamps }
    nv := { s.nv with events := [eventRec 5 1, eventRec 6 2], cycles := [cycleRec] }
    book := { s.book with intake := [cycleRec, eventRec 9 1] }
    capture := (captureOn s).capture
    bus := Vector.replicate 2 { hopper := (Vector.replicate 128 {}).set 3 { id := 5, new := true, data := [1, 2, 3] } } }
def sessionOf (n : Nat) : Session := {
    id := BitVec.ofNat 32 n
    key := [1]
    last := 1000000000
    stagedAt := 0
    tagFails := [999999999, 999999998, 5] }
def fourSessions : State := maintWith (fun m => {m with sessions := [sess, sessionOf 2, {sessionOf 3 with tagFails := [999999999, 999999998, 5, 7,8,9]}, sessionOf 4] })
def tokensOf (k : Option (BitVec 32)) : State := maintWith (fun m => {m with moduleTok := k, doorTok := Vector.replicate 16 k})
def tenterDone : Tenter := { tenterRun with step := .done, outcome := some 0, learned := some {} }
def unplugged (s : State) : State := { s with maint := { s.maint with plugPresent := false } }
def bootedA : State := plugged (fun m => {m with booted := some false})
def writingSlots : State := plugged (fun m => {m with booted := none, writing := #v[some 5, some 7]})
def restartable : State := plugFor id (fun s => referenced (inService s id))
def restartOn (m : Maint) : Maint := {m with restart := some 0 }
def restarting (f : Cyc → Cyc) (s : State) : State := door1 { s with
    enc := Vector.replicate 32 {s.enc[0] with ref := false} } .closing (fun y => f { y with restarting := true })
/-- `s` with other contents of the configuration memory. -/
def withPlug (s : State) (p : List Host.Cell) : State := { s with nv := { s.nv with plug := p } }
def switchable : State := noTokWith allShut
/-- The token holder of a pair whose session holds the module token alone, depot mode active. -/
def handoverReady : State := { handoverOk with
    io := { handoverOk.io with tl := switchable.io.tl, fi := switchable.io.fi }
    maint := { handoverOk.maint with plugPresent := true, booted := some false } }
def pondAvailable (f : Book → Book) : State := let s := plugged id; { s with book := f { s.book with pond := .available } }
def pairOn (s : State) : State := { s with cfg := { s.cfg with pair := { s.cfg.pair with enable := true } } }
def inputAt (k : Nat) (v : Bool) (s : State) : State := { s with
    io := { s.io with fi := Vector.ofFn fun n =>
      let x := if n.1 % 12 = k then v else s.io.fi[n.1].value
      { given := 100, filtered := x, value := x, valid := true } } }
def enginesOff (s : State) : State := { s with maint := { s.maint with enginesStopped := Vector.replicate 16 0xFFF } }
def injectSingles : InjectReq := { inj with codes := #v[0xD, 0xE, 0xF, 0] }

/-- The masks of an accepted telegram still carry a close for doorway 1, an open for doorway 2 and a reset for doorway 3. -/
def fromBus (s : State) : State := { s with tele := { s.tele with close := 1, open_ := 2, reset := 4 } }

/-- The outer pushbutton of doorway 1 has risen at the last latch. -/
def pressed (s : State) : State := { s with io := { s.io with fi := s.io.fi.set 9 { s.io.fi[9] with edge := true } } }

/-- A telegram first received at `first` comes after the last accepted one, and is fresh where the baseline stands. -/
abbrev Ahead (s : State) (o : HObj) (first : Nat) : Prop :=
  let x := DoorTelegram.ofBytes o.data
  let ref := s.safeRef x
  ref.valid = true ∧ 1 ≤ (x.seq - ref.seq).toNat ∧ (x.seq - ref.seq).toNat ≤ 32767 ∧ (s.tele.baseline = true ∨
    (diff32 (x.time - ref.time) (BitVec.ofNat 32 first - BitVec.ofNat 32 ref.arrival)).natAbs ≤ 20000)

/-- The premises of `Claim.TelegramAccepted` for object 2 of Bus A read whole, its partner's copy being `c`. -/
abbrev Accepts (s : State) (o : HObj) (c : TeleCopy) : Prop :=
  s.millerRuns = true ∧ s.bus[0].established = true ∧ oldestNew s.bus[0].hopper 0 = some 2 ∧ s.bus[0].hopper[2] = o ∧ s.copyValid o = true ∧
  (s.bus[1].copies.find? fun c => within20 c.arrival o.time && c.bytes == o.data) = some c ∧ c.decided = false ∧
  Ahead s o (min c.arrival o.time)

/-- The premises of `Claim.OutputCommand` for object 9 of Bus A read whole. -/
abbrev Commands (s : State) (o : HObj) : Prop :=
  s.millerRuns = true ∧ s.bus[0].established = true ∧ oldestNew s.bus[0].hopper 8 = some 9 ∧ s.bus[0].hopper[9] = o ∧ s.decides = true

/-- The masks of an output command name only what the buses command. -/
abbrev Named (s : State) (o : HObj) : Prop :=
  (∀ n : Dout, (BitVec.ofNat 32 (beAt o.data 2 4)).getLsbD n.1 = true → s.doByBus n = true) ∧
  ∀ n : Ls, (BitVec.ofNat 48 (beAt o.data 10 6)).getLsbD n.1 = true → s.lsByBus n = true

/-- The premises of `Claim.TimeReference` for object 5 of Bus A read whole, with its offset. -/
abbrev Refers (s : State) (o : HObj) (off : Int) : Prop :=
  let m := TimeRefMsg.ofBytes o.data
  let p := s.cal.refs[0]
  s.millerRuns = true ∧ s.bus[0].established = true ∧ oldestNew s.bus[0].hopper 4 = some 5 ∧ s.bus[0].hopper[5] = o ∧
  o.data.length = 8 ∧ o.id.toNat = 0x010 + s.cfg.bus.timeMaster ∧ s.cal.src = busSrc 0 ∧ s.cal.psrc = none ∧ p.seen = true ∧
  m.counter = p.counter + 1 ∧ off = (m.us : Int) - p.calSof

/-- The module may take the token. -/
abbrev May (s : State) : Prop :=
  s.pair.tokenBarred = false ∧ s.sluice.safe = false ∧ s.maint.configured = true ∧ ∀ d : Door, s.drv[d.1].isoBlocked = false

/-- The module stands by, or is SPLIT. -/
abbrev StandsBy (s : State) : Prop := s.pair.pstate = .standbyReady ∨ s.pair.pstate = .standbyNotReady ∨ s.pair.pstate = .split

/-- The premises of `Claim.TakeoverOfDoors`. -/
abbrev TakesOver (s : State) (f : ActiveFrame) (a : Nat) : Prop :=
  s.pair.token = false ∧ StandsBy s ∧ May s ∧ s.sluice.holding = false ∧ s.pair.rx = some f ∧ s.pair.rxAt = some a ∧ s.pair.posmis = 0

/-- A taken injection whose payload reads as `i`, of a session that holds the doorway's token. -/
abbrev Injects (s : State) (m : Msg) (x : Session) (payload : List Byte) (i : InjectReq) : Prop :=
  Claim.Taken s m x ∧ InjectReq.ofBytes payload = some i ∧ s.fitted i.door = true ∧ s.maint.doorTok[i.door.1] = some m.session

/-! ## The hypotheses of the statements can be met, clause by clause

Each theorem is named after the statement, or the claim a statement is made of, whose hypotheses it meets. -/

/-- The message of `sess` is taken by an accepted module that holds the session. -/
theorem taken (s : State)
    (h : 3 ≤ s.maint.step ∧ s.maint.failed = false ∧ s.maint.blank = false ∧ s.maint.configured = true ∧ s.session 1 = some sess) :
    Claim.Taken s msg sess :=
  ⟨h.1, h.2.1, h.2.2.1, h.2.2.2.1, h.2.2.2.2, by decide⟩

/-- The same of a session of which only what it staged differs. -/
theorem rested (x : Session) (h : x.id = 1) (k : x.counter = 0) :
    Claim.Taken { depotWith id with maint := { (depotWith id).maint with sessions := [x] } } msg x := by
  refine ⟨(by decide : 3 ≤ (depotWith id).maint.step), (by decide : (depotWith id).maint.failed = false),
    (by decide : (depotWith id).maint.blank = false), (by decide : (depotWith id).maint.configured = true), ?_, ?_⟩
  · simp [State.session, h, msg]
  · simp [k, msg]

theorem met_queueKept : ∃ (c : Instr) (s u : State), exec c s = .next u := ⟨.fragmentedDatagram 5, base, _, rfl⟩

theorem met_clockOnlyForward : ∃ (c : Instr) (s u : State), exec c s = .next u := ⟨.fragmentedDatagram 5, base, _, rfl⟩

/-- `base` in the safe state, every command waiting that `c` names. -/
def safe (l : List Instr) : State := { base with sluice := { base.sluice with safe := true }, pending := l }

theorem met_plugStaysCanonical : ∃ s u : State, step s = .next u ∧ s.plugOk := ⟨safe [.fragmentedDatagram 5], _, rfl, by unfold State.plugOk; decide⟩

theorem met_safeStateHeldUntilRestart : ∃ (c : Instr) (s u : State), exec c s = .next u ∧ s.sluice.safe = true :=
  ⟨.fragmentedDatagram 5, safe [], _, rfl, by decide⟩

theorem met_safeStateKeepsPairsOpen : ∃ s u : State, step s = .next u ∧ s.sluice.safe = true ∧ s.pairsSafe :=
  ⟨safe [.fragmentedDatagram 5], _, rfl, by decide, by unfold State.pairsSafe; decide⟩

theorem met_safeStateKeepsLoopsOff : ∃ s u : State, step s = .next u ∧ s.sluice.safe = true ∧ s.loopsSafe :=
  ⟨safe [.fragmentedDatagram 5], _, rfl, by decide, by unfold State.loopsSafe; decide⟩

theorem met_loopsNeedBothChannels : ∃ s u : State, step s = .next u ∧ s.loopsGated ∧ s.safety.grp[0].on = true :=
  ⟨{ grpOn id with pending := [.fragmentedDatagram 5] }, _, rfl, by unfold State.loopsGated; decide, by decide⟩

theorem met_latchedSwitchReleasedOnly :
    ∃ (c : Instr) (s u : State) (n : Ls), exec c s = .next u ∧ s.io.ls[n.1].latched = true ∧ u.io.ls[n.1].latched = false :=
  ⟨.clearStatus 5 msg (.doorIo 3) 0x01000000, ioFaulty (tally base), _, 9, rfl, by decide, by decide⟩

/-- A full event partition: one record lowest in severity behind others, or none that a new one may replace. -/
def fullEvents (l : List Record) : State :=
  { base with book := { base.book with flushing := some (1, .periodic), intake := [eventRec 7 1] }, nv := { base.nv with events := l } }

theorem met_fullPartition :
    (∃ (s : State) (c : FlushCause) (x o : Record) (l1 l2 : List Record), s.book.flushing = some (1, c) ∧ s.book.intake = [x] ∧
      x.body.part = 1 ∧ 1048576 ≤ s.nv.events.length ∧ (∀ y ∈ l1, x.severity < y.severity) ∧ s.nv.events = l1 ++ o :: l2 ∧
      o.severity ≤ x.severity) ∧
    (∃ (s : State) (c : FlushCause) (x : Record) (l1 : List Record), s.book.flushing = some (1, c) ∧ s.book.intake = [x] ∧
      x.body.part = 1 ∧ 1048576 ≤ s.nv.events.length ∧ (∀ y ∈ l1, x.severity < y.severity) ∧ s.nv.events = l1) := by
  obtain ⟨n, hn⟩ : ∃ n, 1048576 ≤ n := ⟨1048576, Nat.le_refl _⟩
  refine ⟨⟨fullEvents (List.replicate n (eventRec 1 4) ++ eventRec 2 1 :: []), .periodic, eventRec 7 1, eventRec 2 1, _, _, rfl, rfl,
      rfl, ?_, ?_, rfl, by decide⟩,
    fullEvents (List.replicate n (eventRec 1 4)), .periodic, eventRec 7 1, _, rfl, rfl, rfl, ?_, ?_, rfl⟩
  · simp only [fullEvents, List.length_append, List.length_replicate]; omega
  · intro y hy; rw [List.eq_of_mem_replicate hy]; decide
  · simpa only [fullEvents, List.length_replicate] using hn
  · intro y hy; rw [List.eq_of_mem_replicate hy]; decide

theorem met_configurationAccepted :
    (∃ (s : State), s.maint.booted.isSome = true ∧ s.maint.step = 5 ∧ s.maint.failed = false ∧ s.allInputsValid = true ∧
      s.cfg.pair.enable = true) ∧
    (∃ (s : State), s.maint.booted.isSome = true ∧ s.maint.step = 5 ∧ s.maint.failed = false ∧ s.allInputsValid = true ∧
      s.cfg.pair.enable = false ∧ s.pair.tokIn = false ∧ s.pair.tokenBarred = false ∧ s.sluice.safe = false ∧ (∀ d : Door,
      s.drv[d.1].isoBlocked = false)) ∧
    (∃ (s : State), ∃ d : Door, s.maint.booted.isSome = true ∧ s.maint.step = 5 ∧ s.maint.failed = false ∧
      s.allInputsValid = true ∧ s.fitted d = true ∧ s.keyOperated d = true) ∧
    (∃ (s : State), ∃ d : Door, s.maint.booted.isSome = true ∧ s.maint.step = 5 ∧ s.maint.failed = false ∧
      s.allInputsValid = true ∧ s.fitted d = true ∧ s.keyOperated d = false ∧ s.handleOperated d = true) ∧
    (∃ (s : State), ∃ d : Door, s.maint.booted.isSome = true ∧ s.maint.step = 5 ∧ s.maint.failed = false ∧
      s.allInputsValid = true ∧ s.fitted d = false) :=
  ⟨⟨pairOn ready, by decide⟩,
   ⟨ready, by decide⟩,
   ⟨inputAt 7 true ready, 3, by decide⟩,
   ⟨inputAt 6 false ready, 3, by decide⟩,
   ⟨oneDoor ready, 3, by decide⟩⟩

theorem met_heartbeatOnlyRestartsTimeout :
    (∃ (s : State), s.sluice.holding = false ∧ s.sluice.safe = false ∧ s.maint.failed = false) ∧
    (∃ (s : State), s.sluice.safe = true) :=
  ⟨⟨base, by decide⟩,
   ⟨{ base with sluice := { base.sluice with safe := true } }, by decide⟩⟩

theorem met_sluiceTakesSafeState :
    ∃ (s : State) (t : Nat) (c : Instr),
      let r := s.at t
      s.sluice.safe = false ∧ (c = .sluiceHeartbeatLoss t ∧ s.sluice.holding = false ∧
      s.sluice.lastBeat + ms s.cfg.pers.heartbeatMs ≤ r.ns ∨ c = .safeStateRequest t .runner ∧
      s.safety.reqLine.getLsbD 0 = true ∨ c = .safeStateRequest t .bedstone ∧ s.safety.reqLine.getLsbD 1 = true) ∧
      s.pair.formed = false ∧ s.sluice.latched = true :=
  ⟨{ base with safety := { base.safety with reqLine := 3 } }, 10000000, (.sluiceHeartbeatLoss 10000000 : Instr), by decide⟩

theorem met_millerRamErrorEndsHeartbeat : ∃ (s : State), s.maint.failed = true :=
  ⟨{ base with maint := { base.maint with failed := true } }, by decide⟩

theorem met_millTickLatches :
    (∃ (s : State), ∃ c : Ch, s.chFitted c = true) ∧
    (∃ (s : State), ∃ c : Ch, s.chFitted c = false) ∧
    (∃ (s : State), s.maint.configured = true) ∧
    (∃ (s : State), s.maint.configured = false) :=
  ⟨⟨{ base with enc := base.enc.set 3 { count := 5 } }, 0, by decide⟩,
   ⟨State.reset, 0, by decide⟩,
   ⟨{ base with enc := base.enc.set 3 { count := 5 } }, by decide⟩,
   ⟨State.reset, by decide⟩⟩

theorem met_stagingAcknowledge :
    (∃ (s : State) (c : Ch),
      let running := s.engineRuns c.door (if c.isStep then 3 else 2)
      running = true) ∧
    (∃ (s : State) (c : Ch),
      let running := s.engineRuns c.door (if c.isStep then 3 else 2)
      running = false) :=
  ⟨⟨base, 3, by decide⟩,
   ⟨enginesOff base, 3, by decide⟩⟩

theorem met_tickOrder :
    (∃ s : State, s.maint.configured = true) ∧ (∃ v : State, v.maint.failed = true) ∧ (∃ v : State, v.maint.failed = false) :=
  ⟨⟨base, by decide⟩, ⟨{ base with maint := { base.maint with failed := true } }, by decide⟩, ⟨base, by decide⟩⟩

theorem met_slotAccounting :
    (∃ k : SlotClass, ¬ (k = .starvedFront ∨ k = .starvedBack)) ∧
    (∃ (s : State) (c : Ch) (k : SlotClass), (k = .starvedFront ∨ k = .starvedBack) ∧ s.slot[c.1].mode.moving = true) ∧
    (∃ (s : State) (c : Ch) (k : SlotClass) (cycles : Nat), s.slot[c.1].starveBrake = true ∧
      (s.account c k cycles).slot[c.1].starveBrake = false) :=
  ⟨⟨.retired, by decide⟩, ⟨watched .travelOpen id, 0, .starvedBack, by decide⟩,
   ⟨(resting 0 base).modSlot 0 fun x => { x with starveBrake := true, retiredRun := 3 }, 0, .retired, 500, by decide⟩⟩

theorem met_modeResolution :
    (∃ (s : State) (c : Ch), s.modeStopped c = true) ∧
    (∃ (s : State) (c : Ch), s.modeStopped c = false ∧ s.modeBraked c = true) ∧
    (∃ (s : State) (c : Ch), ∃ m a, s.modeStopped c = false ∧ s.modeBraked c = false ∧ c.isStep = false ∧
      s.slot[c.1].mode.closing s.slot[c.1].arg = true ∧ (s.obs[c.door.1].detClose || s.obs[c.door.1].latch) = true ∧
      s.slot[c.1].req = some (m, a) ∧ m ≠ .reverse) ∧
    (∃ (s : State) (c : Ch), s.modeStopped c = false ∧ s.modeBraked c = false ∧ (s.obs[c.door.1].detClose || s.obs[c.door.1].latch) = false ∧
      s.slot[c.1].req = none) ∧
    (∃ (s : State) (c : Ch), ∃ m a, s.modeStopped c = false ∧ s.modeBraked c = false ∧
      (s.obs[c.door.1].detClose || s.obs[c.door.1].latch) = false ∧ s.slot[c.1].req = some (m, a) ∧ m.needsAngle = true ∧
      s.hasAngle c.door = true) ∧
    (∃ (s : State) (c : Ch), ∃ m a, s.modeStopped c = false ∧ s.modeBraked c = false ∧
      (s.obs[c.door.1].detClose || s.obs[c.door.1].latch) = false ∧ s.slot[c.1].req = some (m, a) ∧ c.isStep = false ∧
      m.needsAngle = true ∧ s.hasAngle c.door = false) :=
  let ask := fun (s : State) => s.modSlot 0 fun x => { x with req := some (.hold, 5) }
  ⟨⟨base, 0, by decide⟩,
   ⟨(watched .travelOpen id).modSlot 0 fun x => { x with starveBrake := true }, 0, by decide⟩,
   ⟨ask (watched .travelClose fun o => { o with latch := true }), 0, .hold, 5, by decide⟩,
   ⟨watched .travelOpen id, 0, by decide⟩,
   ⟨ask (watched .travelOpen id), 0, .hold, 5, by decide⟩,
   ⟨(ask (watched .travelOpen fun o => { o with noCal := true })).modSlot 0 fun x => { x with alignCount := none }, 0, .hold, 5, by decide⟩⟩

theorem met_encoderEdge :
    (∃ (s : State) (c : Ch), s.encRuns c = false) ∧
    (∃ (s : State) (t : Nat) (c : Ch) (a b : Bool), ∃ p,
      let r := s.at t
      let e := s.enc[c.1]
      s.chFitted c = true ∧ s.encRuns c = true ∧ (phaseStep e.a e.b a b = 1 ∨ phaseStep e.a e.b a b = 3) ∧ e.edgeAt = some p ∧
      r.ns - p < (s.encCfg c).minEdgeNs ∧ c.isStep = false) ∧
    (∃ (s : State) (c : Ch) (a b : Bool),
      let e := s.enc[c.1]
      s.chFitted c = true ∧ s.encRuns c = true ∧ (phaseStep e.a e.b a b = 1 ∨ phaseStep e.a e.b a b = 3) ∧ c.isStep = true) :=
  ⟨⟨enginesOff base, 3, by decide⟩,
   ⟨{ base with enc := base.enc.set 3 { edgeAt := some base.ns } }, 5, 3, false, true, 1000000000, by decide⟩,
   ⟨base, 19, false, true, by decide⟩⟩

/-- Entry 4 of doorway 1 is met from its approach side and fires alone; a set output command; a set without an entry met; a stopped engine. -/
theorem met_compareFires :
    (∃ (s : State) (d : Door), s.engineRuns d 6 = false ∨ s.cmp[d.1].set = none) ∧
    (∀ action : Fin 9, action.1 ≠ 0 → ∃ (s : State) (d : Door) (old new : Int) (opening : Bool) (k : Fin 32),
      let at_ := fun (k : Fin 32) => s.cfg.door[d.1].cmp[k.1]
      let used := fun (k : Fin 32) => inSet opening k = true ∧ (at_ k).action ≠ 0
      s.engineRuns d 6 = true ∧ s.cmp[d.1].set = some opening ∧ used k ∧ (at_ k).action = action.1 ∧
      (new = (at_ k).pos ∧ old = if opening then ((at_ k).pos : Int) - 1 else ((at_ k).pos : Int) + 1) ∧
      s.cmp[d.1].armed.getLsbD k.1 = true ∧ (∀ j : Fin 32, j ≠ k → used j → (at_ j).pos ≠ (at_ k).pos)) ∧
    (∃ (s : State) (d : Door) (old new : Int) (opening : Bool),
      let at_ := fun (k : Fin 32) => s.cfg.door[d.1].cmp[k.1]
      s.engineRuns d 6 = true ∧ s.cmp[d.1].set = some opening ∧ ∀ k : Fin 32, inSet opening k = true ∧ (at_ k).action ≠ 0 →
        ¬ (new = (at_ k).pos ∧ old = if opening then ((at_ k).pos : Int) - 1 else ((at_ k).pos : Int) + 1)) :=
  ⟨⟨enginesOff base, 0, by decide⟩,
   fun a h => ⟨comparing { pos := 100, action := a.1, arg := 1 } 8, 0, 99, 100, true, 3, by revert h; revert a; decide⟩,
   ⟨comparing { pos := 100, action := 3 } 8, 0, 98, 99, true, by decide⟩⟩

theorem met_compareArms :
    (∃ (s : State) (d : Door) (opening : Bool),
      let at_ := fun (k : Fin 32) => s.cfg.door[d.1].cmp[k.1]
      let used := fun (k : Fin 32) => inSet opening k = true ∧ (at_ k).action ≠ 0
      let behind := fun (k : Fin 32) => if opening then (at_ k).pos ≤ s.enc[d.ch.1].stroke else s.enc[d.ch.1].stroke ≤ (at_ k).pos
      ∀ k, used k → behind k → (at_ k).action ≠ 1) ∧
    (∃ (s : State) (d : Door) (opening : Bool),
      let at_ := fun (k : Fin 32) => s.cfg.door[d.1].cmp[k.1]
      let used := fun (k : Fin 32) => inSet opening k = true ∧ (at_ k).action ≠ 0
      let behind := fun (k : Fin 32) => if opening then (at_ k).pos ≤ s.enc[d.ch.1].stroke else s.enc[d.ch.1].stroke ≤ (at_ k).pos
      (∃ k, used k ∧ behind k ∧ (at_ k).action = 1) ∧ ∀ k, used k → behind k → (at_ k).action ≠ 2) :=
  ⟨⟨comparing { pos := 100, action := 1 } 0, 0, true, by decide⟩, ⟨comparing { pos := 0, action := 1 } 0, 0, true, by decide⟩⟩

theorem met_illegalTransition :
    ∃ (s : State) (c : Ch) (a b : Bool), s.chFitted c = true ∧ s.encRuns c = true ∧ a ≠ s.enc[c.1].a ∧ b ≠ s.enc[c.1].b :=
  ⟨base, 19, true, true, by decide⟩

theorem met_indexPulseNeverCorrects :
    ∃ (s : State) (c : Ch) (z : Bool), s.chFitted c = true ∧ s.encRuns c = true ∧ (s.encCfg c).indexGate = false ∧ z = true ∧
      s.enc[c.1].z = false :=
  ⟨base, 19, true, by decide⟩

theorem met_encoderFaults :
    (∃ (s : State) (t : Nat) (c : Ch), ∃ i : Instr,
      let e := s.enc[c.1]
      s.chFitted c = true ∧ (i = .encoderLineFault t c true ∨ i = .encoderSupplyFault t c true) ∧ e.encFlt = false) ∧
    (∃ (s : State) (t : Nat) (c : Ch), ∃ i : Instr, s.chFitted c = true ∧ (i = .encoderLineFault t c true ∨
      i = .encoderSupplyFault t c true) ∧ (s.cyc[c.door.1].state = .closedLocked ∨ s.cyc[c.door.1].state = .released)) ∧
    (∃ (s : State) (t : Nat) (c : Ch),
      let r := s.at t
      let e := s.enc[c.1]
      s.chFitted c = true ∧ e.encFlt = true ∧ e.lineBad = false ∧ e.supplyBad = false ∧ e.faultAt + 1000000000 ≤ r.ns) ∧
    (∃ (s : State) (t : Nat) (c : Ch),
      let r := s.at t
      let e := s.enc[c.1]
      s.chFitted c = true ∧ e.encFlt = true ∧ e.lineBad = false ∧ e.supplyBad = false ∧ r.ns < e.faultAt + 1000000000) :=
  ⟨⟨door1 base .closedLocked, 5, 0, (.encoderLineFault 5 0 true : Instr), by decide⟩,
   ⟨door1 base .closedLocked, 5, 0, (.encoderLineFault 5 0 true : Instr), by decide⟩,
   ⟨base.modEnc 0 (fun e => { e with encFlt := true, faultAt := 5 }), 1000000005, 0, by decide⟩,
   ⟨base.modEnc 0 (fun e => { e with encFlt := true, faultAt := 1000000000 }), 1000000005, 0, by decide⟩⟩

theorem met_curLegSwitches :
    (∃ (s : State) (t : Nat) (d : Door) (leg : Fin 3) (ma : Int),
      let r := s.at t
      let g := s.cfg.door[d.1].drive
      let x := (r.outputsDue d).drv[d.1]
      let ref := (x.refsNow r.ns)[leg.1]
      x.bridgeOn = true ∧ x.lowBrk = false ∧ s.engineRuns d 2 = true ∧ x.legs[leg.1].dwell = none ∧
      2 * ma < 2 * ref - g.bandMa ∧ x.legs[leg.1].high = false) ∧
    (∃ (s : State) (t : Nat) (d : Door) (leg : Fin 3) (ma : Int),
      let r := s.at t
      let g := s.cfg.door[d.1].drive
      let x := (r.outputsDue d).drv[d.1]
      let ref := (x.refsNow r.ns)[leg.1]
      x.bridgeOn = true ∧ x.lowBrk = false ∧ s.engineRuns d 2 = true ∧ x.legs[leg.1].dwell = none ∧
      ¬ 2 * ma < 2 * ref - g.bandMa ∧ 2 * ref + g.bandMa < 2 * ma ∧ x.legs[leg.1].high = true) ∧
    (∃ (s : State) (t : Nat) (d : Door) (leg : Fin 3),
      ((s.at t).outputsDue d).drv[d.1].legs[leg.1].dwell ≠ none) :=
  ⟨⟨switching, 5, 0, 0, 100, by decide⟩,
   ⟨switching, 5, 0, 1, 100, by decide⟩,
   ⟨switching, 5, 0, 2, by decide⟩⟩

theorem met_dwellAndDeadTimeEnd :
    (∃ (s : State) (t : Nat) (d : Door) (leg : Fin 3),
      let x := ((s.at t).outputsDue d).drv[d.1]
      due x.legs[leg.1].dwell (s.at t).ns = true ∧ x.lowOff = none ∧ x.lowBrk = false) ∧
    (∃ (s : State) (t : Nat) (d : Door) (leg : Fin 3),
      let x := ((s.at t).outputsDue d).drv[d.1]
      due x.legs[leg.1].dwell (s.at t).ns = true ∧ x.lowOff = none ∧ x.lowBrk = true) ∧
    (∃ (s : State) (t : Nat) (d : Door),
      let x := ((s.at t).outputsDue d).drv[d.1]
      due x.lowOff (s.at t).ns = true ∧ x.lowBrk = true ∧ ∃ k : Fin 3, x.legs[k.1].dwell = none ∧ x.legs[k.1].on = false) ∧
    (∃ (s : State) (t : Nat) (d : Door) (leg : Fin 3),
      let x := ((s.at t).outputsDue d).drv[d.1]
      due x.legs[leg.1].dead (s.at t).ns = true) ∧
    (∃ (s : State) (t : Nat) (d : Door),
      let x := ((s.at t).outputsDue d).drv[d.1]
      due x.stepDead (s.at t).ns = true) :=
  ⟨⟨switching, 5, 0, 2, by decide⟩,
   ⟨switching.modDrv 0 (fun x => { x with lowBrk := true }), 5, 0, 2, by decide⟩,
   ⟨switching.modDrv 0 (fun x => { x with lowBrk := true, lowOff := some 4, bridgeOn := false, stepDead := some 4 }), 5, 0, by decide⟩,
   ⟨switching, 5, 0, 2, by decide⟩,
   ⟨switching.modDrv 0 (fun x => { x with lowBrk := true, lowOff := some 4, bridgeOn := false, stepDead := some 4 }), 5, 0, by decide⟩⟩

theorem met_stepPwmPeriod :
    (∃ (s : State) (t : Nat) (d : Door), let r := s.at t
      (r.ns + 50000 - s.cfg.step[d.1].drive.phaseOffsetNs % 50000) % 50000 = 0 ∧ s.stepFitted d = true ∧ s.engineRuns d 3 = true ∧
      r.stepBridgeOn d = false) ∧
    (∀ m : Fin 2, ∃ (s : State) (t : Nat) (d : Door), let r := s.at t
      (r.ns + 50000 - s.cfg.step[d.1].drive.phaseOffsetNs % 50000) % 50000 = 0 ∧ s.stepFitted d = true ∧ s.engineRuns d 3 = true ∧
      r.stepBridgeOn d = true ∧ (s.drv[d.1].shadowNow r.ns).mode = if m = 0 then .coast else .brake) ∧
    (∃ (s : State) (t : Nat) (d : Door), ∃ run,
      let r := s.at t
      let g := s.cfg.step[d.1].drive
      let w := s.drv[d.1].shadowNow r.ns
      let c := w.duty.toNat * 625 / 256
      let thr := (g.minPulseNs + g.deadNs) / 5
      (r.ns + 50000 - g.phaseOffsetNs % 50000) % 50000 = 0 ∧ s.stepFitted d = true ∧ s.engineRuns d 3 = true ∧ r.stepBridgeOn d = true ∧
      w.mode = .drive ∧ run < 7 ∧ c < thr) ∧
    (∃ (s : State) (t : Nat) (d : Door), ∃ run,
      let r := s.at t
      let g := s.cfg.step[d.1].drive
      let w := s.drv[d.1].shadowNow r.ns
      let c := w.duty.toNat * 625 / 256
      let thr := (g.minPulseNs + g.deadNs) / 5
      (r.ns + 50000 - g.phaseOffsetNs % 50000) % 50000 = 0 ∧ s.stepFitted d = true ∧ s.engineRuns d 3 = true ∧ r.stepBridgeOn d = true ∧
      w.mode = .drive ∧ run < 7 ∧ thr ≤ c ∧ 10000 - c < thr) ∧
    (∃ (s : State) (t : Nat) (d : Door), ∃ run,
      let r := s.at t
      let g := s.cfg.step[d.1].drive
      let w := s.drv[d.1].shadowNow r.ns
      let c := w.duty.toNat * 625 / 256
      let thr := (g.minPulseNs + g.deadNs) / 5
      (r.ns + 50000 - g.phaseOffsetNs % 50000) % 50000 = 0 ∧ s.stepFitted d = true ∧ s.engineRuns d 3 = true ∧ r.stepBridgeOn d = true ∧
      w.mode = .drive ∧ run < 7 ∧ thr ≤ c ∧ thr ≤ 10000 - c) ∧
    (∃ (s : State) (t : Nat) (d : Door), ∃ run,
      let r := s.at t
      let g := s.cfg.step[d.1].drive
      let w := s.drv[d.1].shadowNow r.ns
      (r.ns + 50000 - g.phaseOffsetNs % 50000) % 50000 = 0 ∧ s.stepFitted d = true ∧ s.engineRuns d 3 = true ∧ r.stepBridgeOn d = true ∧
      w.mode = .drive ∧ 7 ≤ run) :=
  ⟨⟨{ base with pair := { base.pair with token := false } }, 5, 0, by decide⟩,
   fun m => ⟨base.modDrv 0 fun x => { x with shadow := { x.shadow with mode := if m = 0 then .coast else .brake } }, 5, 0, by
     revert m; decide⟩,
   ⟨stepPwm 1 0, 5, 0, (1:Nat), by decide⟩,
   ⟨stepPwm 4095 3, 5, 0, (1:Nat), by decide⟩,
   ⟨stepPwm 100 0, 5, 0, (1:Nat), by decide⟩,
   ⟨stepPwm 1 0, 5, 0, (900:Nat), by decide⟩⟩

theorem met_adcSequences :
    (∃ (s : State) (t : Nat) (d : Door),
      let r := s.at t
      s.fitted d = true ∧ r.ns % 5000 = 0 ∧ r.bankBusy d = false) ∧
    (∃ (s : State) (t : Nat) (d : Door),
      let r := s.at t
      s.fitted d = true ∧ r.ns % 5000 = 0 ∧ r.bankBusy d = true) ∧
    (∃ (s : State) (t : Nat) (d : Door),
      let r := s.at t
      let x := s.drv[d.1]
      due x.busy r.ns = true ∧ x.busyCap = false) :=
  ⟨⟨switching, 5, 0, by decide⟩,
   ⟨switching.modDrv 0 (fun x => { x with busy := some (base.ns + 3000) }), 5, 0, by decide⟩,
   ⟨switching.modDrv 0 (fun x => { x with busy := some (base.ns), bank := [none,none,none,none,none] }), 5, 0, by decide⟩⟩

theorem met_capConversion :
    (∃ (s : State) (t : Nat) (q : InjectReq),
      let r := s.at t
      s.capture.req = some q ∧ s.engineRuns q.door 11 = true ∧ r.sampled = true ∧ (InjectReq.singles q) ≠ [] ∧ r.ns % 125000 = 20 * q.capPhase ∧
      r.bankBusy q.door = false) ∧
    (∃ (s : State) (q : InjectReq), s.capture.req = some q ∧ s.engineRuns q.door 11 = false) ∧
    (∃ (s : State) (t : Nat) (q : InjectReq),
      let r := s.at t
      s.capture.req = some q ∧ due s.drv[q.door.1].busy r.ns = true ∧ s.drv[q.door.1].busyCap = true) :=
  ⟨⟨{ capturing with capture := { capturing.capture with req := some injectSingles, sampleTick := some 8000 } }, 5, injectSingles, by decide⟩,
   ⟨enginesOff capturing, inj, by decide⟩,
   ⟨capturing.modDrv 0 (fun x => { x with busy := some 4, busyCap := true}), 5, inj, by decide⟩⟩

theorem met_isolationPairsSensed :
    (∃ (s : State), ∃ d : Door, s.drv[d.1].pairsCmd = true ∧ s.drv[d.1].isoFaulted = false) ∧
    (∃ (s : State), ∃ d : Door, s.drv[d.1].pairsCmd = false ∧ s.drv[d.1].isoBlocked = false ∧ s.drv[d.1].brakeAsked = true) ∧
    (∃ (s : State), ∃ d : Door, s.drv[d.1].pairsCmd = true ∧ s.drv[d.1].pairsSensed = true) ∧
    (∃ (s : State), (∀ d : Door, s.drv[d.1].pairsCmd = false ∧ s.drv[d.1].isoBlocked = false) ∧ (s.pair.releasing = true ∨
      s.pair.tokenBarred = true)) :=
  let s : State := { base with
    drv := Vector.replicate 16 { pairsSensed := true, brakeAsked := true }, pair := { base.pair with tokenBarred := true } }
  ⟨⟨base.modDrv 0 (fun x => { x with pairsCmd := true, brakeAsked := true }), 0, by decide⟩,
   ⟨s, 0, by decide⟩,
   ⟨base.modDrv 0 (fun x => { x with pairsCmd := true, pairsSensed := true }), 0, by decide⟩,
   ⟨s, by decide⟩⟩

theorem met_isolationFault :
    (∃ (s : State) (t : Nat) (d : Door) (phases : BitVec 3),
      let st := s.cyc[d.1].state
      s.fitted d = true ∧ st ≠ .isolated ∧ st ≠ .faultHeld ∧ phases ≠ 0 ∧ s.drv[d.1].pairsAt + 20000 ≤ (s.at t).ns ∧
      s.drv[d.1].pairsCmd = true ∧ s.drv[d.1].pairsSensed = false) ∧
    (∃ (s : State) (t : Nat) (d : Door) (phases : BitVec 3), ∃ c : Instr,
      let st := s.cyc[d.1].state
      s.fitted d = true ∧ st ≠ .isolated ∧ st ≠ .faultHeld ∧ phases ≠ 0 ∧ s.drv[d.1].pairsAt + 20000 ≤ (s.at t).ns ∧
      s.drv[d.1].pairsCmd = false ∧ s.drv[d.1].isoBlocked = false ∧ (c = .isolationPairConducting t d phases ∨
      c = .isolationPairTimeout t d phases)) :=
  ⟨⟨(door1 base .open).modDrv 0 (fun x => { x with pairsCmd := true }), 5, 0, 1, by decide⟩,
   ⟨(door1 base .closedLocked).modDrv 0 (fun x => { x with pairsSensed := true }), 5, 0, 5,
    (.isolationPairConducting 5 0 5 : Instr), by decide⟩⟩

theorem met_brakingLimits :
    (∃ (s : State) (t : Nat) (d : Door), ∃ ma : Nat,
      let g := s.cfg.door[d.1].drive
      let x := ((s.at t).outputsDue d).drv[d.1]
      x.lowBrk = true ∧ x.lowOff = none ∧ g.brakeLimitMa < ma) ∧
    (∃ (s : State) (t : Nat) (d : Door), ∃ b : Nat,
      let r := s.at t
      s.drv[d.1].brake = some b ∧ b ≤ r.ns) :=
  ⟨⟨base.modDrv 3 (fun x => { x with lowBrk := true, brake := some 5 }), 5, 3, 7000, by decide⟩,
   ⟨base.modDrv 3 (fun x => { x with lowBrk := true, brake := some 5 }), 5, 3, 5, by decide⟩⟩

theorem met_dvSupply :
    (∃ (s : State) (p : Fin 2) (dv : Nat), ∃ d : Door, dv < 600 ∧ s.sup[p.1].uv = false ∧ supplyOf d = p ∧
      s.fitted d = true ∧ s.stepFitted d = true) ∧
    (∃ (s : State) (p : Fin 2) (dv : Nat), ∃ d : Door, dv < 600 ∧ s.sup[p.1].uv = false ∧ supplyOf d ≠ p) ∧
    (∃ (s : State) (d : Door) (k : Nat), s.sup[(supplyOf d).1].uv = true ∧ s.drv[d.1].dvBrake = some k ∧ k + 2 ≤ s.tick ∧
      s.enc[d.ch.1].still = true ∧ s.drv[d.1].dvBrakeStep = none ∧ s.drv[d.1].dvStopped = false) ∧
    (∃ (p : Fin 2), ∃ d : Door, supplyOf d = p) ∧
    (∃ (p : Fin 2), ∃ d : Door, supplyOf d ≠ p) :=
  ⟨⟨base, 1, 500, 15, by decide⟩,
   ⟨base, 0, 500, 15, by decide⟩,
   ⟨{ base.modDrv 15 (fun x => { x with dvBrake := some 7998 }) with
      enc := Vector.replicate 32 { hist := List.replicate 161 0 }
      sup := Vector.replicate 2 { uv := true } }, 15, 7998, by decide⟩,
   ⟨0, 0, by decide⟩,
   ⟨0, 15, by decide⟩⟩

theorem met_weirTripLatches :
    (∃ (s : State) (c : Ch) (cause : TripCause) (ma : Nat), s.chFitted c = true ∧ (s.weirOf c).trip = none ∧
      (cause = .overCurrent → s.weirOc c < ma) ∧ c.isStep = false ∧ s.enc[c.door.ch.1].still = false) ∧
    (∃ (s : State) (c : Ch) (cause : TripCause) (ma : Nat), s.chFitted c = true ∧ (s.weirOf c).trip = none ∧
      (cause = .overCurrent → s.weirOc c < ma) ∧ c.isStep = true) ∧
    (∃ (s : State) (t : Nat) (c : Ch) (cause : TripCause) (ma : Nat),
      let d := c.door
      s.chFitted c = true ∧ (s.weirOf c).trip = none ∧ (cause = .overCurrent → s.weirOc c < ma) ∧
      s.autoClearMax c ≤ (((s.at t).ns :: (s.weirOf c).times).filter fun x => (s.at t).ns < x + 10000000000).length ∧
      s.fitted d = true ∧ s.cyc[d.1].state ≠ .isolated ∧ s.cyc[d.1].state ≠ .faultHeld) :=
  ⟨⟨(door1 switching .open), 0, .overCurrent, 20000, by decide⟩,
   ⟨(door1 switching .open), 16, .desaturation, 20000, by decide⟩,
   ⟨(door1 switching .open).modDrv 0 (fun x => { x with weir := { times := [base.ns, base.ns] }}), 5, 0, .gateSupply, 20000, by decide⟩⟩

theorem met_weirClears :
    (∃ (s : State) (c : Ch) (cause : TripCause), (s.weirOf c).trip = some cause ∧ s.maint.failed = true) ∧
    (∃ (s : State) (t : Nat) (c : Ch) (cause : TripCause),
      let r := s.at t
      let w := s.weirOf c
      w.trip = some cause ∧ s.maint.failed = false ∧ w.held = false ∧ due w.clearAt r.ns = true ∧ (∀ f, w.firstClear = some f → r.ns < f + ms 1000)) ∧
    (∃ (s : State) (t : Nat) (c : Ch) (cause : TripCause), ∃ f,
      let r := s.at t
      let w := s.weirOf c
      w.trip = some cause ∧ s.maint.failed = false ∧ w.held = false ∧ due w.clearAt r.ns = true ∧ w.firstClear = some f ∧ f + ms 1000 ≤ r.ns ∧
      s.fitted c.door = true ∧ s.cyc[c.door.1].state ≠ .isolated ∧ s.cyc[c.door.1].state ≠ .faultHeld) ∧
    (∃ (s : State) (c : Ch) (cause : TripCause), ∃ sense : WeirSense,
      let w := s.weirOf c
      w.trip = some cause ∧ w.requested = true ∧ sense.ma * 10 < 9 * s.weirOc c ∧ sense.switchesOff = true ∧
      sense.gateOk = true) ∧
    (∃ (s : State) (c : Ch) (cause : TripCause), ∃ sense : WeirSense,
      let w := s.weirOf c
      w.trip = some cause ∧ w.requested = true ∧ (9 * s.weirOc c ≤ sense.ma * 10 ∨ sense.switchesOff = false ∨
      sense.gateOk = false)) :=
  ⟨⟨let s := tripped id; { s with maint := { s.maint with failed := true } }, 0, .overCurrent, by decide⟩,
   ⟨tripped (fun w => { w with clearAt := some 5 }), 5, 0, .overCurrent, by decide⟩,
   ⟨tripped (fun w => { w with clearAt := some 5, firstClear := some 0 }), 5, 0, .overCurrent, 0, by decide⟩,
   ⟨tripped (fun w => { w with requested := true }), 0, .overCurrent, (⟨8999, true, true⟩ : WeirSense), by decide⟩,
   ⟨tripped (fun w => { w with requested := true }), 0, .overCurrent, (⟨9000, true, true⟩ : WeirSense), by decide⟩⟩

theorem met_governorHold :
    (∃ (s : State) (t : Nat), ∃ w : Nat, ∃ k,
      let r := s.at t
      s.cfg.pers.budgetW < w ∧ s.millerRuns = true ∧ k < r.tick + 800) ∧
    (∃ (s : State) (t : Nat), ∃ x : Nat,
      let r := s.at t
      s.maint.failed = false ∧ s.gov.hold = true ∧ s.gov.lastOver = some x ∧ x + 800 ≤ r.tick) ∧
    (∃ (s : State) (t : Nat), ∃ x,
      let r := s.at t
      x ∈ s.gov.res ∧ r.tick < x.stop + 80000 ∧ x.start ≤ r.tick ∧ r.tick < x.stop) ∧
    (∃ (s : State) (t : Nat), ∃ x,
      let r := s.at t
      x ∈ s.gov.res ∧ r.tick < x.stop + 80000 ∧ x.stop ≤ r.tick) ∧
    (∃ (s : State) (t : Nat), ∃ k,
      let r := s.at t
      r.tick ≤ k) :=
  ⟨⟨base, 5, 3000, 3000, by decide⟩,
   ⟨{ base with gov := { hold := true, lastOver := some 7100, res := [reservation1] } }, 5, 7100, by decide⟩,
   ⟨{ base with gov := { hold := true, lastOver := some 7100, res := [reservation1] } }, 5, reservation1, by decide⟩,
   ⟨{ base with gov := { res := [reservation1] } }, 2000000000, reservation1, by decide⟩,
   ⟨{ base with gov := { hold := true, lastOver := some 7100, res := [reservation1, { reservation1 with stop := 10, start := 1, stageEnd := 5}, {reservation1 with ended := true}] } },
    5, 8500, by decide⟩⟩

theorem met_alignGivesAngle :
    (∃ (s : State) (t : Nat) (d : Door) (a : Nat),
      s.slot[d.ch.1].mode = .align ∧ s.slot[d.ch.1].alignAt = some a ∧ a + ms 200 ≤ (s.at t).ns ∧ s.decides = false) ∧
    (∃ (s : State) (t : Nat) (d : Door) (a : Nat),
      s.slot[d.ch.1].mode = .align ∧ s.slot[d.ch.1].alignAt = some a ∧ a + ms 200 ≤ (s.at t).ns ∧ s.decides = true ∧
      s.cyc[d.1].state = .unlocking ∧ s.cyc[d.1].unlocked = false) :=
  ⟨⟨{ aligning with maint := { aligning.maint with failed := true } }, 5, 0, 5, by decide⟩, ⟨aligning, 5, 0, 5, by decide⟩⟩

theorem met_observerDetects :
    (∃ (s : State) (d : Door), s.obsArmed d = false) ∧
    (∃ (s : State) (d : Door) (opening : Bool), s.obsArmed d = true ∧ s.slot[d.ch.1].watches = some opening ∧
      ¬ ((if opening then (s.obsCfg d).openThreshold else (s.obsCfg d).closeThreshold : Nat) : Rat) <
        s.obs[d.1].residual opening - min (s.obs[d.1].bias opening) 0) ∧
    (∀ n : Fin 2, ∃ (s : State) (d : Door) (opening : Bool), s.obsArmed d = true ∧ s.slot[d.ch.1].watches = some opening ∧
      ((if opening then (s.obsCfg d).openThreshold else (s.obsCfg d).closeThreshold : Nat) : Rat) <
        s.obs[d.1].residual opening - min (s.obs[d.1].bias opening) 0 ∧
      (if n = 0 then s.obs[d.1].confirm + 1 < (s.obsCfg d).confirm else (s.obsCfg d).confirm ≤ s.obs[d.1].confirm + 1)) ∧
    (∃ d e : Door, e ≠ d) :=
  ⟨⟨base, 0, by decide⟩,
   ⟨watched .travelOpen id, 0, true, by decide +kernel⟩,
   fun n => ⟨watched .travelClose fun o => { o with fHat := 500, confirm := n.1 }, 0, false, by revert n; decide +kernel⟩,
   ⟨0, 1, by decide⟩⟩

theorem met_biasTracks :
    (∀ q : Bool, ∃ (s : State) (d : Door) (m : DoorMeas) (opening : Bool), s.slot[d.ch.1].mode.travel = some opening ∧
      s.obs[d.1].noCal = false ∧ s.biasQualifies d m = q) ∧
    (∃ (s : State) (d : Door), s.obs[d.1].nX < (s.obsCfg d).minPeriods) ∧
    (∃ (s : State) (d : Door), ¬ (s.obs[d.1].nX < (s.obsCfg d).minPeriods ∨ s.obs[d.1].spoilt = true ∨ s.obs[d.1].noCal = true)) :=
  let m : DoorMeas := { iqM := 0, iqRef := 0, cog := 0, a := 0, vf := 900, vset := 900, dvLow := false }
  ⟨fun q => ⟨(watched .travelOpen id).modCmp 0 fun c => { c with window := !q }, 0, m, true, by revert q; decide +kernel⟩,
   ⟨base, 0, by decide⟩, ⟨watched .travelOpen fun o => { o with nX := 300 }, 0, by decide⟩⟩

theorem met_edgeFaultAndClear :
    (∃ (s : State) (t : Nat) (d : Door) (ch : SafetyCh) (a : Nat),
      let r := s.at t
      (s.chan ch).edgeDisc[d.1] = some a ∧ s.edgeFltOf ch d = false ∧ a + ms (s.edgeDiscMs ch d) < r.ns) ∧
    (∃ (s : State) (t : Nat) (d : Door) (ch : SafetyCh) (a : Nat),
      let r := s.at t
      (s.chan ch).edgeOkAt[d.1] = some a ∧ a + ms 1000 ≤ r.ns ∧ s.slot[d.ch.1].mode.closing s.slot[d.ch.1].arg = false) :=
  ⟨⟨edgeDiscrepant, 2000000000, 3, .runner, 5, by decide⟩,
   ⟨edgeDiscrepant, 2000000000, 3, .runner, 5, by decide⟩⟩

theorem met_stepStall :
    (∃ (s : State) (t : Nat) (d : Door), ∃ a,
      let r := s.at t
      let y := s.cyc[d.1]
      s.decides = true ∧ s.obs[d.1].stallAt = some a ∧ a + ms (s.stepCfg d).stallMs ≤ r.ns ∧ y.step = .extending ∧
      (s.stepCfg d).stallExtended = true) ∧
    (∃ (s : State) (t : Nat) (d : Door), ∃ a,
      let r := s.at t
      let y := s.cyc[d.1]
      s.decides = true ∧ s.obs[d.1].stallAt = some a ∧ a + ms (s.stepCfg d).stallMs ≤ r.ns ∧ y.step = .retracting ∧ y.stepRetried = false) ∧
    (∃ (s : State) (t : Nat) (d : Door), ∃ a,
      let r := s.at t
      let y := s.cyc[d.1]
      s.decides = true ∧ s.obs[d.1].stallAt = some a ∧ a + ms (s.stepCfg d).stallMs ≤ r.ns ∧ y.step = .retracting ∧ y.stepRetried = true) ∧
    (∃ (s : State) (t : Nat) (d : Door), ∃ a,
      let r := s.at t
      let y := s.cyc[d.1]
      s.decides = true ∧ y.stepHold = some a ∧ a ≤ r.ns ∧ y.step = .retracting) :=
  ⟨⟨stalling (fun y => { y with step := .extending }) true, 2000000000, 0, 5, by decide⟩,
   ⟨stalling (fun y => { y with step := .retracting, stepHold := some 5 }) false, 2000000000, 0, 5, by decide⟩,
   ⟨stalling (fun y => { y with step := .retracting, stepRetried := true, stepHold := some 5 }) false, 2000000000, 0, 5, by decide⟩,
   ⟨stalling (fun y => { y with step := .retracting, stepHold := some 5 }) false, 2000000000, 0, 5, by decide⟩⟩

/-- A key, a lost lock, a handle, a returned key, an encoder fault at rest, and none of them. -/
theorem met_earlyTransitions :
    (∃ (s : State) (d : Door), s.fitted d = true ∧ s.cyc[d.1].state ≠ .isolated ∧ s.keyOperated d = true) ∧
    (∃ (s : State) (d : Door), s.fitted d = true ∧ s.cyc[d.1].state = .isolated ∧ s.keyOperated d = true ∧ s.cyc[d.1].encRest = false) ∧
    (∀ q : Bool, ∃ (s : State) (d : Door), s.fitted d = true ∧ s.cyc[d.1].state = .isolated ∧ s.keyOperated d = false ∧
      s.handleOperated d = false ∧ s.partnerIso = false ∧ s.cyc[d.1].encRest = false ∧ s.enc[d.ch.1].encFlt = false ∧
      (decide (s.enc[d.ch.1].ref = true ∧ s.enc[d.ch.1].faultIsolated = false ∧ s.closedRead d = true ∧ s.lockRead d = true ∧
        s.enc[d.ch.1].stroke.natAbs ≤ (s.encCfg d.ch).closedWindow)) = q) ∧
    (∃ (s : State) (d : Door), s.fitted d = true ∧ s.cyc[d.1].state = .closedLocked ∧ s.lockRead d = false ∧ s.keyOperated d = false) ∧
    (∃ (s : State) (d : Door), s.fitted d = true ∧ s.cyc[d.1].state = .closing ∧ s.keyOperated d = false ∧ s.handleOperated d = true) ∧
    (∃ (s : State) (d : Door), s.fitted d = true ∧ s.cyc[d.1].state = .closing ∧ s.keyOperated d = false ∧ s.handleOperated d = false ∧
      s.cyc[d.1].encRest = true ∧ s.enc[d.ch.1].still = true) ∧
    (∃ (s : State) (d : Door), s.fitted d = true ∧ s.cyc[d.1].state = .closing ∧ s.keyOperated d = false ∧ s.handleOperated d = false ∧
      s.cyc[d.1].encRest = false) :=
  ⟨⟨door1 (inputAt 7 true shut) .closing, 0, by decide⟩, ⟨door1 (inputAt 7 true shut) .isolated, 0, by decide⟩,
   fun q => ⟨resting (if q then 0 else 500) (door1 shut .isolated), 0, by revert q; decide⟩,
   ⟨door1 ajar .closedLocked, 0, by decide⟩, ⟨door1 (inputAt 6 false ajar) .closing, 0, by decide⟩,
   ⟨resting 500 (door1 ajar .closing fun y => { y with encRest := true }), 0, by decide⟩, ⟨door1 ajar .closing, 0, by decide⟩⟩

theorem met_motionTransitions :
    (∃ (s : State) (d : Door), s.slot[d.ch.1].brakeEnded = false ∧ s.cyc[d.1].state = .locking ∧ s.slot[d.ch.1].mode = .reverse) ∧
    (∃ (s : State) (d : Door), s.slot[d.ch.1].brakeEnded = false ∧ s.cyc[d.1].state = .opening ∧ s.slot[d.ch.1].mode ≠ .reverse ∧
      s.obs[d.1].detOpen = true) ∧
    (∃ (s : State) (d : Door), s.slot[d.ch.1].brakeEnded = false ∧ s.cyc[d.1].state = .reversing ∧ s.cyc[d.1].openWanted = false ∧
      s.obs[d.1].detOpen = true ∧ s.slot[d.ch.1].rphase = true) ∧
    (∀ q : Bool, ∃ (s : State) (d : Door), s.cyc[d.1].state = .closing ∧ s.cmp[d.1].lzoneItem = q) ∧
    (∃ (s : State) (d : Door), s.cyc[d.1].state = .opening ∧ s.cyc[d.1].startTick = none ∧ s.atOpenEnd d = true) ∧
    (∃ (s : State) (d : Door), s.cyc[d.1].state = .unlocking ∧ s.cyc[d.1].unlocked = false ∧ s.unlockRead d = true ∧ s.hasAngle d = true ∧
      s.cyc[d.1].startTick = none ∧ s.cyc[d.1].aligning = false ∧ ¬ ((s.stepCfg d).extendFirst = true ∧ s.cyc[d.1].step = .extending)) ∧
    (∃ (s : State) (d : Door), s.cyc[d.1].state = .unlocking ∧ s.cyc[d.1].unlocked = false ∧ s.unlockRead d = true ∧
      s.hasAngle d = false) ∧
    (∃ (s : State) (d : Door), s.cyc[d.1].state = .reversing ∧ s.cyc[d.1].openWanted = false ∧
      s.cyc[d.1].reopenTarget ≤ s.enc[d.ch.1].stroke) ∧
    (∃ (s : State) (d : Door), s.cyc[d.1].state = .reversing ∧ s.cyc[d.1].openWanted = true ∧ s.atOpenEnd d = true) ∧
    (∃ (s : State) (d : Door), s.cyc[d.1].state = .locking ∧ s.cyc[d.1].lockPhase = .closing ∧ s.closedStill d = true ∧
      s.enc[d.ch.1].ref = true ∧ s.enc[d.ch.1].stroke.natAbs ≤ (s.encCfg d.ch).closedWindow) :=
  let far := resting ajar.cfg.door[0].enc.openSc ajar
  ⟨⟨door1 (watched .reverse id) .locking, 0, by decide⟩,
   ⟨door1 (watched .travelOpen fun o => { o with detOpen := true }) .opening, 0, by decide⟩,
   ⟨door1 ((watched .reverse fun o => { o with detOpen := true }).modSlot 0 fun x => { x with rphase := true }) .reversing, 0, by decide⟩,
   fun q => ⟨(door1 base .closing).modCmp 0 fun c => { c with lzoneItem := q }, 0, by revert q; decide⟩,
   ⟨door1 far .opening, 0, by decide⟩,
   ⟨door1 (ajar.modSlot 0 fun x => { x with alignCount := some 5 }) .unlocking, 0, by decide⟩,
   ⟨door1 ajar .unlocking, 0, by decide⟩,
   ⟨door1 far .reversing fun y => { y with reopenTarget := 5 }, 0, by decide⟩,
   ⟨door1 far .reversing fun y => { y with openWanted := true }, 0, by decide⟩,
   ⟨resting 0 (door1 shut .locking), 0, by decide⟩⟩

theorem met_releaseTransitions :
    (∀ m : Fin 2, ∃ (s : State) (d : Door), s.fitted d = true ∧ s.cyc[d.1].restarting = false ∧ s.cyc[d.1].state = .closedLocked ∧
      s.released d = true ∧ (s.cycCfg d).openMode = m.1 ∧ ¬ (s.cyc[d.1].relWas = true ∧ s.cyc[d.1].zeroWas = true)) ∧
    (∃ (s : State) (d : Door), s.fitted d = true ∧ s.cyc[d.1].restarting = false ∧ s.cyc[d.1].state = .released ∧ s.released d = false) ∧
    (∃ (s : State) (d : Door), s.fitted d = true ∧ s.cyc[d.1].restarting = false ∧ (s.cyc[d.1].state = .closedLocked → s.released d = false) ∧
      (s.cyc[d.1].state = .released → s.released d = true)) ∧
    (∃ (s : State) (d : Door), s.cfg.recorder.minSeverity ≤ 4 ∧ s.book.intakeOpen = true ∧ s.book.powerFailed = false ∧ s.fitted d = true ∧
      s.cyc[d.1].state ≠ .closedLocked ∧ s.cyc[d.1].state ≠ .isolated ∧ (s.bucket (d.1 * 48 + 11)).tokens ≠ 0) ∧
    (∃ s : State, s.zeroSpeed = true ∧ s.latchInputs.zeroSpeed = false ∧ s.maint.configured = true) :=
  let line : State → Bool → State := fun s v => { s with
    cfg := { s.cfg with io := { s.cfg.io with tl := s.cfg.io.tl.set 0 { s.cfg.io.tl[0] with function := 4 } } }
    io := { s.io with tl := Vector.replicate 16 { given := 100, filtered := v, value := true, valid := true } } }
  let mode : State → Nat → State := fun s m =>
    let g := s.cfg.door[0]
    { s with cfg := { s.cfg with door := s.cfg.door.set 0 { g with cyc := { g.cyc with openMode := m } } } }
  ⟨fun m => ⟨mode (line (releasedTl (door1 shut .closedLocked)) true) m.1, 0, by revert m; decide⟩,
   ⟨door1 shut .released, 0, by decide⟩, ⟨door1 shut .open, 0, by decide⟩, ⟨door1 shut .open, 0, by decide⟩,
   ⟨line shut false, by decide⟩⟩

theorem met_unlockTimeout :
    ∃ (s : State) (t : Nat) (d : Door) (a : Nat),
      let r := s.at t
      s.fitted d = true ∧ s.decides = true ∧ s.cyc[d.1].unlockDl = some a ∧ a ≤ r.ns ∧ (s.cyc[d.1].state = .unlocking ∨
      s.cyc[d.1].state = .service) :=
  ⟨granted .unlocking (fun y => { y with unlockDl := some 5 }), 5, 0, 5, by decide⟩

theorem met_openTimeout :
    ∃ (s : State) (t : Nat) (d : Door) (a : Nat),
      let r := s.at t
      s.decides = true ∧ s.cyc[d.1].openDl = some a ∧ a ≤ r.ns ∧ s.cyc[d.1].state = .opening :=
  ⟨granted .opening (fun y => { y with openDl := some 5 }), 5, 0, 5, by decide⟩

theorem met_reopenHoldExpiry :
    (∃ (s : State) (t : Nat) (d : Door) (a : Nat),
      let r := s.at t
      let y := s.cyc[d.1]
      s.decides = true ∧ y.holdDl = some a ∧ a ≤ r.ns ∧ y.state = .reopenHold ∧ y.closeCmd = false) ∧
    (∃ (s : State) (t : Nat) (d : Door) (a : Nat),
      let r := s.at t
      let y := s.cyc[d.1]
      s.decides = true ∧ y.holdDl = some a ∧ a ≤ r.ns ∧ y.state = .reopenHold ∧ y.closeCmd = true ∧
      y.reopens < (s.cycCfg d).maxReopens ∧ s.mustRetract d = false ∧ (r.plan d.ch false).isSome = true) ∧
    (∃ (s : State) (t : Nat) (d : Door) (a : Nat),
      let r := s.at t
      let y := s.cyc[d.1]
      s.decides = true ∧ y.holdDl = some a ∧ a ≤ r.ns ∧ y.state = .reopenHold ∧ y.closeCmd = true ∧
      (s.cycCfg d).maxReopens ≤ y.reopens) :=
  ⟨⟨granted .reopenHold (fun y => { y with holdDl := some 5 }), 5, 0, 5, by decide⟩,
   ⟨reopening 0, 5, 0, 5, by decide⟩,
   ⟨reopening 3, 5, 0, 5, by decide⟩⟩

theorem met_closeTimeout :
    (∃ (s : State) (t : Nat) (d : Door) (a : Nat),
      let r := s.at t
      s.decides = true ∧ s.cyc[d.1].state = .closing ∧ s.cyc[d.1].startTick = some a ∧ a ≤ r.tick + 1 ∧
      s.cyc[d.1].restFirst = false) ∧
    (∃ (s : State) (t : Nat) (d : Door) (a : Nat),
      let r := s.at t
      s.decides = true ∧ s.cyc[d.1].closeDl = some a ∧ a ≤ r.ns ∧ s.cyc[d.1].state = .closing) :=
  ⟨⟨granted .closing (fun y => { y with closeDl := some 5, startTick := some 5, startNs := 500 }), 5, 0, 5, by decide⟩,
   ⟨granted .closing (fun y => { y with closeDl := some 5, rec? := some {} }), 5, 0, 5, by decide⟩⟩

theorem met_lockSwitchTimeout :
    (∃ (s : State) (t : Nat) (d : Door) (a : Nat),
      let r := s.at t
      let y := s.cyc[d.1]
      s.decides = true ∧ y.switchDl = some a ∧ a ≤ r.ns ∧ y.state = .locking ∧ s.lockRead d = false ∧ s.learning d = false ∧
      y.attempts < (s.cycCfg d).maxAttempts) ∧
    (∃ (s : State) (t : Nat) (d : Door) (a : Nat),
      let r := s.at t
      let y := s.cyc[d.1]
      s.decides = true ∧ y.switchDl = some a ∧ a ≤ r.ns ∧ y.state = .locking ∧ s.lockRead d = false ∧ s.learning d = false ∧
      ¬ y.attempts < (s.cycCfg d).maxAttempts) :=
  ⟨⟨ajarIn .locking (fun y => { y with switchDl := some 5, attempts := 1 }), 5, 0, 5, by decide⟩,
   ⟨ajarIn .locking (fun y => { y with switchDl := some 5, attempts := 3 }), 5, 0, 5, by decide⟩⟩

theorem met_lockSettles :
    (∃ (s : State) (t : Nat) (d : Door) (a : Nat),
      let r := s.at t
      s.decides = true ∧ s.cyc[d.1].settleDl = some a ∧ a ≤ r.ns ∧ s.cyc[d.1].state = .locking ∧ s.lockRead d = true ∧
      s.learning d = false ∧ s.pair.token = true ∧ s.hasAngle d = true ∧ s.preloaded d = false) ∧
    (∃ (s : State) (t : Nat) (d : Door) (a : Nat),
      let r := s.at t
      s.decides = true ∧ s.cyc[d.1].settleDl = some a ∧ a ≤ r.ns ∧ s.cyc[d.1].state = .locking ∧ s.lockRead d = true ∧
      s.learning d = false ∧ s.pair.token = true ∧ s.hasAngle d = true ∧ s.preloaded d = true) :=
  let s := granted .locking fun y => { y with settleDl := some 5, attempts := 2, rec? := some {} }
  ⟨⟨s.modSlot 0 fun x => { x with alignCount := some 7 }, 5, 0, 5, by decide⟩,
   ⟨s.modSlot 0 fun x => { x with alignCount := some 7, mode := .hold, arg := -((s.cycCfg 0).preloadN : Int) }, 5, 0, 5, by decide⟩⟩

theorem met_pullEnds :
    (∃ (s : State) (t : Nat) (d : Door) (a : Nat), s.cyc[d.1].sol = .pull a ∧ a + ms (s.cycCfg d).pullMs ≤ (s.at t).ns ∧
      s.engineRuns d 4 = false) ∧
    (∀ q : Bool, ∃ (s : State) (t : Nat) (d : Door) (a : Nat), s.cyc[d.1].sol = .pull a ∧ a + ms (s.cycCfg d).pullMs ≤ (s.at t).ns ∧
      s.engineRuns d 4 = true ∧ ¬ (s.isLocking d = true ∧ s.cyc[d.1].lockPhase = .pulling) ∧ s.tripped d = q) ∧
    (∃ (s : State) (t : Nat) (d : Door) (a : Nat), s.cyc[d.1].sol = .pull a ∧ a + ms (s.cycCfg d).pullMs ≤ (s.at t).ns ∧
      s.engineRuns d 4 = true ∧ s.decides = true ∧ s.isLocking d = true ∧ s.cyc[d.1].lockPhase = .pulling) :=
  let s := granted .unlocking fun y => { y with sol := .pull 5 }
  ⟨⟨enginesOff s, 5, 0, 5, by decide⟩,
   fun q => ⟨s.modDrv 0 fun x => { x with weir := { trip := if q then some .overCurrent else none } }, 5, 0, 5, by revert q; decide⟩,
   ⟨granted .locking (fun y => { y with sol := .pull 5, lockPhase := .pulling }), 5, 0, 5, by decide⟩⟩

theorem met_threeWayLockProof :
    (∃ (s : State) (t : Nat) (d : Door) (a : Nat),
      let r := s.at t
      let y := s.cyc[d.1]
      let pass := s.runnerCheck d = true ∧ y.excursion ≤ (s.cycCfg d).backdriveMax ∧ y.backBad = false ∧ s.lockRead d = true ∧
          s.bedstoneCheck d = true
      s.decides = true ∧ y.backDl = some a ∧ a ≤ r.ns ∧ y.state = .proving ∧ s.learning d = false ∧ pass) ∧
    (∃ (s : State) (t : Nat) (d : Door) (a : Nat),
      let r := s.at t
      let y := s.cyc[d.1]
      let pass := s.runnerCheck d = true ∧ y.excursion ≤ (s.cycCfg d).backdriveMax ∧ y.backBad = false ∧ s.lockRead d = true ∧
          s.bedstoneCheck d = true
      s.decides = true ∧ y.backDl = some a ∧ a ≤ r.ns ∧ y.state = .proving ∧ s.learning d = false ∧ ¬ pass) :=
  ⟨⟨provingDoor, 5, 0, 5, by decide⟩,
   ⟨{ provingDoor with io := ajar.io }, 5, 0, 5, by decide⟩⟩

theorem met_stepTimeouts :
    ∃ (s : State) (t : Nat) (d : Door) (a : Nat) (c : Instr),
      let r := s.at t
      s.decides = true ∧ s.cyc[d.1].stepDl = some a ∧ a ≤ r.ns ∧ (c = .stepExtendTimeout t d ∧ s.cyc[d.1].step = .extending ∨
      c = .stepRetractTimeout t d ∧ s.cyc[d.1].step = .retracting) :=
  ⟨granted .open (fun y => { y with stepDl := some 5, step := .extending }), 5, 0, 5, .stepExtendTimeout 5 0, by decide⟩

theorem met_cycleRecordTimeout :
    ∃ (s : State) (t : Nat) (d : Door) (a : Nat) (c : CycleRec),
      let r := s.at t
      s.decides = true ∧ s.cyc[d.1].recordDl = some a ∧ a ≤ r.ns ∧ s.cyc[d.1].ending = some c ∧ s.book.intakeOpen = true ∧
      s.book.powerFailed = false :=
  ⟨granted .closedLocked (fun y => { y with recordDl := some 5, ending := some { outcome := 3 } }), 5, 0, 5, { outcome := 3 },
    by decide⟩

theorem met_closeAcceptedInOpen :
    ∃ (s : State) (t : Nat) (d : Door) (src : CmdSrc),
      let r := s.at t
      let c : DoorCmd := { door := d, kind := .close, src := src, lineOn := s.tlOn 3 }
      s.millerRuns = true ∧ s.decides = true ∧ s.idle = true ∧ s.lineIgnored d src = false ∧ s.edgeOf d src = true ∧
      s.carried c = true ∧ (c.bus = true → s.busesMute = false) ∧ s.generalCode c = none ∧
      s.cyc[d.1].state = .open ∧ lowest (r.closeCodes d src c.lineOn) = none ∧ s.mustRetract d = false ∧
      (r.plan d.ch false).isSome = true :=
  ⟨fromBus (granted .open id), 5, 0, .telegram, by decide⟩

theorem met_openAcceptedInReleased :
    ∃ (s : State) (t : Nat) (d : Door) (src : CmdSrc),
      let r := s.at t
      let c : DoorCmd := { door := d, kind := .open_, src := src, lineOn := s.tlOn 3 }
      s.millerRuns = true ∧ s.decides = true ∧ s.idle = true ∧ s.edgeOf d src = true ∧ s.carried c = true ∧
      (c.bus = true → s.busesMute = false) ∧ s.generalCode c = none ∧
      s.cyc[d.1].state = .released ∧ lowest (r.openCodes d src) = none ∧ (r.plan d.ch true).isSome = true ∧ s.hasAngle d = true :=
  ⟨pressed (releasedTl ((granted .released (fun y => {y with ending := some {}, relWas := true, zeroWas := true })).modEnc 0 (fun e => {e with ref := true})
      |>.modSlot 0 (fun x => { x with alignCount := some 5}))), 5, 0, .outer, by decide⟩

theorem met_doorResetLeavesFault :
    (∃ (s : State) (d : Door),
      let c : DoorCmd := { door := d, kind := .reset, src := .telegram, lineOn := s.tlOn 3 }
      s.millerRuns = true ∧ s.decides = true ∧ s.idle = true ∧ s.carried c = true ∧ (c.bus = true → s.busesMute = false) ∧
      s.generalCode c = none ∧ s.cyc[d.1].state = .faultHeld ∧ s.causePresent d = true) ∧
    (∃ (s : State) (d : Door) (m : Msg),
      let c : DoorCmd := { door := d, kind := .reset, src := .tally, msg := some m }
      s.millerRuns = true ∧ s.decides = true ∧ s.idle = true ∧ s.carried c = true ∧ (c.bus = true → s.busesMute = false) ∧
      s.generalCode c = none ∧ s.cyc[d.1].state = .faultHeld ∧ s.maint.step ≥ 3 ∧ s.maint.blank = false ∧
      s.maint.doorTok[d.1] = some m.session ∧ (∃ x : Session, s.session m.session = some x ∧ x.counter < m.counter) ∧
      s.causePresent d = false ∧ (s.drv[d.1].isoBlocked || s.partnerIso) = true) ∧
    (∃ (s : State) (d : Door) (m : Msg),
      let c : DoorCmd := { door := d, kind := .reset, src := .tally, msg := some m }
      s.millerRuns = true ∧ s.decides = true ∧ s.idle = true ∧ s.carried c = true ∧ (c.bus = true → s.busesMute = false) ∧
      s.generalCode c = none ∧ s.cyc[d.1].state = .faultHeld ∧ s.maint.step ≥ 3 ∧ s.maint.blank = false ∧
      s.maint.doorTok[d.1] = some m.session ∧ (∃ x : Session, s.session m.session = some x ∧ x.counter < m.counter) ∧
      s.causePresent d = false ∧ (s.drv[d.1].isoBlocked || s.partnerIso) = false) :=
  ⟨⟨{ (door1 (levels fun k => k == 2 || k == 3) .faultHeld (fun y => { y with fcause := 7 })).modEnc 0 (fun e => {e with ref := true}) with
      tele := { base.tele with reset := 1 } }, 0, by decide⟩,
   ⟨tally ((granted .faultHeld (fun y => { y with fcause := 2 })).modDrv 0 (fun e => {e with isoBlocked := true})), 0, msg, by decide,
    by decide, by decide, by decide, by decide, by decide, by decide, by decide, by decide, by decide, ⟨sess, rfl, by decide⟩, by decide,
    by decide⟩,
   ⟨tally (granted .faultHeld (fun y => { y with fcause := 7 })), 0, msg, by decide, by decide, by decide, by decide, by decide,
    by decide, by decide, by decide, by decide, by decide, ⟨sess, rfl, by decide⟩, by decide, by decide⟩⟩

theorem met_refusedCommandMovesNothing :
    (∃ (s : State) (d : Door) (src : CmdSrc) (lineOn : Bool) (code : Nat), s.millerRuns = true ∧ s.decides = true ∧
      s.pair.token = true ∧ s.sluice.safe = false ∧ s.fitted d = true ∧ src ≠ .telegram ∧ src ≠ .telegramTl ∧ s.idle = true ∧
      lowest (s.closeCodes d src lineOn) = some code) ∧
    (∃ (s : State) (d : Door) (src : CmdSrc) (code : Nat), s.millerRuns = true ∧ s.decides = true ∧
      s.pair.token = true ∧ s.sluice.safe = false ∧ s.fitted d = true ∧ src ≠ .telegram ∧ src ≠ .telegramTl ∧ s.idle = true ∧
      lowest (s.openCodes d src) = some code) ∧
    (∃ (s : State) (d : Door) (src : CmdSrc) (code : Nat), ∃ l : List Nat, s.millerRuns = true ∧ s.decides = true ∧
      s.pair.token = true ∧ s.sluice.safe = false ∧ s.fitted d = true ∧ src ≠ .telegram ∧ src ≠ .telegramTl ∧ s.idle = true ∧
      lowest l = some code) :=
  ⟨⟨granted .proving id, 0, .inner, false, 0x26, by decide⟩,
   ⟨granted .proving id, 0, .inner, 0x20, by decide⟩,
   ⟨granted .isolated id, 0, .trainLine, 0x22, [0x26, 0x22], by decide⟩⟩

theorem met_runnerCycle :
    (∃ (s : State) (t : Nat), ∃ d : Door,
      let r := s.at t
      r.ns % 1000000 = 0 ∧ s.safety.running = true ∧ s.fitted d = true) ∧
    (∃ (s : State) (t : Nat), ∃ d : Door,
      let r := s.at t
      r.ns % 1000000 = 0 ∧ s.safety.running = true ∧ s.fitted d = false) :=
  ⟨⟨safeInputs, 2000000000, 0, by decide⟩,
   ⟨{ safeInputs with safety := { safeInputs.safety with runner := { safeInputs.safety.runner with eval := { edge := 0x1234 }, evalAt := 999000000 } } , cfg := { safeInputs.cfg with pers := { safeInputs.cfg.pers with doors := 0x00FF } } },
    2000000000, 15, by decide⟩⟩

theorem met_runnerStops :
    (∃ (s : State), s.safety.running = true) ∧
    (∃ (s : State) (t : Nat),
      let r := s.at t
      s.safety.blockLatched = true ∧ s.safety.runnerDead = false ∧ s.safety.toggledAt + 3000000 ≤ r.ns) :=
  ⟨⟨grpOn id, by decide⟩,
   ⟨grpOn id, 1005, by decide⟩⟩

theorem met_safetyInputSample :
    (∃ (s : State), ∃ d : Door, s.safety.gridLocked = true ∧ s.fitted d = true) ∧
    (∃ (s : State), s.safety.gridLocked = false) ∧
    (∃ (s : State), ∃ d : Door, s.fitted d = true) ∧
    (∃ (p : Nat) (own : Src), ownWindow own p = true) :=
  ⟨⟨safeInputs, 0, by decide⟩,
   ⟨{ safeInputs with safety := { safeInputs.safety with gridLocked := false } }, by decide⟩,
   ⟨safeInputs, 0, by decide⟩,
   ⟨1, 0, by decide⟩⟩

theorem met_testPulseSources :
    (∃ s : State, s.anyVdo = false) ∧
    (∃ (s : State) (t : Nat) (src : Src),
      let r := s.at t
      s.anyVdo = true ∧ s.pair.token = true ∧ s.safety.gridLocked = true ∧ s.safety.src[src.1].on = true ∧ r.gridPos = 50 * src.1) ∧
    (∃ (s : State), s.pair.token = false) ∧
    (∃ (s : State) (src : Src) (ch other : SafetyCh), ∃ g : Group, s.pair.token = true ∧
      (s.chan ch).srcFault[src.1] = false ∧ other ≠ ch ∧ s.usesSource g src = true) ∧
    (∃ (s : State) (t : Nat) (src : Src), ∃ a,
      let r := s.at t
      s.safety.src[src.1].on = false ∧ s.safety.src[src.1].offSince = some a ∧ a + 1000000000 ≤ r.ns) :=
  ⟨⟨{ safeInputs with io := { safeInputs.io with vdo := 15 } }, by decide⟩,
   ⟨safeInputs, 1010000000, 2, by decide⟩,
   ⟨{ safeInputs with pair := { safeInputs.pair with token := false } }, by decide⟩,
   ⟨safeInputs, 2, .runner, .bedstone, 1, by decide⟩,
   ⟨{ safeInputs with safety := { safeInputs.safety with src := Vector.replicate 4 { on := false, offSince := some 4 }}}, 1010000000, 2, 4,
    by decide⟩⟩

theorem met_feedbackFault :
    ∃ (s : State) (t : Nat) (g : Group) (ch : SafetyCh) (a : Nat),
      let r := s.at t
      let done := s.safety.grp[g.1].changedAt + s.fbTime
      (s.chan ch).fbWrong[g.1] = some a ∧ (s.chan ch).fbLock.getLsbD g.1 = false ∧ done ≤ r.ns ∧ (a ≤ done ∨ a + ms 30 ≤ r.ns) :=
  ⟨{ grpOn id with safety := { (grpOn id).safety with runner := { (grpOn id).safety.runner with fbWrong := Vector.replicate 2 (some 5) } } },
    5, 1, .runner, 5, by decide⟩

theorem met_outputTests :
    (∃ (s : State) (t : Nat) (g : Group) (low : Bool),
      let r := s.at t
      let x := s.safety.grp[g.1]
      x.on = true ∧ x.testAt ≤ r.ns ∧ x.testLow = low) ∧
    (∃ (s : State) (t : Nat) (g : Group) (low : Bool),
      let r := s.at t
      let x := s.safety.grp[g.1]
      x.on = true ∧ (r.ns < x.testAt ∨ x.testLow ≠ low)) ∧
    (∃ (s : State) (g : Group),
      let x := s.safety.grp[g.1]
      x.on = false ∧ x.startTest.isSome = true ∧ x.startP = true) ∧
    (∀ q : Bool, ∃ (s : State) (t : Nat) (g : Group), s.safety.grp[g.1].on = false ∧ s.safety.grp[g.1].startTest.isSome = true ∧
      s.safety.grp[g.1].startP = true ∧ (s.at t).fbOff g = q) ∧
    (∃ (s : State) (t : Nat) (g : Group),
      let r := s.at t
      let x := s.safety.grp[g.1]
      x.on = true ∧ s.safety.running = true ∧ x.lastTest + 3000000000 ≤ r.ns) ∧
    (∃ (s : State) (g : Group),
      let x := s.safety.grp[g.1]
      x.tested = false ∧ x.on = false) :=
  ⟨⟨grpOn (fun x => { x with testAt := 1000000000 }), 5, 0, false, by decide⟩,
   ⟨grpOn (fun x => { x with testAt := 1000000001 }), 5, 0, false, by decide⟩,
   ⟨grpOn (fun x => { x with on := false, tested := false, startTest := some 5, startP := true }), 0, by decide⟩,
   fun q => ⟨let s := chans (grpOn (fun x => { x with on := false, tested := false, startTest := some 5, startP := true })) fun _ => false
             { s with safety := { s.safety with
                runner := { s.safety.runner with fb := Vector.replicate 2 { given := 100, filtered := q } }
                bedstone := { s.safety.bedstone with fb := Vector.replicate 2 { given := 100, filtered := q } } } }, 5, 0, by
     revert q; decide⟩,
   ⟨grpOn id, 4000000000, 0, by decide⟩,
   ⟨grpOn (fun x => { x with on := false, tested := false, startTest := some 5 }), 0, by decide⟩⟩

theorem met_discrepancies :
    (∃ (s : State) (t : Nat) (d : Door), ∃ (p : SwitchPair) (ch : SafetyCh) (a : Nat),
      let r := s.at t
      ((s.chan ch).pairs[d.1])[(pairIdx p).1].since = some a ∧ ((s.chan ch).pairs[d.1])[(pairIdx p).1].fault = false ∧
      a + ms s.cfg.bedstone.pairDiscMs < r.ns ∧ ch = .bedstone) ∧
    (∃ (s : State) (t : Nat) (d : Door), ∃ a : Nat,
      let r := s.at t
      s.safety.grp[(s.group d).1].chanDisc[d.1] = some a ∧ a + ms s.cfg.bedstone.channelDiscMs < r.ns ∧
      s.safety.runner.discLock.getLsbD (s.group d).1 = false) :=
  ⟨⟨pairDiscrepant 0 (fun _ => true), 5, 9, (.lock : SwitchPair), (.bedstone : SafetyCh), 5, by decide⟩,
   ⟨pairDiscrepant 0 (fun _ => true), 5, 9, 5, by decide⟩⟩

theorem met_reversalNotEvidenced :
    ∃ (s : State) (t : Nat) (d : Door) (check : EvidenceCheck) (ch : SafetyCh),
      let r := s.at t
      (r.notEvidenced d check ch).isSome = true :=
  ⟨notEvidenced, 5, 0, .mode, .runner, by decide⟩

theorem met_safetyReset :
    (∃ (s : State) (src : ResetInput),
      let x := s.safety.rst[(resetIdx src).1]
      (x.edgeR = true ∨ x.edgeB = true) ∧ (s.safety.rst[0].jammed = true ∨ s.safety.rst[1].jammed = true)) ∧
    (∃ (s : State) (t : Nat) (src : ResetInput),
      let r := s.at t
      let x := s.safety.rst[(resetIdx src).1]
      (x.edgeR = true ∨ x.edgeB = true) ∧ ¬ (s.safety.rst[0].jammed = true ∨ s.safety.rst[1].jammed = true) ∧
      r.restartLatch = false) :=
  ⟨⟨resetEdges true true true safeInputs, .local, by decide⟩,
   ⟨resetEdges false true true safeInputs, 5, .local, by decide⟩⟩

theorem met_resetSourceJam :
    (∃ (s : State) (t : Nat) (src : ResetInput),
      let r := s.at t
      let x := s.safety.rst[(resetIdx src).1]
      x.jammed = false ∧ s.resetEnabled src = true ∧ (r.resetHeld .runner src true (ms 10000 + 1) = true ∨
      r.resetHeld .bedstone src true (ms 10000 + 1) = true)) ∧
    (∃ (s : State) (t : Nat) (src : ResetInput),
      let r := s.at t
      r.resetHeld .runner src false (ms 100) = true ∧ r.resetHeld .bedstone src false (ms 100) = true) :=
  ⟨⟨resetJam true, 20000000000, .local, by decide⟩,
   ⟨resetJam false, 20000000000, .local, by decide⟩⟩

theorem met_inputSample :
    (∃ (s : State), ∃ n : Fi, s.half 192 n.1 = true ∧ s.inRuns n = true ∧ s.fiTag n = none ∧ s.cfg.io.fi[n.1].wireBreak = false) ∧
    (∃ (s : State) (t : Nat), ∃ (n : Fi) (k : Src),
      let r := s.at t
      s.fiTag n = some k ∧ s.safety.gridLocked = true ∧ ownWindow k r.gridPos = true) ∧
    (∃ (s : State) (n : Fi), s.inRuns n = false) :=
  ⟨⟨safeInputs, 8, by decide⟩,
   ⟨safeInputs, 1000100000, 0, 0, by decide⟩,
   ⟨enginesOff base, 0, by decide⟩⟩

theorem met_wireBreakBands :
    (∃ (s : State) (t : Nat) (n : Fi),
      let r := s.at t
      let x := s.io.fi[n.1]
      s.inRuns n = true ∧ x.band = some .wireBreak ∧ x.bandAt + ms 100 ≤ r.ns ∧ x.wbrk = false) ∧
    (∃ (s : State) (t : Nat) (n : Fi),
      let r := s.at t
      let x := s.io.fi[n.1]
      s.inRuns n = true ∧ x.band = some .degraded ∧ x.bandAt + ms 100 ≤ r.ns ∧ x.wdeg = false) ∧
    (∃ (s : State) (t : Nat) (n : Fi), ∃ a,
      let r := s.at t
      let x := s.io.fi[n.1]
      s.inRuns n = true ∧ x.goodAt = some a ∧ a + ms 1000 ≤ r.ns) ∧
    (∃ (s : State) (n : Fi), s.inRuns n = false) :=
  ⟨⟨bandAt .wireBreak, 2000000000, 13, by decide⟩,
   ⟨bandAt .degraded, 2000000000, 13, by decide⟩,
   ⟨bandAt .degraded, 2000000000, 13, 5, by decide⟩,
   ⟨enginesOff base, 0, by decide⟩⟩

theorem met_timeStamps :
    (∃ (s : State) (t : Nat) (i : StampInput) (level : Bool),
      let r := s.at t
      let x := s.stampSt i
      s.stamps i = true ∧ r.stampMasked i = false ∧ x.level ≠ level ∧ x.holdoff = none ∧ s.io.stamps.length < 1024) ∧
    (∃ (s : State) (t : Nat) (i : StampInput) (level : Bool),
      let r := s.at t
      let x := s.stampSt i
      s.stamps i = true ∧ r.stampMasked i = false ∧ x.level ≠ level ∧ x.holdoff = none ∧ 1024 ≤ s.io.stamps.length) ∧
    (∃ (s : State) (t : Nat) (i : StampInput) (level : Bool),
      let r := s.at t
      let x := s.stampSt i
      s.stamps i = true ∧ r.stampMasked i = false ∧ x.level ≠ level ∧ x.holdoff.isSome = true) ∧
    (∃ (s : State) (t : Nat) (i : StampInput), ∃ h,
      let r := s.at t
      let x := s.stampSt i
      s.stamps i = true ∧ x.holdoff = some h ∧ h ≤ r.ns ∧ s.io.stamps.length < 1024 ∧ x.level = x.stampLevel) ∧
    (∃ (s : State) (t : Nat) (i : StampInput), ∃ h,
      let r := s.at t
      let x := s.stampSt i
      s.stamps i = true ∧ x.holdoff = some h ∧ h ≤ r.ns ∧ s.io.stamps.length < 1024 ∧ x.level ≠ x.stampLevel) ∧
    (∃ (s : State) (i : StampInput), s.stamps i = false) :=
  ⟨⟨stamping id [], 1005000000, .fi 3, true, by decide⟩,
   ⟨stamping id (List.replicate 1024 { mill := 0, input := 1, level := true, tl := false, settle := false, seq := 0, lost := 0, suppressed := 0 }),
    1005000000, .fi 3, true, by decide⟩,
   ⟨stamping (fun x => { x with holdoff := some 5 }) [], 1005000000, .fi 3, true, by decide⟩,
   ⟨stamping (fun x => { x with holdoff := some 5 }) [], 1005000000, .fi 3, 5, by decide⟩,
   ⟨stamping (fun x => { x with holdoff := some 5, level := true }) [], 1005000000, .fi 3, 5, by decide⟩,
   ⟨enginesOff (stamping id []), .fi 3, by decide⟩⟩

theorem met_vdoFaults :
    (∃ (s : State) (conn : Fin 4), ∃ c : Ch, s.io.vdo.getLsbD conn.1 = false ∧
      s.chFitted c = true ∧ connOf c.door = conn) ∧
    (∃ (s : State) (conn : Fin 4), ∃ c : Ch, s.io.vdo.getLsbD conn.1 = false ∧ connOf c.door ≠ conn) ∧
    (∃ (s : State) (conn : Fin 4), ∃ n : Dout, s.io.vdo.getLsbD conn.1 = true ∧ connOf n.door = conn) ∧
    (∃ (s : State) (conn : Fin 4), ∃ c : Ch, s.io.vdo.getLsbD conn.1 = true ∧ s.chFitted c = true ∧ connOf c.door = conn) :=
  ⟨⟨{ safeInputs with io := { safeInputs.io with vdo := 0 } }, 2, 8, by decide⟩,
   ⟨safeInputs, 2, 0, by decide⟩,
   ⟨{ safeInputs with io := { safeInputs.io with vdo := 15 } }, 2, 16, by decide⟩,
   ⟨{ safeInputs with io := { safeInputs.io with vdo := 15 } }, 2, 8, by decide⟩⟩

theorem met_doReadback :
    (∃ (s : State) (t : Nat) (n : Dout),
      let r := s.at t
      let x := s.io.dout[n.1]
      let off : Prop := x.pin = .z ∨ r.ns < x.blank ∨ s.io.vdo.getLsbD (connOf n.door).1 = true ∨ s.pair.token = false ∨
        s.engineRuns n.door 10 = false
      off) ∧
    (∃ (s : State) (t : Nat) (n : Dout) (v : BitVec 32),
      let r := s.at t
      let x := s.io.dout[n.1]
      let off : Prop := x.pin = .z ∨ r.ns < x.blank ∨ s.io.vdo.getLsbD (connOf n.door).1 = true ∨ s.pair.token = false ∨
        s.engineRuns n.door 10 = false
      ¬ off ∧ v.getLsbD n.1 = x.pin.level) ∧
    (∃ (s : State) (t : Nat) (n : Dout) (v : BitVec 32),
      let r := s.at t
      let x := s.io.dout[n.1]
      let off : Prop := x.pin = .z ∨ r.ns < x.blank ∨ s.io.vdo.getLsbD (connOf n.door).1 = true ∨ s.pair.token = false ∨
        s.engineRuns n.door 10 = false
      ¬ off ∧ v.getLsbD n.1 ≠ x.pin.level) ∧
    (∃ (s : State) (t : Nat) (n : Dout), ∃ a,
      let r := s.at t
      let x := s.io.dout[n.1]
      x.fault = false ∧ x.mismatch = some a ∧ a + ms s.cfg.io.dout[n.1].mismatchMs ≤ r.ns) :=
  ⟨⟨outputsOn (fun x => { x with mismatch := some 5, pin := .z }), 5, 23, by decide⟩,
   ⟨outputsOn id, 5, 23, 0xFFFF0000, by decide⟩,
   ⟨outputsOn id, 5, 3, 0xFFFF0000, by decide⟩,
   ⟨outputsOn (fun x => { x with mismatch := some 5, pin := .z }), 5, 23, 5, by decide⟩⟩

theorem met_loadSwitchLimit :
    (∃ (s : State) (t : Nat) (n : Ls), ∃ (us : Nat) (thermal : Bool),
      let r := s.at t
      let x := s.io.ls[n.1]
      x.on = true ∧ x.limitWith us r.ns < 1000 ∧ thermal = false) ∧
    (∃ (s : State) (t : Nat) (n : Ls), ∃ (us : Nat) (thermal : Bool),
      let r := s.at t
      let x := s.io.ls[n.1]
      x.on = true ∧ (1000 ≤ x.limitWith us r.ns ∨ thermal = true) ∧ s.sluice.safe = false ∧ x.tries < s.cfg.ls.maxTries) ∧
    (∃ (s : State) (t : Nat) (n : Ls), ∃ (us : Nat) (thermal : Bool),
      let r := s.at t
      let x := s.io.ls[n.1]
      x.on = true ∧ (1000 ≤ x.limitWith us r.ns ∨ thermal = true) ∧ s.sluice.safe = false ∧ s.cfg.ls.maxTries ≤ x.tries) ∧
    (∃ (s : State) (t : Nat) (n : Ls), ∃ (us : Nat) (thermal : Bool),
      let r := s.at t
      let x := s.io.ls[n.1]
      x.on = true ∧ (1000 ≤ x.limitWith us r.ns ∨ thermal = true) ∧ s.sluice.safe = true) ∧
    (∃ (s : State) (t : Nat) (n : Ls), ∃ a,
      let r := s.at t
      let x := s.io.ls[n.1]
      s.engineRuns n.door 9 = true ∧ x.pause = some a ∧ a ≤ r.ns ∧ s.sluice.safe = false ∧ x.cmd = true ∧ x.ended = false ∧ x.shed = false ∧
      s.outputsLive = true ∧ x.latched = false ∧ x.shadow ≠ 0 ∧ s.cyc[n.door.1].restarting = false) ∧
    (∃ (s : State) (t : Nat) (n : Ls),
      let r := s.at t
      let x := s.io.ls[n.1]
      s.engineRuns n.door 9 = true ∧ x.on = true ∧ x.onAt + ms 10000 ≤ r.ns ∧ x.limitAt + ms 10000 ≤ r.ns) ∧
    (∃ (s : State) (n : Ls), s.engineRuns n.door 9 = false) :=
  ⟨⟨switchesOn id, 5, 7, 999, false, by decide⟩,
   ⟨switchesOn id, 5, 7, 1000, false, by decide⟩,
   ⟨switchesOn (fun x => { x with tries := 6 }), 5, 7, 0, true, by decide⟩,
   ⟨{ switchesOn id with sluice := { base.sluice with safe := true } }, 5, 7, 1000, false, by decide⟩,
   ⟨switchesOn (fun x => { x with on := false, pause := some 5, tries := 2 }), 20000000000, 7, 5, by decide⟩,
   ⟨switchesOn id, 20000000000, 7, by decide⟩,
   ⟨enginesOff base, 0, by decide⟩⟩

theorem met_loadSwitchPwm :
    (∃ (s : State) (t : Nat) (n : Ls),
      let r := s.at t
      let x := s.io.ls[n.1]
      let duty := x.shadowNow r.ns
      r.ns % 5000000 = n.1 * 100000 ∧ s.half 48 n.1 = true ∧ s.engineRuns n.door 9 = true ∧ s.sluice.safe = false ∧ s.cyc[n.door.1].restarting = false ∧
      x.on = true ∧ 0 < duty ∧ duty < 10) ∧
    (∃ (s : State) (t : Nat) (n : Ls) (mean : Nat),
      let r := s.at t
      let x := s.io.ls[n.1]
      s.engineRuns n.door 9 = true ∧ s.cfg.ls.sw[n.1].olRange ≠ 0 ∧ x.on = true ∧ 100 ≤ x.active ∧ x.openCond = false ∧ x.onAt + ms s.cfg.ls.openLoadMs ≤ r.ns ∧
      mean < s.olThreshold n) ∧
    (∃ (s : State) (t : Nat) (n : Ls) (mean : Nat),
      let r := s.at t
      let x := s.io.ls[n.1]
      s.engineRuns n.door 9 = true ∧ x.on = true ∧ 100 ≤ x.active ∧ x.onAt + ms 1000 ≤ r.ns ∧ x.openAt + ms 1000 ≤ r.ns ∧ 5 * s.olThreshold n < 4 * mean) ∧
    (∃ (s : State) (n : Ls), s.engineRuns n.door 9 = false) :=
  ⟨⟨switchesOn (fun x => { x with shadow := 9 }), 1005700000, 7, by decide⟩,
   ⟨switchesOn (fun x => { x with active := 500 }), 5000000000, 7, 1, by decide⟩,
   ⟨switchesOn (fun x => { x with active := 500, openCond := true }), 5000000000, 7, 60000, by decide⟩,
   ⟨enginesOff base, 0, by decide⟩⟩

theorem met_loadSwitchShedding :
    (∃ (s : State) (p : Fin 2) (ma : Nat),
      let x := s.io.lsSup[p.1]
      s.cfg.ls.supplyLimitMa < ma ∧ x.shedding = false) ∧
    (∃ (s : State) (t : Nat) (p : Fin 2) (ma : Nat),
      let r := s.at t
      let x := s.io.lsSup[p.1]
      x.shedding = true ∧ x.shedAt ≤ r.ns ∧ s.sluice.safe = false ∧ 10 * ma < 9 * s.cfg.ls.supplyLimitMa) ∧
    (∃ (s : State) (t : Nat) (p : Fin 2) (ma : Nat), ∃ n : Ls,
      let r := s.at t
      let x := s.io.lsSup[p.1]
      x.shedding = true ∧ x.shedAt ≤ r.ns ∧ s.sluice.safe = false ∧ 9 * s.cfg.ls.supplyLimitMa ≤ 10 * ma ∧ s.lsSupply n = p ∧
      s.cfg.ls.sw[n.1].shed = true ∧ s.io.ls[n.1].on = true ∧ s.io.ls[n.1].shed = false ∧ s.cyc[n.door.1].restarting = false ∧
      (∀ k : Ls, n < k → ¬ (s.lsSupply k = p ∧ s.cfg.ls.sw[k.1].shed = true ∧ s.io.ls[k.1].on = true ∧
      s.io.ls[k.1].shed = false))) ∧
    (∃ (s : State) (t : Nat) (p : Fin 2) (ma : Nat), ∃ n : Ls,
      let r := s.at t
      let x := s.io.lsSup[p.1]
      x.shedding = false ∧ x.shedAt + ms 10000 ≤ r.ns ∧ 4 * ma < 3 * s.cfg.ls.supplyLimitMa ∧ s.lsSupply n = p) ∧
    (∃ (s : State) (t : Nat) (p : Fin 2) (ma : Nat), ∃ n : Ls,
      let r := s.at t
      let x := s.io.lsSup[p.1]
      x.shedding = false ∧ x.shedAt + ms 10000 ≤ r.ns ∧ 4 * ma < 3 * s.cfg.ls.supplyLimitMa ∧ s.lsSupply n ≠ p) :=
  ⟨⟨switchesOn id, 1, 20000, by decide⟩,
   ⟨shedding, 1005700000, 1, 5, by decide⟩,
   ⟨shedding, 1005700000, 1, 20000, 47, by decide⟩,
   ⟨switchesOn id, 20000000000, 1, 5, 47, by decide⟩,
   ⟨switchesOn id, 20000000000, 1, 5, 0, by decide⟩⟩

theorem met_framesReceived :
    (∃ (s : State) (b : BusId) (f : Frame),
      let x := s.bus[b.1]
      x.bstate ≠ .detecting ∧ f.fd = true ∧ x.timing.data = 0) ∧
    (∃ (s : State) (b : BusId) (f : Frame),
      let x := s.bus[b.1]
      x.started = true ∧ x.err ≠ .off ∧ (x.bstate ≠ .detecting → f.fd = true → x.timing.data ≠ 0) ∧ x.bstate = .detecting) ∧
    (∃ (s : State) (b : BusId) (f : Frame),
      let x := s.bus[b.1]
      x.started = true ∧ x.err ≠ .off ∧ (x.bstate ≠ .detecting → f.fd = true → x.timing.data ≠ 0) ∧ x.bstate ≠ .detecting ∧
      (f.ext = true ∨ (f.id.toNat ≠ 0x080 + s.cfg.bus.vcuNode ∧ f.id.toNat ≠ 0x010 + s.cfg.bus.timeMaster ∧
      f.id.toNat ≠ 0x180 + s.cfg.bus.vcuNode))) ∧
    (∃ (s : State) (b : BusId) (f : Frame), ∃ base, ∃ j k : Fin 128,
      let x := s.bus[b.1]
      x.started = true ∧ x.err ≠ .off ∧ (x.bstate ≠ .detecting → f.fd = true → x.timing.data ≠ 0) ∧ x.bstate ≠ .detecting ∧
      f.ext = false ∧ (base = 0 ∧ f.id.toNat = 0x080 + s.cfg.bus.vcuNode ∨ base = 4 ∧ f.id.toNat = 0x010 + s.cfg.bus.timeMaster ∧
      f.id.toNat ≠ 0x080 + s.cfg.bus.vcuNode ∨ base = 8 ∧ f.id.toNat = 0x180 + s.cfg.bus.vcuNode ∧
      f.id.toNat ≠ 0x080 + s.cfg.bus.vcuNode ∧ f.id.toNat ≠ 0x010 + s.cfg.bus.timeMaster) ∧ base ≤ k.1 ∧ k.1 < base + 4 ∧
      x.hopper[k.1].new = true ∧ base ≤ j.1 ∧ j.1 < base + 4) :=
  ⟨⟨busWith (fun x => { x with timing := { nominal := 3, data := 0 } }) safeInputs, 0, frameOfId 0x08E false, by decide⟩,
   ⟨busWith (fun x => { x with bstate := .detecting }) safeInputs, 0, frameOfId 0x08E false, by decide⟩,
   ⟨busWith (fun x => { x with err := .passive, recN := 130 }) safeInputs, 0, frameOfId 0x08E true, by decide⟩,
   ⟨busWith (fun x => { x with hopper := (Vector.replicate 128 {}).set 3 { id := 5, new := true } }) safeInputs, 1, frameOfId 0x08E false,
    0, 0, 3, by decide⟩⟩

theorem met_framesSent :
    (∃ (s : State) (t : Nat) (b : BusId) (k : Fin 128) (errors : Nat) (ecc : HopEcc),
      let r := s.at t
      let x := s.bus[b.1]
      let can := fun j : Fin 128 => x.hopper[j.1].txPend = true ∧ (x.hopper[j.1].fd = true → x.timing.data ≠ 0)
      x.established = true ∧ x.err ≠ .off ∧ x.listen = false ∧ can k ∧ (∀ j : Fin 128, can j →
      x.hopper[k.1].id.toNat < x.hopper[j.1].id.toNat ∨ (x.hopper[k.1].id = x.hopper[j.1].id ∧ k ≤ j)) ∧
      (∀ a ∈ x.hopper[k.1].deadline, r.ns < a) ∧ x.tecN ≤ 255 ∧ ecc ≠ .uncorrectable ∧ x.tecN + 8 * errors ≤ 255) ∧
    (∃ (s : State) (t : Nat) (b : BusId) (k : Fin 128) (errors : Nat) (ecc : HopEcc),
      let r := s.at t
      let x := s.bus[b.1]
      let can := fun j : Fin 128 => x.hopper[j.1].txPend = true ∧ (x.hopper[j.1].fd = true → x.timing.data ≠ 0)
      x.established = true ∧ x.err ≠ .off ∧ x.listen = false ∧ can k ∧ (∀ j : Fin 128, can j →
      x.hopper[k.1].id.toNat < x.hopper[j.1].id.toNat ∨ (x.hopper[k.1].id = x.hopper[j.1].id ∧ k ≤ j)) ∧
      (∀ a ∈ x.hopper[k.1].deadline, r.ns < a) ∧ x.tecN ≤ 255 ∧ ecc ≠ .uncorrectable ∧ 255 < x.tecN + 8 * errors) ∧
    (∃ (s : State) (t : Nat) (b : BusId) (k : Fin 128), ∃ a,
      let r := s.at t
      let x := s.bus[b.1]
      x.hopper[k.1].txPend = true ∧ x.hopper[k.1].deadline = some a ∧ a ≤ r.ns) :=
  let s := busWith (fun x => { x with hopper := ((Vector.replicate 128 {}).set 20
    { id := 5, txPend := true, deadline := some 9000000000 }).set 21 { id := 5, txPend := true } }) safeInputs
  ⟨⟨s, 5, 0, 20, 31, .sound, by decide⟩,
   ⟨s, 5, 0, 20, 32, .corrected, by decide⟩,
   ⟨s, 9000000000, 0, 20, 9000000000, by decide⟩⟩

theorem met_rateDetection :
    (∃ (s : State) (t : Nat) (b : BusId), ∃ k : Fin 8,
      let r := s.at t
      let x := s.bus[b.1]
      let g := s.cfg.bus.bus[b.1]
      x.started = true ∧ x.bstate = .detecting ∧ x.candAt + ms 250 ≤ r.ns ∧ g.candidates[k.1].nominal ≠ 0 ∧ (x.cand < k.1 ∧
      (∀ j : Fin 8, x.cand < j.1 → j < k → g.candidates[j.1].nominal = 0) ∨ (∀ j : Fin 8, x.cand < j.1 →
      g.candidates[j.1].nominal = 0) ∧ (∀ j : Fin 8, j < k → g.candidates[j.1].nominal = 0))) ∧
    (∃ (s : State) (b : BusId), ∃ k : Fin 8,
      let x := s.bus[b.1]
      x.started = true ∧ x.bstate = .detecting ∧ x.cand = k.1 ∧ 4 ≤ x.okRun) ∧
    (∃ (s : State) (t : Nat) (b : BusId),
      let r := s.at t
      let x := s.bus[b.1]
      x.started = true ∧ x.bstate = .detecting ∧ x.sawTraffic = false ∧ x.detectAt + ms 2000 ≤ r.ns) :=
  ⟨⟨detecting (fun x => { x with okRun := 4, cand := 2 }), 5000000000, 0, (3: Fin 8), by decide⟩,
   ⟨detecting (fun x => { x with okRun := 4, cand := 2 }), 0, (2: Fin 8), by decide⟩,
   ⟨detecting (fun x => { x with okRun := 4, cand := 2 }), 5000000000, 0, by decide⟩⟩

theorem met_busOffAndRecovery :
    (∃ (s : State) (b : BusId),
      let x := s.bus[b.1]
      x.established = true ∧ x.err ≠ .off ∧ x.bstate = .fallback) ∧
    (∃ (s : State) (b : BusId),
      let x := s.bus[b.1]
      x.bstate = .recovery) :=
  ⟨⟨busWith (fun x => { x with bstate := .fallback, prior := .fallback }) safeInputs, 0, by decide⟩,
   ⟨busWith (fun x => { x with bstate := .recovery, err := .off, prior := .configured, tecN := 256 }) safeInputs, 0, by decide⟩⟩

theorem met_hopReadWhole : (∃ x : HopRead, x.whole) ∧ (∃ x : HopRead, ¬ x.whole) ∧
    (∃ x : HopRead, x.ecc ≠ .uncorrectable ∧ 4 ≤ x.failed.length) ∧ ∃ x : HopRead, x.ecc = .uncorrectable := by
  refine ⟨⟨{}, ?_⟩, ⟨{ ecc := .uncorrectable }, ?_⟩, ⟨{ failed := List.replicate 4 .parity }, ?_⟩, ⟨{ ecc := .uncorrectable }, rfl⟩⟩ <;>
    simp only [HopRead.whole] <;> decide

theorem met_telegramAccepted :
    (∃ s o c, Accepts s o c ∧ s.cfg.bus.releaseMode = 0) ∧
    (∃ s o c, Accepts s o c ∧ (s.cfg.bus.releaseMode = 1 ∨ s.tele.single = true ∧ s.cfg.bus.releaseMode ≠ 0)) ∧
    (∃ s o c, Accepts s o c ∧ s.cfg.bus.releaseMode = 2 ∧ s.tele.single = false) ∧
    (∃ s o c, Accepts s o c ∧ s.tele.baseline = true ∧ (DoorTelegram.ofBytes o.data).masks ≠ 0 ∧ s.decides = true ∧ s.busesMute = false) ∧
    (∃ s o c, Accepts s o c ∧ s.tele.baseline = false ∧ s.tele.cmdNo ≠ some (DoorTelegram.ofBytes o.data).cmdNo ∧
      (DoorTelegram.ofBytes o.data).masks ≠ 0 ∧ s.decides = true ∧ s.busesMute = false) ∧
    (∃ s o c, Accepts s o c ∧ s.pair.formed = false) ∧ (∃ s o c, Accepts s o c ∧ s.pair.formed = true ∧ s.pair.token = false) ∧
    (∃ (s : State) (o : HObj), let waits := s.bus[1].copies
      s.millerRuns = true ∧ s.bus[0].established = true ∧ oldestNew s.bus[0].hopper 0 = some 2 ∧ s.bus[0].hopper[2] = o ∧ s.copyValid o = true ∧
      s.tele.single = true ∧ (∀ c ∈ waits, within20 c.arrival o.time = true → sameTelegram c.bytes o.data = false) ∧
      Ahead s o o.time) :=
  ⟨⟨telegramIn 10 0 false [copyOf 10 999999] true, telegramSeq 10, copyOf 10 999999, by decide⟩,
   ⟨telegramIn 10 1 false [copyOf 10 999999] true, telegramSeq 10, copyOf 10 999999, by decide⟩,
   ⟨telegramIn 12 2 false [copyOf 12 999999] true, telegramSeq 12, copyOf 12 999999, by decide⟩,
   ⟨telegramIn 12 2 false [copyOf 12 999999] true, telegramSeq 12, copyOf 12 999999, by decide⟩,
   ⟨telegramIn 10 0 false [copyOf 10 999999] false, telegramSeq 10, copyOf 10 999999, by decide⟩,
   ⟨telegramIn 10 0 false [copyOf 10 999999] true, telegramSeq 10, copyOf 10 999999, by decide⟩,
   ⟨standby (telegramIn 10 0 false [copyOf 10 999999] true), telegramSeq 10, copyOf 10 999999, by decide⟩,
   ⟨telegramIn 10 2 true [] false, telegramSeq 10, by decide⟩⟩

theorem met_telegramDiscarded :
    (∃ (s : State) (o : HObj), let waits := s.bus[1].copies
      s.millerRuns = true ∧ s.bus[0].established = true ∧ oldestNew s.bus[0].hopper 0 = some 2 ∧ s.bus[0].hopper[2] = o ∧ s.copyValid o = true ∧
      (∀ c ∈ waits, within20 c.arrival o.time = true → sameTelegram c.bytes o.data = false) ∧ s.tele.single = false) ∧
    (∃ (s : State) (o : HObj), ∃ c : TeleCopy, let waits := s.bus[1].copies
      s.millerRuns = true ∧ s.bus[0].established = true ∧ oldestNew s.bus[0].hopper 0 = some 2 ∧ s.bus[0].hopper[2] = o ∧ s.copyValid o = true ∧
      (waits.find? fun c => within20 c.arrival o.time && sameTelegram c.bytes o.data) = some c ∧
      (∀ c ∈ waits, within20 c.arrival o.time = true → c.bytes ≠ o.data)) ∧
    (∃ (s : State) (o : HObj), ∃ c : TeleCopy,
      let x := DoorTelegram.ofBytes o.data
      let d := (x.seq - (s.safeRef x).seq).toNat
      let waits := s.bus[1].copies
      s.millerRuns = true ∧ s.bus[0].established = true ∧ oldestNew s.bus[0].hopper 0 = some 2 ∧ s.bus[0].hopper[2] = o ∧ s.copyValid o = true ∧
      (waits.find? fun c => within20 c.arrival o.time && c.bytes == o.data) = some c ∧ c.decided = false ∧
      (s.safeRef x).valid = true ∧ d = 0) ∧
    (∃ (s : State) (o : HObj), ∃ c : TeleCopy,
      let x := DoorTelegram.ofBytes o.data
      let d := (x.seq - (s.safeRef x).seq).toNat
      let waits := s.bus[1].copies
      s.millerRuns = true ∧ s.bus[0].established = true ∧ oldestNew s.bus[0].hopper 0 = some 2 ∧ s.bus[0].hopper[2] = o ∧ s.copyValid o = true ∧
      (waits.find? fun c => within20 c.arrival o.time && c.bytes == o.data) = some c ∧ c.decided = false ∧
      (s.safeRef x).valid = true ∧ 32767 < d ∧ d ≠ 0) ∧
    (∃ s : State, s.millerRuns = true ∧ s.bus[0].established = true ∧ oldestNew s.bus[0].hopper 0 = none) :=
  let c : TeleCopy := { bytes := telegramBytes 10 2 0x00F0 5, arrival := 1000001 }
  ⟨⟨telegramIn 10 2 false [] false, telegramSeq 10, by decide⟩,
   ⟨telegramIn 10 2 false [c] false, telegramSeq 10, c, by decide⟩,
   ⟨telegramIn 9 2 false [copyOf 9 999999] false, telegramSeq 9, copyOf 9 999999, by decide⟩,
   ⟨telegramIn 8 2 false [copyOf 8 999999] false, telegramSeq 8, copyOf 8 999999, by decide⟩,
   ⟨busWith id safeInputs, by decide⟩⟩

theorem met_commandsLostAndSingleBus :
    (∃ (s : State) (t : Nat),
      let r := s.at t
      s.tele.lost = false ∧ s.millerRuns = true ∧ s.tele.lastAccept + ms (3 * s.cfg.bus.safeCycleMs) ≤ r.ns ∧ s.cfg.bus.releaseMode ≠ 0) ∧
    (∃ (s : State) (t : Nat),
      let r := s.at t
      s.millerRuns = true ∧ s.tele.single = false ∧ r.delivering 0 ≠ r.delivering 1 ∧ s.cfg.bus.releaseMode = 2) ∧
    (∃ (s : State) (t : Nat), ∃ a,
      let r := s.at t
      s.millerRuns = true ∧ s.tele.single = true ∧ r.delivering 0 = true ∧ r.delivering 1 = true ∧ s.tele.agreeAt = some a ∧ a + ms 1000 ≤ r.ns) :=
  ⟨⟨telegramIn 10 2 false [] false, 5, by decide⟩,
   ⟨deliveries (some 1000000000) none false, 5, by decide⟩,
   ⟨deliveries (some 1000000000) (some 1000000000) true, 1100000000, 5, by decide⟩⟩

theorem met_outputCommand :
    (∃ s o, Commands s o ∧ s.busesMute = true) ∧
    (∃ s o, Commands s o ∧ s.busesMute = false ∧ o.data.length ≠ 24) ∧
    (∃ s o, Commands s o ∧ s.busesMute = false ∧ o.data.length = 24 ∧ s.sluice.safe = true) ∧
    (∃ s o, Commands s o ∧ s.busesMute = false ∧ o.data.length = 24 ∧ s.sluice.safe = false ∧ s.pair.token = false) ∧
    (∃ s o, ∃ n : Dout, Commands s o ∧ s.busesMute = false ∧ o.data.length = 24 ∧ s.sluice.safe = false ∧ s.pair.token = true ∧
      Named s o ∧ (BitVec.ofNat 32 (beAt o.data 2 4)).getLsbD n.1 = true ∧ s.outputsLive = true ∧ s.io.dout[n.1].fault = false ∧
      s.cyc[n.door.1].restarting = false) ∧
    (∃ s o, Commands s o ∧ s.busesMute = false ∧ o.data.length = 24 ∧ s.sluice.safe = false ∧ s.pair.token = true ∧ ¬ Named s o) :=
  let o := outputObj 0x24 0x04 0x6 0x2
  let short : HObj := { o with data := [1] }
  let s := outputIn o
  let mute : BusCfg → BusCfg := fun b => { b with bus := Vector.replicate 2 { b.bus[0] with listenOnly := true } }
  ⟨⟨{ s with cfg := { s.cfg with bus := mute s.cfg.bus } }, o, by decide⟩,
   ⟨outputIn short, short, by decide⟩,
   ⟨{ s with sluice := { s.sluice with safe := true } }, o, by decide⟩,
   ⟨{ s with pair := { s.pair with token := false } }, o, by decide⟩,
   ⟨s, o, 2, by decide⟩,
   ⟨outputIn (outputObj 0x24 0x04 0x3 0x2), outputObj 0x24 0x04 0x3 0x2, by decide⟩⟩

theorem met_statusSent :
    (∃ (s : State) (t : Nat), ∃ b : BusId,
      let r := s.at t
      s.sends = true ∧ (∀ a, s.tele.gsAt = some a → a + ms s.cfg.bus.safeCycleMs ≤ r.ns) ∧ s.pair.formed = false ∧
      s.cfg.bus.bus[b.1].listenOnly = false) ∧
    (∃ (s : State) (t : Nat), ∃ a,
      let r := s.at t
      s.tele.gsAt = some a ∧ r.ns < a + ms 10 ∧ 10 ≤ s.cfg.bus.safeCycleMs) ∧
    (∃ (s : State) (t : Nat), ∃ k : Fin 16, ∃ b : BusId,
      let r := s.at t
      s.sends = true ∧ (∀ a, s.tele.pageAt = some a → a + ms s.cfg.bus.statusMs ≤ r.ns) ∧ (s.nv.is2216 = true ∨ k.1 % 2 = 0) ∧
      s.pair.formed = false ∧ s.cfg.bus.bus[b.1].listenOnly = false) ∧
    (∃ (s : State) (t : Nat), ∃ k : Fin 16,
      let r := s.at t
      s.sends = true ∧ (∀ a, s.tele.pageAt = some a → a + ms s.cfg.bus.statusMs ≤ r.ns) ∧ s.nv.is2216 = false ∧ k.1 % 2 = 1) :=
  ⟨⟨busWith id safeInputs, 5, 0, by decide⟩,
   ⟨{ busWith id safeInputs with tele := { safeInputs.tele with gsAt := some 999999999, pageAt := some 5 } }, 5, 999999999, by decide⟩,
   ⟨busWith id safeInputs, 5, 0, 0, by decide⟩,
   ⟨{ busWith id safeInputs with nv := { safeInputs.nv with is2216 := false } }, 5, 1, by decide⟩⟩

theorem met_timeReference :
    (∃ s o, ∃ off : Int, Refers s o off ∧ (TimeRefMsg.ofBytes o.data).mq ≤ 1 ∧ off.natAbs < 2000) ∧
    (∃ s o, ∃ off : Int, Refers s o off ∧ 2000 ≤ off.natAbs ∧ (∀ g ∈ s.cal.held, 1000 < (off - g).natAbs)) ∧
    (∃ s o, ∃ off : Int, ∃ g, Refers s o off ∧ 2000 ≤ off.natAbs ∧ s.cal.held = some g ∧ (off - g).natAbs ≤ 1000) :=
  ⟨⟨timeIn 5 none id, timeObj 5, 5, by decide⟩,
   ⟨timeIn 5000 (some 3999) id, timeObj 5000, 5000, by decide⟩,
   ⟨timeIn 5000 (some 4000) id, timeObj 5000, 5000, 4000, by decide⟩⟩

theorem met_timeSourceLostAndBack :
    (∃ (s : State) (t : Nat),
      let r := s.at t
      s.maint.failed = false ∧ s.cal.src ≠ .holdover ∧ r.srcValid s.cal.src = false ∧ s.cal.psrc = none) ∧
    (∃ (s : State) (t : Nat), ∃ a,
      let r := s.at t
      s.bus[0].bstate = .recovery ∧ s.bus[0].started = true ∧ s.bus[0].prior ≠ .detecting ∧ s.cfg.bus.useA = true ∧
      s.cal.refs[0].pairAt = some a ∧ r.ns ≤ a + ms (3 * s.cfg.bus.refPeriodMs) ∧ s.cal.src = .holdover ∧ s.cal.left = .busA ∧
      s.cal.psrc = some .busB) :=
  ⟨⟨timeIn 5 (some 7) id, 5, by decide⟩,
   ⟨recovered, 5, 999999999, by decide⟩⟩

theorem met_pairIdentity :
    (∃ (s : State) (t : Nat), s.cfg.pair.enable = true ∧ s.pair.formAt.isSome = true ∧ (s.pair.formed = false ∨ s.partnerGone = true) ∧
      (s.pair.txIdent = none ∨ s.pair.identSent + ms 10 ≤ (s.at t).ns)) ∧
    (∃ s : State, s.cfg.pair.enable = true ∧ s.pair.formAt.isSome = true ∧ s.pair.formed = true ∧ s.partnerGone = true) ∧
    (∃ s : State, s.cfg.pair.enable = true ∧ s.pair.formAt.isSome = true ∧ s.pair.formed = true ∧ s.partnerGone = false) ∧
    (∃ (s : State) (f : IdFrame), s.cfg.pair.enable = true ∧ s.pair.formed = false ∧ s.pair.formAt.isSome = true ∧
      f.variant2216 = s.nv.is2216 ∧ f.posB ≠ s.pair.posB ∧ f.headerCrc = s.cfg.headerCrc ∧ s.pair.pstate = .forming) ∧
    (∀ q : Bool, ∃ (s : State) (f : IdFrame), s.cfg.pair.enable = true ∧ s.pair.formAt.isSome = true ∧
      (if q then s.pair.formed = false else s.pair.token = true) ∧
      (f.posB = s.pair.posB ∨ f.variant2216 ≠ s.nv.is2216 ∨ f.headerCrc ≠ s.cfg.headerCrc)) ∧
    (∃ s : State, s.cfg.pair.enable = true ∧ s.pair.formAt.isSome = true ∧ s.pair.formed = true ∧ s.pair.token = false) :=
  ⟨⟨forming id, 5, by decide⟩,
   ⟨tokenHolder fun p => { p with backLink := false }, by decide⟩,
   ⟨tokenHolder fun p => { p with backLink := true, rxBackAt := some 999999999 }, by decide⟩,
   ⟨forming id, identFrame, by decide⟩,
   fun q => ⟨if q then forming id else tokenHolder id, { identFrame with posB := false }, by revert q; decide⟩,
   ⟨standbyCold id, by decide⟩⟩

theorem met_pairRoles :
    (∃ (s : State), s.pair.pstate = .forming ∧ s.pair.formed = true ∧ s.pair.tokIn = true) ∧
    (∃ (s : State), s.pair.pstate = .forming ∧ s.pair.formed = true ∧ s.pair.tokIn = false ∧ s.mayTakeToken = true ∧
      (s.pair.desig = some s.pair.posB ∨ s.pair.desig = none ∧ s.pair.posB = false)) ∧
    (∃ (s : State) (t : Nat),
      let r := s.at t
      s.pair.pstate = .forming ∧ s.pair.formed = false ∧ r.formLate = true ∧ s.mayTakeToken = true) :=
  ⟨⟨forming (fun p => { p with formed := true, tokIn := true }), by decide⟩,
   ⟨forming (fun p => { p with formed := true }), by decide⟩,
   ⟨forming (fun p => { p with formed := false }), 5, by decide⟩⟩

theorem met_tokenTakenWhenReleased :
    (∃ (s : State), s.pair.token = false ∧ s.pair.pstate = .alone ∧ s.pair.formed = false ∧
      (s.cfg.pair.enable = true → s.pair.formAt.isSome = true) ∧ May s) ∧
    (∃ (s : State), ∃ f, s.pair.token = false ∧ StandsBy s ∧ May s ∧ (s.pair.handoverSeen = true ∨ s.pair.posmis = 0) ∧
      s.pair.rx = some f) ∧
    (∃ (s : State), s.pair.token = false ∧ StandsBy s ∧ s.pair.handoverSeen = false ∧ s.pair.posmis ≠ 0) :=
  ⟨⟨forming (fun p => { p with pstate := .alone, tokIn := true }), by decide⟩,
   ⟨standbyRx id 2 3, frameOf 2 3, by decide⟩,
   ⟨standbyRx (fun p => { p with posmis := 5, pstate := .split }) 2 3, by decide⟩⟩

theorem met_takeoverOfDoors :
    (∃ s t f a, ∃ (d : Door) (m : Mode), TakesOver s f a ∧ (s.pair.handoverSeen = true ∨ (s.at t).ns ≤ a + 500000) ∧
      s.fitted d = true ∧ s.cyc[d.1].restarting = false ∧ Mode.ofCode f.doors[d.1].mode.toNat = some m ∧ m.moving = true) ∧
    (∃ s t f a, ∃ (n : Dout) (k : Ls), TakesOver s f a ∧ (s.pair.handoverSeen = true ∨ (s.at t).ns ≤ a + 500000) ∧
      (∀ d : Door, s.cyc[d.1].restarting = false) ∧ s.io.dout[n.1].fault = false ∧
      s.io.ls[k.1].pause = none ∧ s.io.ls[k.1].latched = false ∧ s.io.ls[k.1].shed = false) ∧
    (∃ s t f a, ∃ d : Door, TakesOver s f a ∧ s.pair.handoverSeen = false ∧ a + 500000 < (s.at t).ns ∧ s.fitted d = true ∧
      s.cyc[d.1].state ≠ .isolated ∧ s.enc[d.ch.1].still = false) ∧
    (∃ s t f a, ∃ d : Door, TakesOver s f a ∧ s.pair.handoverSeen = false ∧ a + 500000 < (s.at t).ns ∧ s.fitted d = true ∧
      s.stepFitted d = true ∧ s.enc[d.step.1].still = false) :=
  ⟨⟨standbyRx id 2 3, 5, frameOf 2 3, 999990000, 0, .travelOpen, by decide⟩,
   ⟨standbyRx id 2 3, 5, frameOf 2 3, 999990000, 0, 0, by decide⟩,
   ⟨standbyRx (fun p => { p with rxAt := some 5}) 2 3, 5, frameOf 2 3, 5, 0, by decide⟩,
   ⟨standbyRx (fun p => { p with rxAt := some 5}) 2 3, 5, frameOf 2 3, 5, 0, by decide⟩⟩

theorem met_tokenLineAndDelay :
    (∃ (s : State) (t : Nat),
      let r := s.at t
      s.pair.token = true ∧ (∀ c, s.pair.closeAt = some c → s.pair.posB = false ∨ c - 5000 + 100 < r.ns)) ∧
    (∃ (s : State) (t : Nat), ∃ c,
      let r := s.at t
      s.pair.token = true ∧ s.pair.closeAt = some c ∧ s.pair.posB = true ∧ r.ns ≤ c - 5000 + 100) ∧
    (∃ (s : State), ∃ k, s.pair.token = false ∧ s.pair.gaveUp = some k ∧ s.pair.restartAfter = false) ∧
    (∃ (s : State) (t : Nat), ∃ a,
      let r := s.at t
      s.pair.closeAt = some a ∧ a ≤ r.ns) :=
  ⟨⟨tokenHolder id, 5, by decide⟩,
   ⟨tokenHolder (fun p => { p with posB := true, closeAt := some 1000004900 }), 5, 1000004900, by decide⟩,
   ⟨{ tokenHolder (fun p => { p with token := false, gaveUp := some 1, msgs := [{ msg := .liveCheck 0 0 0 }] }) with capture := { running := true } },
    1, by decide⟩,
   ⟨tokenHolder (fun p => { p with closeAt := some 5 }), 5, 5, by decide⟩⟩

theorem met_arbiterAndHandover :
    (∃ (s : State), ∃ a b, (a ≠ s.pair.arb1 ∨ b ≠ s.pair.arb2) ∧ 0 < s.cfg.pair.arbConfirmMs) ∧
    (∃ (s : State) (t : Nat),
      let r := s.at t
      s.pair.arbAt + ms s.cfg.pair.arbConfirmMs ≤ r.ns) ∧
    (∃ (s : State) (t : Nat),
      let r := s.at t
      s.maint.configured = true ∧ s.cfg.pair.enable = true ∧ s.pair.desig = none ∧ s.pair.arbLost = false ∧
      s.pair.desigAt + ms 1000 < r.ns) ∧
    (∃ (s : State),
      let wants : Prop := s.pair.formed = true ∧ s.pair.token = true ∧ s.pair.pstate = .active ∧
          s.cfg.pair.followArbiter = true ∧ s.pair.desig = some (!s.pair.posB) ∧ s.pair.handover = false ∧
          s.pair.releasing = false
      wants ∧ s.partnerReady = true) ∧
    (∃ (s : State),
      let wants : Prop := s.pair.formed = true ∧ s.pair.token = true ∧ s.pair.pstate = .active ∧
          s.cfg.pair.followArbiter = true ∧ s.pair.desig = some (!s.pair.posB) ∧ s.pair.handover = false ∧
          s.pair.releasing = false
      wants ∧ s.partnerReady = false ∧ s.pair.deferred = false) ∧
    (∃ (s : State),
      let wants : Prop := s.pair.formed = true ∧ s.pair.token = true ∧ s.pair.pstate = .active ∧
          s.cfg.pair.followArbiter = true ∧ s.pair.desig = some (!s.pair.posB) ∧ s.pair.handover = false ∧
          s.pair.releasing = false
      wants ∧ s.pair.deferred = true) ∧
    (∃ (s : State), ∃ f, s.pair.formed = true ∧ s.pair.token = true ∧ s.pair.handover = true ∧ s.pair.releasing = false ∧
      s.pair.tx = some f ∧ f.handover = true ∧ (∃ d : Door, s.drv[d.1].pairsSensed = true)) ∧
    (∃ (s : State), ∃ f, s.pair.formed = true ∧ s.pair.token = true ∧ s.pair.handover = true ∧ s.pair.releasing = false ∧
      s.pair.tx = some f ∧ f.handover = true ∧ (∀ d : Door, s.drv[d.1].pairsSensed = false) ∧ s.sluice.safe = false) :=
  ⟨⟨tokenHolder id, true, true, by decide⟩,
   ⟨tokenHolder id, 5, by decide⟩,
   ⟨{ tokenHolder (fun p => { p with desig := none, arbLost := false }) with ns := 2000000000 }, 5, by decide⟩,
   ⟨tokenHolder (fun p => { p with desig := some true, arb1 := true, arb2 := true, rxBack := some { back0 with pstate := 3 }, rxBackAt := some 999999999, backLink := true, link := true }),
    by decide⟩,
   ⟨tokenHolder (fun p => { p with desig := some true, arb1 := true }), by decide⟩,
   ⟨tokenHolder (fun p => { p with desig := some true, deferred := true, handover := false }), by decide⟩,
   ⟨{ tokenHolder (fun p => { p with desig := some true, handover := true, tx := some { frameOf 2 3 with handover := true} }) with drv := Vector.replicate 16 { pairsCmd := true, pairsSensed := true } },
    ({ frameOf 2 3 with handover := true} : ActiveFrame), by decide⟩,
   ⟨tokenHolder (fun p => { p with desig := some true, handover := true, tx := some { frameOf 2 3 with handover := true} }),
    ({ frameOf 2 3 with handover := true} : ActiveFrame), by decide⟩⟩

theorem met_activeFrameTaken :
    (∃ (s : State) (f : ActiveFrame) (crc : BitVec 16) (broken : Bool), s.pair.formed = true ∧ s.pair.token = false ∧
      (broken = true ∨ crc ≠ ActiveFrame.crc f)) ∧
    (∃ (s : State) (f : ActiveFrame) (crc : BitVec 16), s.pair.formed = true ∧ s.pair.token = false ∧ crc = ActiveFrame.crc f ∧
      f.msgs = [] ∧ (s.pair.pstate = .standbyReady ∨ s.pair.pstate = .standbyNotReady)) ∧
    (∃ (s : State) (f : ActiveFrame) (crc : BitVec 16) (mask : BitVec 2) (fd brs : Bool) (id : BitVec 11) (o : Fin 128)
      (data : List Byte) (b : BusId), s.pair.formed = true ∧ s.pair.token = false ∧ crc = ActiveFrame.crc f ∧
      f.msgs = [.busFrame mask fd brs id o.1 data] ∧ mask.getLsbD b.1 = true ∧ s.cfg.bus.bus[b.1].listenOnly = false) :=
  ⟨⟨standbyCold id, frameOf 2 3, 0, true, by decide, by decide, .inl rfl⟩,
   ⟨standbyCold id, frameOf 2 3, _, by decide, by decide, rfl, rfl, .inr rfl⟩,
   ⟨standbyCold id, { frameOf 2 3 with msgs := [.busFrame 3 true true 7 30 [1,2,3]] }, _, 3, true, true, 7, 30, [1,2,3], 0,
    by decide, by decide, rfl, rfl, by decide, by decide⟩⟩

theorem met_backFrameTaken :
    (∃ (s : State) (f : BackFrame) (broken : Bool) (crc : BitVec 16), s.pair.formed = true ∧ s.pair.token = true ∧
      (broken = true ∨ crc ≠ BackFrame.crc f)) ∧
    (∃ (s : State) (f : BackFrame), s.pair.formed = true ∧ s.pair.token = true ∧ s.pair.check = none ∧ f.pairiso = false ∧
      f.calResult ≠ 2 ∧ f.pstate ≠ 5) ∧
    (∀ q : Fin 2, ∃ (s : State) (f : BackFrame), ∃ m c w a k, s.pair.formed = true ∧ s.pair.token = true ∧
      s.pair.check = some (m, c, w, a) ∧ s.pair.checkSeq = some k ∧ (f.ack - k).msb = false ∧ f.pairiso = false ∧ f.lwChannel = c ∧
      f.lwResult ≠ 0 ∧ if q = 0 then f.lwResult = 1 ∧ s.slot[c.1].pending.length < 8 else f.lwResult ≠ 1) ∧
    (∃ (s : State) (f : BackFrame), ∃ k, s.pair.formed = true ∧ s.pair.token = true ∧ s.pair.check.isSome = true ∧ f.pairiso = false ∧
      s.pair.checkSeq = some k ∧ (f.ack - k).msb = true) ∧
    (∃ (s : State) (f : BackFrame) (d : Door), s.pair.formed = true ∧ s.pair.token = true ∧ f.pairiso = true ∧
      s.fitted d = true ∧ s.cyc[d.1].state ≠ .isolated ∧ s.cyc[d.1].state ≠ .faultHeld) ∧
    (∃ (s : State) (t : Nat), ∃ m c w a, s.pair.formed = true ∧ s.pair.token = true ∧ s.pair.check = some (m, c, w, a) ∧
      a + ms 1 ≤ (s.at t).ns ∧ s.millerRuns = true) :=
  let s := tokenHolder fun p => { p with check := some (msg1, 3, writeOne, 5), checkSeq := some 7 }
  ⟨⟨tokenHolder id, backFrame, true, 0, by decide, by decide, .inl rfl⟩,
   ⟨tokenHolder id, backFrame, by decide⟩,
   fun q => ⟨s, { backFrame with ack := 7, lwResult := if q = 0 then 1 else 2 }, msg1, 3, writeOne, 5, 7, by revert q; decide⟩,
   ⟨s, { backFrame with ack := 6 }, 7, by decide⟩,
   ⟨door1 (tokenHolder id) .open, { backFrame with pairiso := true }, 0, by decide⟩,
   ⟨s, 5, msg1, 3, writeOne, 5, by decide⟩⟩

theorem met_streamLostAndRegained :
    (∃ (s : State) (t : Nat),
      let r := s.at t
      let last := max ((if s.pair.token then s.pair.rxBackAt else s.pair.rxAt).getD 0) s.pair.roleAt
      s.pair.formed = true ∧ s.pair.pstate.sends.isSome = true ∧ s.pair.lost = false ∧
      (s.cfg.pair.lossPeriods ≤ s.pair.failRun ∨ last + s.cfg.pair.lossPeriods * 125000 ≤ r.ns) ∧
      (s.pair.pstate = .standbyReady ∨ s.pair.pstate = .standbyNotReady) ∧ s.pair.tokIn = true) ∧
    (∃ (s : State) (t : Nat),
      let r := s.at t
      let last := max ((if s.pair.token then s.pair.rxBackAt else s.pair.rxAt).getD 0) s.pair.roleAt
      s.pair.formed = true ∧ s.pair.pstate.sends.isSome = true ∧ s.pair.lost = false ∧
      (s.cfg.pair.lossPeriods ≤ s.pair.failRun ∨ last + s.cfg.pair.lossPeriods * 125000 ≤ r.ns) ∧
      s.pair.pstate = .active ∧ s.pair.token = true) ∧
    (∃ (s : State), s.pair.lost = true ∧ 64 ≤ s.pair.okRun ∧ s.pair.pstate = .split) ∧
    (∃ (s : State) (t : Nat), ∃ (d : Door) (c : CalRec) (k : Option Nat),
      let r := s.at t
      s.obs[d.1].sending = none ∧ s.obs[d.1].takeUp = some (c, k) ∧ (∀ j ∈ k, j ≤ r.ns) ∧ s.obs[d.1].commit = true) :=
  ⟨⟨tokenHolder (fun p => { p with rxAt := some 5, token := false, tokIn := true, pstate := .standbyReady }), 5, by decide⟩,
   ⟨tokenHolder (fun p => { p with failRun := 3 }), 5, by decide⟩,
   ⟨tokenHolder (fun p => { p with lost := true, okRun := 64, token := false, tokIn := true, pstate := .split }), by decide⟩,
   ⟨(tokenHolder id).modObs 0 (fun o => { o with takeUp := some ({ mass := 5 }, some 1000000000), bClose := 5, commit := true }), 5, 0,
    { mass := 5 }, some 1000000000, by decide⟩⟩

theorem met_flushesAndCheckpoints :
    (∃ (s : State) (t : Nat),
      let r := s.at t
      s.book.wthru = false ∧ s.book.flushing = none ∧ s.book.powerFailed = false ∧
      s.book.flushEnd + ms (60000 * s.cfg.recorder.flushMin) ≤ r.ns) ∧
    (∃ (s : State), ∃ n c, s.book.flushing = some (n, c) ∧ s.nv.cycles.length + n ≤ 6160384 ∧
      s.nv.events.length + n ≤ 1048576 ∧ s.nv.traces.length + n ≤ 7168) ∧
    (∃ (s : State) (t : Nat),
      let r := s.at t
      s.book.wthru = true ∧ s.book.powerFailed = false ∧ s.book.checkpointAt + ms 60000 ≤ r.ns) ∧
    (∃ (s : State) (t : Nat), ∃ code a,
      let r := s.at t
      (s.bucket code).timer = some a ∧ a ≤ r.ns) :=
  ⟨⟨bookWith id, hour, by decide⟩,
   ⟨bookWith (fun b => { b with intake := [eventRec 5 1, cycleRec, eventRec 6 2], flushing := some (2, .periodic), buckets := [(5, { tokens := 3, timer := some 5 }), (9, { tokens := 7, timer := some 7})] }),
    2, FlushCause.periodic, by decide⟩,
   ⟨bookWith (fun b => { b with wthru := true }), hour, by decide⟩,
   ⟨bookWith (fun b => { b with intake := [eventRec 5 1, cycleRec, eventRec 6 2], flushing := some (2, .periodic), buckets := [(5, { tokens := 3, timer := some 5 }), (9, { tokens := 7, timer := some 7})] }),
    hour, 5, 5, by decide⟩⟩

theorem met_traceRings :
    (∃ (s : State) (d : Door), s.book.rings[d.1].pending = []) ∧
    (∀ q : Bool, ∃ (s : State) (d : Door), ∃ x tr n, s.book.rings[d.1].pending = [(x, n)] ∧ x.body = .trace tr ∧
      if q then 2 ≤ n else n = 1 ∧ s.book.intakeOpen = true ∧ s.book.powerFailed = false) ∧
    (∃ (s : State) (d : Door) (b : Fin 7) (c : CycleRec), s.cyc[d.1].rec? = some c ∧ s.cfg.recorder.triggers.getLsbD b.1 = false) ∧
    (∀ q : Bool, ∃ (s : State) (d : Door) (b : Fin 7) (c : CycleRec), s.cyc[d.1].rec? = some c ∧
      s.cfg.recorder.triggers.getLsbD b.1 = true ∧ c.traced = q) ∧
    (∃ s : State, s.tick % s.cfg.recorder.traceInterval ≠ 0) :=
  let trig : State → BitVec 7 → State := fun s v =>
    { s with cfg := { s.cfg with recorder := { s.cfg.recorder with triggers := v } } }
  ⟨⟨tracing 0 {}, 0, by decide⟩,
   fun q => ⟨tracing (if q then 5 else 1) {}, 0, traceRec, trace0, if q then 5 else 1, by revert q; decide⟩,
   ⟨trig (tracing 0 {}) 0, 0, 0, {}, by decide⟩,
   fun q => ⟨trig (tracing 0 { traced := q }) 0x7F, 0, 0, { traced := q }, by revert q; decide⟩,
   ⟨base.at 1000125000, by decide⟩⟩

theorem met_millpondStates :
    (∃ (s : State), s.book.pond ≠ .absent ∧ s.book.pond ≠ .notFitted ∧ (s.book.pond ≠ .available ∨ s.book.lvLowAt = none) ∧
      s.book.intake ≠ []) ∧
    (∃ (s : State) (mv : Nat), s.book.pond = .available ∧ s.book.lvLowAt.isSome = true ∧ s.book.powerFailed = false ∧
      s.inReset = false ∧ mv < 48000) ∧
    (∃ (s : State), s.book.pond = .absent ∧ s.inReset = false) ∧
    (∃ (s : State), s.book.pond = .charging ∧ s.book.accepting = true) ∧
    (∃ (s : State) (t : Nat),
      let r := s.at t
      s.book.pond = .available ∧ s.book.testEnd = none ∧ s.book.testAt + ms (3600000 * s.cfg.recorder.testHours) ≤ r.ns) ∧
    (∃ (s : State) (t : Nat), ∃ uf mohm a,
      let r := s.at t
      s.book.testEnd = some a ∧ a ≤ r.ns ∧ s.book.pond ≠ .charging ∧ (s.book.pond ≠ .available ∨ s.book.lvLowAt = none) ∧ s.cfg.recorder.minUf ≤ uf ∧ mohm ≤ 500 ∧
      s.book.pond = .testing ∧ s.book.wasAbsent = true) ∧
    (∃ (s : State) (t : Nat), ∃ uf mohm a,
      let r := s.at t
      s.book.testEnd = some a ∧ a ≤ r.ns ∧ s.book.pond ≠ .charging ∧ (s.book.pond ≠ .available ∨ s.book.lvLowAt = none) ∧ (uf < s.cfg.recorder.minUf ∨ 500 < mohm)) ∧
    (∃ (s : State), ∃ mv : Nat, (s.book.lvLowAt = none ∨ s.book.pond ≠ .available ∨ 48000 ≤ mv) ∧ s.book.pond = .available ∧ mv < 48000) ∧
    (∃ (s : State), ∃ mv : Nat, (s.book.lvLowAt = none ∨ s.book.pond ≠ .available ∨ 48000 ≤ mv) ∧ s.book.pond = .charging ∧ s.book.accepting = false ∧ 49500 ≤ mv) ∧
    (∃ (s : State) (t : Nat), ∃ date,
      let r := s.at t
      s.book.acceptedS = some date ∧ date + tenYears ≤ r.calS ∧ (∀ a, s.book.dueAt = some a → a ≤ r.ns)) :=
  ⟨⟨bookWith (fun b => { b with pond := .available, intake := [cycleRec] }), by decide⟩,
   ⟨bookWith (fun b => { b with pond := .available, lvLowAt := some 5 }), 22000, by decide⟩,
   ⟨bookWith (fun b => { b with pond := .absent, intake := [cycleRec] }), by decide⟩,
   ⟨bookWith (fun b => { b with pond := .charging, wthru := true, accepting := true }), by decide⟩,
   ⟨bookWith (fun b => { b with pond := .available, intake := [cycleRec] }), 100 * hour, by decide⟩,
   ⟨bookWith (fun b => { b with pond := .testing, wthru := true, accepting := true, wasAbsent := true, testEnd := some 5 }), hour,
    22000, 500, 5, by decide⟩,
   ⟨bookWith (fun b => { b with pond := .testing, wthru := true, accepting := true, wasAbsent := true, testEnd := some 5 }), hour,
    22000, 22000, 5, by decide⟩,
   ⟨bookWith (fun b => { b with pond := .available, intake := [cycleRec] }), 22000, by decide⟩,
   ⟨bookWith (fun b => { b with pond := .charging, wthru := true, accepting := false }), 49500, by decide⟩,
   ⟨{ bookWith (fun b => { b with pond := .available, acceptedS := some 0 }) with cal := { safeInputs.cal with us := 4000000000000000 } },
    hour, 0, by decide⟩⟩

theorem met_powerFailure :
    (∃ (s : State) (us : Nat) (d : Door), s.book.powerFailed = false ∧ s.inReset = false ∧ s.lvLimit ≤ us ∧
      s.nv.cycles.length + s.book.intake.length + 16 ≤ 6160384 ∧ s.nv.events.length + s.book.intake.length + 1 ≤ 1048576 ∧
      s.nv.traces.length + s.book.intake.length ≤ 7168 ∧ s.cyc[d.1].rec?.isSome = true) ∧
    (∃ (s : State) (us : Nat), us < s.lvLimit) ∧ (∃ s : State, s.inReset = true) ∧ (∃ (s : State) (us : Nat), s.lvLimit ≤ us) ∧
    (∃ (s : State) (us : Nat), s.book.powerFailed = false ∧ s.inReset = false ∧ us < s.lvLimit) ∧
    (∃ s : State, ∃ c : HoldEnd, s.book.powerFailed = true ∧ c = .storeEmpty) :=
  ⟨⟨recordsOpen, 100, 0, by decide⟩, ⟨bookWith fun b => { b with pond := .available }, 9999, by decide⟩, ⟨State.reset, by decide⟩,
   ⟨bookWith fun b => { b with pond := .available }, 10000, by decide⟩, ⟨recordsOpen, 99, by decide⟩,
   ⟨{ recordsOpen with book := { recordsOpen.book with powerFailed := true } }, HoldEnd.storeEmpty, by decide⟩⟩

theorem met_retentionAndPlug :
    (∃ (s : State) (t : Nat), s.book.flushing = none ∧ s.book.powerFailed = false ∧ s.inReset = false ∧
      s.nv.scanS + yearS ≤ (s.at t).calS) ∧
    (∃ (s : State) (t : Nat), ∃ q : Fin 4, ∃ a, s.plugOk ∧ s.maint.refresh.region = some q ∧ s.maint.refresh.redo = false ∧
      s.maint.refresh.opened = none ∧ s.millerRuns = true ∧ s.plugWritable = true ∧ (q = 0 → s.slotWriting false = false) ∧
      (q = 1 → s.slotWriting true = false) ∧ s.maint.refresh.last + ms 10000 ≤ (s.at t).ns ∧
      s.maint.refresh.sector < regionSectors q ∧ ¬ (0x1D00000 ≤ a ∧ a < 0x1D20000)) ∧
    (∃ s : State, ∃ off a, s.plugOk ∧ s.maint.refresh.opened = some off ∧ s.journal = some off ∧ off + 0x10000 ≤ scratchAt ∧
      s.plugWritable = true ∧ ¬ (off ≤ a ∧ a < off + 0x10000) ∧ ¬ (journalAt ≤ a ∧ a < journalAt + 0x10000)) ∧
    (∃ s : State, s.maint.plugPresent = true) ∧ (∃ s : State, s.maint.plugPresent = false) :=
  let s := plugWith fun m => { m with refresh := { region := some 1, opened := some 0xC10000 } }
  ⟨⟨{ bookWith id with cal := { safeInputs.cal with us := 40000000000000 } }, 5, by decide⟩,
   ⟨plugWith (fun m => { m with refresh := { region := some 1, sector := 191 } }), 20*hour, 1, 0xC10000,
    by simp only [State.plugOk]; decide⟩,
   ⟨{ s with nv := { s.nv with plug := Memory.writeBytes s.nv.plug journalAt (toLe 4 0xC10000) } }, 0xC10000, 0,
    by simp only [State.plugOk]; decide⟩,
   ⟨bookWith id, by decide⟩,
   ⟨plugWith (fun m => { m with plugPresent := false }), by decide⟩⟩

theorem met_sessions :
    (∃ (s : State) (nonce : List Byte), 3 ≤ s.maint.step ∧ s.maint.failed = false ∧ (s.maint.blank = false ∨ s.depot = true) ∧
      nonce.length ≠ 16) ∧
    (∀ q : Bool, ∃ (s : State) (nonce : List Byte), 3 ≤ s.maint.step ∧ s.maint.failed = false ∧ (s.maint.blank = false ∨ s.depot = true) ∧
      nonce.length = 16 ∧ if q then s.maint.sessions.length < 4 else 4 ≤ s.maint.sessions.length) ∧
    (∃ (s : State) (t : Nat) (c : Instr) (id : BitVec 32), ∃ x,
      c = .sessionTimeout t id ∧ s.maint.failed = false ∧ s.session id = some x ∧ x.last + ms 30000 ≤ (s.at t).ns) ∧
    (∃ (s : State) (t : Nat) (c : Instr) (id k : BitVec 32) (x : Session), c = .closeSession t ⟨id, k⟩ ∧ Claim.Taken s ⟨id, k⟩ x) ∧
    (∃ (s : State) (t : Nat) (c : Instr) (id : BitVec 32), ∃ x, let r := s.at t
      c = .tagFailure t id ∧ 3 ≤ s.maint.step ∧ s.maint.failed = false ∧ s.session id = some x ∧
      4 ≤ (x.tagFails.filter fun k => decide (r.ns ≤ k + ms 10000)).length) ∧
    (∃ (s : State) (t : Nat), ∃ id x,
      let r := s.at t
      s.session id = some x ∧ 3 ≤ s.maint.step ∧ s.maint.failed = false ∧
      (x.tagFails.filter fun k => decide (r.ns ≤ k + ms 10000)).length < 4) :=
  let old := { sessionOf 2 with tagFails := [999999999, 999999998, 999999997, 999999996] }
  ⟨⟨maintWith id, [], by decide⟩,
   fun q => ⟨if q then maintWith id else fourSessions, List.replicate 16 0, by revert q; decide⟩,
   ⟨tally base, 31000000000, _, 1, sess, rfl, by decide⟩,
   ⟨tally base, 5, _, 1, 1, sess, rfl, taken _ (by decide)⟩,
   ⟨maintWith fun m => { m with sessions := [old] }, 5, _, 2, old, rfl, by decide⟩,
   ⟨fourSessions, 7, 2, sessionOf 2, by decide⟩⟩

theorem met_maintenanceTokens :
    (∀ q : Bool, ∃ (s : State) (m : Msg) (x : Session) (d : Door), Claim.Taken s m x ∧ s.fitted d = q) ∧
    (∃ (s : State) (m : Msg) (x : Session), Claim.Taken s m x ∧ s.maint.moduleTok = some m.session) ∧
    (∃ (s : State) (m : Msg) (x : Session) (d : Door), Claim.Taken s m x ∧ s.maint.doorTok[d.1] = some m.session ∧
      s.cyc[d.1].state ≠ .service) ∧
    (∃ (s : State) (m : Msg) (x : Session) (d : Door), Claim.Taken s m x ∧ s.maint.doorTok[d.1] ≠ some m.session) :=
  ⟨fun q => ⟨if q then maintWith id else oneDoor (maintWith id), msg, sess, 3, taken _ (by revert q; decide), by revert q; decide⟩,
   ⟨maintWith id, msg, sess, taken _ (by decide), by decide⟩,
   ⟨maintWith id, msg, sess, 3, taken _ (by decide), by decide⟩,
   ⟨tokensOf (some 2), msg, sess, 3, taken _ (by decide), by decide⟩⟩

theorem met_serviceTokenLost :
    (∃ (s : State) (d : Door), s.maint.doorTok[d.1] = none ∧ s.maint.failed = false ∧ s.cyc[d.1].state = .service ∧ s.cyc[d.1].restarting = false ∧
      s.tentering d = false ∧ s.closedRead d = true ∧ s.lockRead d = true) ∧
    (∃ (s : State) (d : Door), s.maint.doorTok[d.1] = none ∧ s.maint.failed = false ∧ s.cyc[d.1].state = .service ∧ s.cyc[d.1].restarting = false ∧
      s.tentering d = false ∧ (s.closedRead d = false ∨ s.lockRead d = false)) :=
  ⟨⟨noTok (inService safeInputs id), 0, by decide⟩,
   ⟨noTok (inService ajar id), 0, by decide⟩⟩

theorem met_readWords :
    (∃ (s : State) (m : Msg) (x : Session) (n : Nat), Claim.Taken s m x ∧ n = 0) ∧
    (∃ (s : State) (m : Msg) (x : Session) (n : Nat), Claim.Taken s m x ∧ 256 < n) ∧
    (∃ (s : State) (m : Msg) (x : Session) (addr : BitVec 32), ∃ inst k, Claim.Taken s m x ∧
      counterAt addr = some (inst, k) ∧ addr.getLsbD 0 = false) ∧
    (∃ (s : State) (t : Nat) (m : Msg) (x : Session) (addr : BitVec 32), ∃ w, Claim.Taken s m x ∧
      addr.toNat / 2 ^ 24 = 1 ∧
      (Claim.heard s t m x 0x10).statusWord (addr.toNat / 2 ^ 16 % 256) (addr.toNat % 2 ^ 16) = some w) ∧
    (∃ (s : State) (m : Msg) (x : Session) (addr : BitVec 32), ∃ c : Ch, Claim.Taken s m x ∧
      s.chFitted c = true ∧ addr.toNat = 0x04000000 + (c.1 + 1) * 2 ^ 16) ∧
    (∃ (s : State) (m : Msg) (x : Session) (addr : BitVec 32), Claim.Taken s m x ∧
      addr.toNat / 2 ^ 24 ≠ 1 ∧ addr.toNat / 2 ^ 24 ≠ 4 ∧ counterAt addr = none) :=
  ⟨⟨readable, msg, sess, 0, taken _ (by decide), rfl⟩,
   ⟨readable, msg, sess, 257, taken _ (by decide), by decide⟩,
   ⟨readable, msg, sess, 0x02850000, 0x85, 0, taken _ (by decide), by decide⟩,
   ⟨readable, 5, msg, sess, 0x01010000, 536871051, taken _ (by decide), by decide⟩,
   ⟨readable, msg, sess, 0x04200000, 31, taken _ (by decide), by decide⟩,
   ⟨readable, msg, sess, 0x03010000, taken _ (by decide), by decide⟩⟩

theorem met_otherReads :
    (∃ (s : State) (t : Nat) (m : Msg) (x : Session), ∃ p first ecc, Claim.Taken s m x ∧
      (Claim.heard s t m x 0x12).recordsFrom (Partition.number p) first ecc = []) ∧
    (∃ (s : State) (t : Nat) (m : Msg) (x : Session), ∃ p first limit ecc, ∃ a l, Claim.Taken s m x ∧
      (Claim.heard s t m x 0x12).recordsFrom (Partition.number p) first ecc = a :: l ∧ a.returned.length ≤ min limit 1424 ∧ a.seq ∈ ecc ∧
      ∃ q ∈ s.nv.part (Partition.number p), q.seq = a.seq) ∧
    (∃ (s : State) (t : Nat) (m : Msg) (x : Session), ∃ p first limit ecc, ∃ a l, Claim.Taken s m x ∧
      (Claim.heard s t m x 0x12).recordsFrom (Partition.number p) first ecc = a :: l ∧ min limit 1424 < a.returned.length) ∧
    (∃ (s : State) (m : Msg) (x : Session) (n k : Nat), Claim.Taken s m x ∧ (n = 0 ∨ 64 < n) ∧ 0 < k ∧ k ≤ 64) ∧
    (∃ (s : State) (m : Msg) (x : Session) (k : Fin 128), Claim.Taken s m x ∧ 12 ≤ k.1) ∧
    (∃ (s : State) (m : Msg) (x : Session) (b : BusId) (k : Fin 128), Claim.Taken s m x ∧ k.1 < 12 ∧
      s.bus[b.1].hopper[k.1].new = false) ∧
    (∃ (s : State) (m : Msg) (x : Session) (b : BusId) (k : Fin 128) (h : HopRead), Claim.Taken s m x ∧ k.1 < 12 ∧
      s.bus[b.1].hopper[k.1].new = true ∧ h.whole) ∧
    (∃ (s : State) (m : Msg) (x : Session) (b : BusId) (k : Fin 128) (h : HopRead), Claim.Taken s m x ∧ k.1 < 12 ∧
      s.bus[b.1].hopper[k.1].new = true ∧ ¬ h.whole ∧ h.ecc = .uncorrectable) ∧
    (∃ (s : State) (m : Msg) (x : Session) (b : BusId) (k : Fin 128) (h : HopRead), Claim.Taken s m x ∧ k.1 < 12 ∧
      s.bus[b.1].hopper[k.1].new = true ∧ ¬ h.whole ∧ h.ecc ≠ .uncorrectable) ∧
    (∃ (s : State) (m : Msg) (x : Session) (n k : Nat), Claim.Taken s m x ∧ (n = 0 ∨ 128 < n) ∧ 0 < k ∧ k ≤ 128) ∧
    (∃ (s : State) (m : Msg) (x : Session) (off len : Nat), Claim.Taken s m x ∧ (len = 0 ∨ 1024 < len ∨ 4096 < off + len)) ∧
    (∃ (s : State) (m : Msg) (x : Session) (off len : Nat), Claim.Taken s m x ∧ 0 < len ∧ len ≤ 1024 ∧ off + len ≤ 4096 ∧
      s.maint.plugPresent = false) ∧
    (∃ (s : State) (m : Msg) (x : Session) (off len : Nat), Claim.Taken s m x ∧ 0 < len ∧ len ≤ 1024 ∧ off + len ≤ 4096 ∧
      s.maint.plugPresent = true) :=
  let e : Record := { eventRec 5 1 with seq := 3 }
  let s : State := { readable with nv := { readable.nv with events := [e] } }
  ⟨⟨s, 5, msg, sess, .event, 4, [], taken _ (by decide), by decide⟩,
   ⟨s, 5, msg, sess, .event, 3, 200, [3], { e with bad := true }, [], taken _ (by decide), by decide, by decide, by decide, e, by decide, rfl⟩,
   ⟨s, 5, msg, sess, .event, 3, 10, [3], { e with bad := true }, [], taken _ (by decide), by decide, by decide⟩,
   ⟨readable, msg, sess, 65, 64, taken _ (by decide), by decide⟩,
   ⟨readable, msg, sess, 127, taken _ (by decide), by decide⟩,
   ⟨readable, msg, sess, 0, 0, taken _ (by decide), by decide⟩,
   ⟨readable, msg, sess, 1, 3, {}, taken _ (by decide), by decide, by decide, by decide, by decide⟩,
   ⟨readable, msg, sess, 1, 3, { ecc := .uncorrectable }, taken _ (by decide), by decide, by decide, by unfold HopRead.whole; decide, rfl⟩,
   ⟨readable, msg, sess, 1, 3, { failed := List.replicate 4 .collision }, taken _ (by decide), by decide, by decide,
    by unfold HopRead.whole; decide, by decide⟩,
   ⟨readable, msg, sess, 129, 128, taken _ (by decide), by decide⟩,
   ⟨readable, msg, sess, 4000, 97, taken _ (by decide), by decide⟩,
   ⟨unplugged readable, msg, sess, 200, 1024, taken _ (by decide), by decide⟩,
   ⟨readable, msg, sess, 4095, 1, taken _ (by decide), by decide⟩⟩

theorem met_clearStatus :
    (∃ (s : State) (m : Msg) (x : Session) (w : StatusWord), Claim.Taken s m x ∧ (s.clearWord w 0).isSome = true) ∧
    (∃ (s : State) (m : Msg) (x : Session) (d : Door), Claim.Taken s m x ∧ s.fitted d = false) ∧
    (∃ (s : State) (m : Msg) (x : Session) (d : Door), Claim.Taken s m x ∧ s.half 16 d.1 = false) ∧
    (∃ (s : State) (m : Msg) (x : Session) (mask : BitVec 32) (d : Door), ∃ k : Fin 3, Claim.Taken s m x ∧
      s.half 16 d.1 = true ∧ s.io.ls[(d.ls k).1].latched = true ∧ mask.getLsbD (24 + k.1) = true) ∧
    (∃ (s : State) (m : Msg) (x : Session) (d : Door), ∃ k : Fin 2, Claim.Taken s m x ∧ s.half 16 d.1 = true ∧
      s.io.dout[(d.out k).1].fault = true) ∧
    (∃ (s : State) (m : Msg) (x : Session) (d : Door), ∃ (n : Ls) (k : Dout), Claim.Taken s m x ∧
      s.half 16 d.1 = true ∧ (∀ k : Fin 3, n ≠ d.ls k) ∧ ∀ j : Fin 2, k ≠ d.out j) :=
  let s := ioFaulty (plugged id)
  let small : State := { s with nv := { s.nv with is2216 := false } }
  ⟨⟨s, msg, sess, .doorIo 3, taken _ (by decide), by decide⟩,
   ⟨oneDoor s, msg, sess, 3, taken _ (by decide), by decide⟩,
   ⟨small, msg, sess, 12, taken _ (by decide), by decide⟩,
   ⟨s, msg, sess, 0x05040000, 3, 0, taken _ (by decide), by decide⟩,
   ⟨s, msg, sess, 3, 0, taken _ (by decide), by decide⟩,
   ⟨s, msg, sess, 3, 0, 0, taken _ (by decide), by decide⟩⟩

theorem met_serviceEnterLeave :
    (∃ (s : State) (m : Msg) (x : Session) (d : Door), Claim.MayMove s m x d ∧
      (s.cyc[d.1].state = .closedLocked ∨ s.cyc[d.1].state = .released ∨ s.cyc[d.1].state = .unreferenced) ∧ s.zeroSpeed = true) ∧
    (∃ (s : State) (m : Msg) (x : Session) (d : Door),
      let entry : Prop := s.cyc[d.1].state = .closedLocked ∨ s.cyc[d.1].state = .released ∨ s.cyc[d.1].state = .unreferenced
      Claim.MayMove s m x d ∧ (¬ entry ∨ s.zeroSpeed = false)) ∧
    (∃ (s : State) (d : Door), s.fitted d = true ∧ s.pair.token = true ∧ s.sluice.safe = false ∧ s.cyc[d.1].state ≠ .service) ∧
    (∃ (s : State) (d : Door), s.fitted d = true ∧ s.pair.token = true ∧ s.sluice.safe = false ∧ s.cyc[d.1].state = .service ∧
      s.closedRead d = false) ∧
    (∃ (s : State) (d : Door), s.fitted d = true ∧ s.pair.token = true ∧ s.sluice.safe = false ∧ s.cyc[d.1].state = .service ∧
      s.closedRead d = true ∧ s.plan d.ch false = none) ∧
    (∃ (s : State) (d : Door), ∃ p g, s.fitted d = true ∧ s.pair.token = true ∧ s.sluice.safe = false ∧ s.cyc[d.1].state = .service ∧
      s.closedRead d = true ∧ s.plan d.ch false = some (p, g) ∧ g.start ≤ s.tick + 1) ∧
    (∃ (s : State) (d : Door), ∃ p g, s.fitted d = true ∧ s.pair.token = true ∧ s.sluice.safe = false ∧ s.cyc[d.1].state = .service ∧
      s.closedRead d = true ∧ s.plan d.ch false = some (p, g) ∧ s.tick + 1 < g.start) :=
  let s := tally (inService safeInputs id)
  let poor : State := { s with cfg := { s.cfg with pers := { s.cfg.pers with budgetW := 0 } } }
  let held : State := { s with gov := { hold := true, lastOver := some 8000 } }
  let q := s.plan (Door.ch 0) false
  let h := held.plan (Door.ch 0) false
  ⟨⟨tally (door1 safeInputs .closedLocked), msg, sess, 0, ⟨taken _ (by decide), by decide⟩, by decide⟩,
   ⟨s, msg, sess, 0, ⟨taken _ (by decide), by decide⟩, by decide⟩,
   ⟨tally (door1 safeInputs .opening), 0, by decide⟩,
   ⟨tally (inService ajar id), 0, by decide⟩,
   ⟨poor, 0, by decide, by decide, by decide, by decide, by decide, Option.isNone_iff_eq_none.mp (by decide)⟩,
   ⟨s, 0, (q.get (by decide)).1, (q.get (by decide)).2, by decide, by decide, by decide, by decide, by decide, (Option.some_get _).symm,
    by decide⟩,
   ⟨held, 0, (h.get (by decide)).1, (h.get (by decide)).2, by decide, by decide, by decide, by decide, by decide, (Option.some_get _).symm,
    by decide⟩⟩

theorem met_jogAndBackdrive :
    (∃ (s : State) (m : Msg) (x : Session) (d : Door) (v : Int), Claim.MayMove s m x d ∧ s.cyc[d.1].state = .service ∧
      s.stepFitted d = true ∧ v.natAbs ≤ s.cfg.step[d.1].ctl.jogSpeed ∧ (s.enc[d.step.1].ref = true ∨ v ≤ 0)) ∧
    (∃ (s : State) (m : Msg) (x : Session) (d : Door) (v : Int), Claim.MayMove s m x d ∧ s.cyc[d.1].state = .service ∧
      s.stepFitted d = true ∧ v.natAbs ≤ s.cfg.step[d.1].ctl.jogSpeed ∧ s.enc[d.step.1].ref = false ∧ 0 < v) ∧
    (∃ (s : State) (m : Msg) (x : Session) (d : Door) (v : Int), Claim.MayMove s m x d ∧ s.cyc[d.1].state = .service ∧
      v.natAbs ≤ s.cfg.door[d.1].ctl.jogSpeed ∧ s.hasAngle d = true ∧ 0 < v ∧ s.closedRead d = true ∧ s.lockRead d = true ∧
      s.tripped d = false ∧ s.engineRuns d 4 = true) ∧
    (∃ (s : State) (m : Msg) (x : Session) (d : Door) (v : Int), Claim.MayMove s m x d ∧ s.cyc[d.1].state = .service ∧
      v.natAbs ≤ s.cfg.door[d.1].ctl.jogSpeed ∧ s.hasAngle d = true ∧ 0 < v ∧ s.closedRead d = true ∧ s.lockRead d = true ∧
      (s.tripped d = true ∨ s.engineRuns d 4 = false)) ∧
    (∃ (s : State) (m : Msg) (x : Session) (d : Door) (v : Int), Claim.MayMove s m x d ∧ s.cyc[d.1].state = .service ∧
      v.natAbs ≤ s.cfg.door[d.1].ctl.jogSpeed ∧ s.hasAngle d = true ∧ ¬ (0 < v ∧ s.closedRead d = true ∧ s.lockRead d = true)) ∧
    (∃ (s : State) (m : Msg) (x : Session) (d : Door) (v : Int), Claim.MayMove s m x d ∧ s.cyc[d.1].state = .service ∧
      v.natAbs ≤ s.cfg.door[d.1].ctl.jogSpeed ∧ s.hasAngle d = false ∧ ¬ (0 < v ∧ s.closedRead d = true ∧ s.lockRead d = true)) ∧
    (∃ (s : State) (m : Msg) (x : Session) (d : Door) (v : Int), Claim.MayMove s m x d ∧ s.cyc[d.1].state = .service ∧
      s.cfg.door[d.1].ctl.jogSpeed < v.natAbs) ∧
    (∃ (s : State) (m : Msg) (x : Session) (d : Door), Claim.MayMove s m x d ∧ s.cyc[d.1].state = .service ∧ s.closedRead d = true ∧
      s.lockRead d = true ∧ s.cyc[d.1].backing = false ∧ s.cyc[d.1].backTest = none ∧ s.hasAngle d = true ∧ s.cyc[d.1].proven = true) ∧
    (∃ (s : State) (m : Msg) (x : Session) (d : Door), Claim.MayMove s m x d ∧
      (s.cyc[d.1].state ≠ .service ∨ s.closedRead d = false ∨ s.lockRead d = false)) :=
  let s := tally (withAngle (inService safeInputs fun y => { y with proven := true }))
  let off : State := { s with maint := { s.maint with enginesStopped := Vector.replicate 16 0xFFF } }
  let blind := tally (inService safeInputs id)
  let wide := tally (withAngle (inService ajar fullCycle))
  ⟨⟨s, msg, sess, 0, -5, ⟨taken _ (by decide), by decide⟩, by decide⟩,
   ⟨s, msg, sess, 0, 5, ⟨taken _ (by decide), by decide⟩, by decide⟩,
   ⟨s, msg, sess, 0, 5, ⟨taken _ (by decide), by decide⟩, by decide⟩,
   ⟨off, msg, sess, 0, 5, ⟨taken _ (by decide), by decide⟩, by decide⟩,
   ⟨s, msg, sess, 0, -5, ⟨taken _ (by decide), by decide⟩, by decide⟩,
   ⟨blind, msg, sess, 0, -5, ⟨taken _ (by decide), by decide⟩, by decide⟩,
   ⟨s, msg, sess, 0, 100000, ⟨taken _ (by decide), by decide⟩, by decide⟩,
   ⟨s, msg, sess, 0, ⟨taken _ (by decide), by decide⟩, by decide⟩,
   ⟨wide, msg, sess, 0, ⟨taken _ (by decide), by decide⟩, by decide⟩⟩

theorem met_tenteringRun :
    (∃ (s : State) (m : Msg) (x : Session) (d : Door), Claim.Taken s m x ∧ s.fitted d = true ∧
      s.maint.doorTok[d.1] = some m.session ∧ s.tenterRefusal d = 0 ∧ s.engineRuns d 4 = true) ∧
    (∃ (s : State) (m : Msg) (x : Session) (d : Door), Claim.Taken s m x ∧ s.fitted d = true ∧
      s.maint.doorTok[d.1] = some m.session ∧ s.tenterRefusal d ≠ 0) ∧
    (∃ (s : State) (m : Msg) (x : Session) (d : Door), Claim.Taken s m x ∧ s.fitted d = true ∧
      s.maint.doorTok[d.1] = some m.session ∧ s.cyc[d.1].state ≠ .service) ∧
    (∃ (s : State) (m : Msg) (x : Session) (d : Door), ∃ y, Claim.Taken s m x ∧
      s.fitted d = true ∧ s.maint.doorTok[d.1] = some m.session ∧ s.maint.tenter = some y ∧ y.door = d ∧ y.outcome = none) ∧
    (∃ (s : State) (y : Tenter) (k : Nat), ∃ c, s.maint.tenter = some y ∧ y.step = .done ∧ s.maint.failed = false ∧ y.outcome = some k ∧
      k ≤ 11 ∧ k = 0 ∧ y.learned = some c) ∧
    (∃ (s : State) (y : Tenter) (k : Nat), s.maint.tenter = some y ∧ y.step = .done ∧ s.maint.failed = false ∧ y.outcome = some k ∧
      k ≤ 11 ∧ k ≠ 0) :=
  let s := tally (referenced (inService safeInputs id))
  ⟨⟨s, msg, sess, 0, taken _ (by decide), by decide⟩,
   ⟨tally (referenced (inService ajar id)), msg, sess, 0, taken _ (by decide), by decide⟩,
   ⟨tally (door1 safeInputs .opening), msg, sess, 0, taken _ (by decide), by decide⟩,
   ⟨tenterOn s tenterRun, msg, sess, 0, tenterRun, taken _ (by decide), by decide⟩,
   ⟨tenterOn s tenterDone, tenterDone, 0, {}, by decide⟩,
   ⟨tenterOn s { tenterDone with outcome := some 11 }, { tenterDone with outcome := some 11 }, 11, by decide⟩⟩

theorem met_liveWrite :
    (∃ (s : State) (m : Msg) (x : Session) (c : Ch), Claim.Taken s m x ∧ s.fitted c.door = true ∧
      s.maint.doorTok[c.door.1] = some m.session ∧ s.chFitted c = true ∧ s.chStopped c = true) ∧
    (∃ (s : State) (m : Msg) (x : Session) (c : Ch) (off : Nat) (v : BitVec 32), Claim.Taken s m x ∧
      s.fitted c.door = true ∧ s.maint.doorTok[c.door.1] = some m.session ∧ s.chFitted c = true ∧ s.chStopped c = false ∧
      s.liveValueOk c off v.toNat = false) ∧
    (∃ (s : State) (m : Msg) (x : Session) (c : Ch) (off : Nat) (v : BitVec 32), Claim.Taken s m x ∧
      s.fitted c.door = true ∧ s.maint.doorTok[c.door.1] = some m.session ∧ s.chFitted c = true ∧ s.chStopped c = false ∧
      s.liveValueOk c off v.toNat = true ∧ 8 ≤ s.slot[c.1].pending.length) ∧
    (∃ (s : State) (m : Msg) (x : Session) (c : Ch) (off : Nat) (v : BitVec 32), Claim.Taken s m x ∧
      s.fitted c.door = true ∧ s.maint.doorTok[c.door.1] = some m.session ∧ s.chFitted c = true ∧ s.chStopped c = false ∧
      s.liveValueOk c off v.toNat = true ∧ s.slot[c.1].pending.length < 8 ∧ s.pair.formed = false) ∧
    (∃ (s : State) (m : Msg) (x : Session) (c : Ch) (off : Nat) (v : BitVec 32), Claim.Taken s m x ∧
      s.fitted c.door = true ∧ s.maint.doorTok[c.door.1] = some m.session ∧ s.chFitted c = true ∧ s.chStopped c = false ∧
      s.liveValueOk c off v.toNat = true ∧ s.slot[c.1].pending.length < 8 ∧ s.pair.formed = true ∧ s.pair.token = true ∧
      s.pair.check = none) :=
  ⟨⟨tally (door1 safeInputs .isolated), msg, sess, 0, taken _ (by decide), by decide⟩,
   ⟨tally safeInputs, msg, sess, 0, 1, gainWord, taken _ (by decide), by decide⟩,
   ⟨tally (queueFull safeInputs), msg, sess, 0, 0, gainWord, taken _ (by decide), by decide⟩,
   ⟨tally safeInputs, msg, sess, 0, 0, gainWord, taken _ (by decide), by decide⟩,
   ⟨tally (tokenHolder id), msg, sess, 0, 0, gainWord, taken _ (by decide), by decide⟩⟩

theorem met_injectionAndCapture :
    (∃ (s : State) (m : Msg) (x : Session) (payload : List Byte), Claim.Taken s m x ∧ InjectReq.ofBytes payload = none) ∧
    (∃ s m x payload i, Injects s m x payload i ∧ InjectReq.inRange i = false) ∧
    (∃ s m x payload i, Injects s m x payload i ∧ InjectReq.inRange i = true ∧
      (s.cyc[i.door.1].state ≠ .service ∨ s.closedRead i.door = false ∨ s.lockRead i.door = false ∨
      s.slot[i.door.ch.1].mode ≠ .hold)) ∧
    (∃ s m x payload i, Injects s m x payload i ∧ InjectReq.inRange i = true ∧ s.cyc[i.door.1].state = .service ∧
      s.closedRead i.door = true ∧ s.lockRead i.door = true ∧ s.slot[i.door.ch.1].mode = .hold ∧ s.capture.active = true) ∧
    (∃ s m x payload i, Injects s m x payload i ∧ InjectReq.inRange i = true ∧ s.cyc[i.door.1].state = .service ∧
      s.closedRead i.door = true ∧ s.lockRead i.door = true ∧ s.slot[i.door.ch.1].mode = .hold ∧ s.capture.active = false) ∧
    (∃ (s : State), ∃ i, s.capture.req = some i ∧ s.capture.running = true ∧
      min 8192 (i.lead + i.duration) ≤ s.capture.period) :=
  let s := tally (withAngle (inService safeInputs id))
  let v := tally (withAngle (inService ajar id))
  let c := tally (withAngle (captureOn (inService safeInputs id)))
  ⟨⟨s, msg, sess, [1], taken _ (by decide), by decide⟩,
   ⟨s, msg, sess, injectBytes 2001, injectOf 0 2001 5 5, ⟨taken _ (by decide), by decide⟩, by decide⟩,
   ⟨v, msg, sess, injectBytes 2000, injectOf 0 2000 5 5, ⟨taken _ (by decide), by decide⟩, by decide⟩,
   ⟨c, msg, sess, injectBytes 2000, injectOf 0 2000 5 5, ⟨taken _ (by decide), by decide⟩, by decide⟩,
   ⟨s, msg, sess, injectBytes 2000, injectOf 0 2000 5 5, ⟨taken _ (by decide), by decide⟩, by decide⟩,
   ⟨c, injectOf 0 5 5 5, by decide⟩⟩

theorem met_slotWriteAndVerify :
    (∃ (s : State) (m : Msg) (x : Session) (off : Nat) (data : List Byte), Claim.Taken s m x ∧
      (data = [] ∨ 1024 < data.length ∨ 0xC00000 ≤ off ∨ 0xC00000 < off + data.length)) ∧
    (∃ (s : State) (m : Msg) (x : Session) (off : Nat) (data : List Byte), Claim.Taken s m x ∧
      ¬ (data = [] ∨ 1024 < data.length ∨ 0xC00000 ≤ off ∨ 0xC00000 < off + data.length) ∧ s.plugWritable = false) ∧
    (∃ (s : State) (slotB : Bool) (m : Msg) (x : Session) (off : Nat) (data : List Byte), Claim.Taken s m x ∧
      ¬ (data = [] ∨ 1024 < data.length ∨ 0xC00000 ≤ off ∨ 0xC00000 < off + data.length) ∧ s.plugWritable = true ∧
      s.maint.booted = some slotB) ∧
    (∃ (s : State) (slotB : Bool) (m : Msg) (x : Session) (off : Nat) (data : List Byte), Claim.Taken s m x ∧
      ¬ (data = [] ∨ 1024 < data.length ∨ 0xC00000 ≤ off ∨ 0xC00000 < off + data.length) ∧ s.plugWritable = true ∧
      s.maint.booted ≠ some slotB ∧ s.pair.restartAfter = false ∧ s.plugOk) ∧
    (∃ (s : State) (m : Msg) (x : Session), Claim.Taken s m x ∧ s.maint.plugPresent = true) ∧
    (∃ (s : State) (t : Nat) (slotB : Bool), ∃ a, let q := s.at t
      s.maint.writing[slotB.toNat]? = some (some a) ∧ s.maint.failed = false ∧ a + ms 60000 ≤ q.ns) :=
  ⟨⟨bootedA, msg, sess, 0xBFFFFF, [9, 8], taken _ (by decide), by decide⟩,
   ⟨unplugged bootedA, msg, sess, 0xBFFFFE, [9, 8], taken _ (by decide), by decide⟩,
   ⟨bootedA, false, msg, sess, 0, [9, 8, 7], taken _ (by decide), by decide⟩,
   ⟨bootedA, true, msg, sess, 0x10000, [9, 8, 7], taken _ (by decide), by simp only [State.plugOk]; decide⟩,
   ⟨bootedA, msg, sess, taken _ (by decide), by decide⟩,
   ⟨writingSlots, 100000000000, true, 7, by decide⟩⟩

/-- The clauses of a slot that passes its checks rest on `Config.sha256` and `Config.ed25519`, which have no value: what else they ask is
met with any plug whose inactive slot passes. -/
theorem met_doorwayRestart :
    (∃ (s : State) (d : Door) (m : Msg) (x : Session), ∃ c, Claim.Taken s m x ∧ s.fitted d = true ∧
      s.maint.doorTok[d.1] = some m.session ∧ s.restartRefusal d = some c) ∧
    (∃ (s : State) (d : Door) (m : Msg) (x : Session), Claim.Taken s m x ∧ s.fitted d = true ∧
      s.maint.doorTok[d.1] = some m.session ∧ s.restartRefusal d = none ∧
      ((s.slotView s.inactive).checks15 s.maint.identity).isSome = true) ∧
    (∀ (plug : List Host.Cell) (c : Option Nat), (⟨plug, slotBase true⟩ : SlotView).checks15 restartable.maint.identity = none →
      restartable.sectionCode ⟨plug, slotBase true⟩ 0 true = c →
      ∃ (s : State) (d : Door) (m : Msg) (x : Session), Claim.Taken s m x ∧ s.fitted d = true ∧
        s.maint.doorTok[d.1] = some m.session ∧ s.restartRefusal d = none ∧ (s.slotView s.inactive).checks15 s.maint.identity = none ∧
        s.sectionCode (s.slotView s.inactive) d true = c) ∧
    (∃ (s : State) (d : Door), s.maint.restart = some d ∧ s.maint.failed = false ∧ s.cyc[d.1].restarting = true ∧ s.inputsValid d = true ∧
      s.enc[d.ch.1].ref = false ∧ s.closedRead d = true ∧ s.lockRead d = true ∧ s.enc[d.ch.1].lineBad = false ∧
      s.enc[d.ch.1].supplyBad = false ∧ s.maint.doorTok[d.1].isSome = true) ∧
    (∃ (s : State) (d : Door), s.maint.restart = some d ∧ s.maint.failed = false ∧ s.cyc[d.1].restarting = true ∧ s.inputsValid d = true ∧
      s.enc[d.ch.1].ref = false ∧ (s.closedRead d = false ∨ s.lockRead d = false ∨ s.enc[d.ch.1].lineBad = true ∨
      s.enc[d.ch.1].supplyBad = true)) :=
  ⟨⟨plugged id, 0, msg, sess, 0x66, taken _ (by decide), by decide⟩,
   ⟨restartable, 0, msg, sess, taken _ (by decide), by decide⟩,
   fun plug _ ok code => ⟨withPlug restartable plug, 0, msg, sess, taken restartable (by decide), (by decide : restartable.fitted 0 = true),
    (by decide : restartable.maint.doorTok[0] = some 1), (by decide : restartable.restartRefusal 0 = none), ok, code⟩,
   ⟨plugFor restartOn (restarting id), 0, by decide⟩,
   ⟨{ (plugFor restartOn (restarting id)) with io := ajar.io }, 0, by decide⟩⟩

/-- The clauses of a slot that is verified rest on `Config.sha256` and `Config.ed25519`, which have no value: what else they ask is met with
any plug whose inactive slot passes. -/
theorem met_imageSwitch :
    (∃ (s : State) (m : Msg) (x : Session), Claim.Taken s m x ∧ s.maint.moduleTok ≠ some m.session) ∧
    (∃ (s : State) (m : Msg) (x : Session), ∃ c, Claim.Taken s m x ∧ s.maint.moduleTok = some m.session ∧ s.switchRefusal = some c) ∧
    (∃ (s : State) (m : Msg) (x : Session), Claim.Taken s m x ∧ s.maint.moduleTok = some m.session ∧ s.switchRefusal = none ∧
      ((s.slotView s.inactive).verify s.nv.is2216 s.maint.identity).isSome = true) ∧
    (∀ plug : List Host.Cell,
      ((⟨plug, slotBase true⟩ : SlotView).verify handoverReady.nv.is2216 handoverReady.maint.identity).isSome = false →
      ∃ (s : State) (m : Msg) (x : Session), Claim.Taken s m x ∧ s.maint.moduleTok = some m.session ∧ s.switchRefusal = none ∧
        ((s.slotView s.inactive).verify s.nv.is2216 s.maint.identity).isSome = false ∧ s.pair.formed = true ∧ s.pair.token = true ∧
        s.pair.backLink = true) ∧
    (∀ plug : List Host.Cell,
      ((⟨plug, slotBase true⟩ : SlotView).verify switchable.nv.is2216 switchable.maint.identity).isSome = false →
      ∃ (s : State) (m : Msg) (x : Session), Claim.Taken s m x ∧ s.maint.moduleTok = some m.session ∧ s.switchRefusal = none ∧
        ((s.slotView s.inactive).verify s.nv.is2216 s.maint.identity).isSome = false ∧
        ¬ (s.pair.formed = true ∧ s.pair.token = true ∧ s.pair.backLink = true)) :=
  ⟨⟨tokensOf none, msg, sess, taken _ (by decide), by decide⟩,
   ⟨tally (plugWith id), msg, sess, 0x66, taken _ (by decide), by decide⟩,
   ⟨switchable, msg, sess, taken _ (by decide), by decide⟩,
   fun plug ok => ⟨withPlug handoverReady plug, msg, sess, taken handoverReady (by decide),
    (by decide : handoverReady.maint.moduleTok = some 1), (by decide : handoverReady.switchRefusal = none), ok,
    (by decide : handoverReady.pair.formed = true ∧ handoverReady.pair.token = true ∧ handoverReady.pair.backLink = true)⟩,
   fun plug ok => ⟨withPlug switchable plug, msg, sess, taken switchable (by decide),
    (by decide : switchable.maint.moduleTok = some 1), (by decide : switchable.switchRefusal = none), ok,
    (by decide : ¬ (switchable.pair.formed = true ∧ switchable.pair.token = true ∧ switchable.pair.backLink = true))⟩⟩

theorem met_moduleTests :
    (∃ (s : State) (m : Msg) (x : Session) (us : Nat), Claim.Taken s m x ∧ 1000000 ≤ us) ∧
    (∃ (s : State) (t : Nat) (m : Msg) (x : Session) (us : Nat), Claim.Taken s m x ∧ us < 1000000 ∧
      (Claim.heard s t m x 0x47).bestSrc ≠ .holdover) ∧
    (∃ (s : State) (t : Nat) (m : Msg) (x : Session) (us : Nat), Claim.Taken s m x ∧ us < 1000000 ∧
      (Claim.heard s t m x 0x47).bestSrc = .holdover) ∧
    (∃ (s : State) (m : Msg) (x : Session), Claim.Taken s m x ∧ s.maint.moduleTok ≠ some m.session) ∧
    (∃ (s : State) (m : Msg) (x : Session), Claim.Taken s m x ∧ s.maint.moduleTok = some m.session ∧ s.pair.token = false) ∧
    (∃ (s : State) (m : Msg) (x : Session), Claim.Taken s m x ∧ s.maint.moduleTok = some m.session ∧ s.pair.token = true ∧
      s.anyDoorTok = true) ∧
    (∃ (s : State) (m : Msg) (x : Session), Claim.Taken s m x ∧ s.maint.moduleTok = some m.session ∧ s.pair.token = true ∧
      s.anyDoorTok = false ∧ s.handoverRefused = true) ∧
    (∃ (s : State) (m : Msg) (x : Session), Claim.Taken s m x ∧ s.maint.moduleTok = some m.session ∧ s.pair.token = true ∧
      s.anyDoorTok = false ∧ s.handoverRefused = false) ∧
    (∃ (s : State) (m : Msg) (x : Session), Claim.Taken s m x ∧ s.maint.moduleTok = some m.session ∧ s.book.pond ≠ .available) ∧
    (∃ (s : State) (m : Msg) (x : Session), Claim.Taken s m x ∧ s.maint.moduleTok = some m.session ∧ s.book.pond = .available ∧
      s.book.testEnd.isSome = true) ∧
    (∃ (s : State) (m : Msg) (x : Session), Claim.Taken s m x ∧ s.maint.moduleTok = some m.session ∧ s.book.pond = .available ∧
      s.book.testEnd = none) :=
  let timed : State := { switchable with
    cfg := { switchable.cfg with bus := { switchable.cfg.bus with useA := true } }
    cal := { (timeIn 500 none id).cal with refs := #v[{ pairAt := some 1000000000 }, {}] }
    bus := (timeIn 500 none id).bus }
  ⟨⟨switchable, msg, sess, 1000000, taken _ (by decide), by decide⟩,
   ⟨timed, 5, msg, sess, 999999, taken _ (by decide), by decide⟩,
   ⟨switchable, 5, msg, sess, 999999, taken _ (by decide), by decide⟩,
   ⟨tokensOf none, msg, sess, taken _ (by decide), by decide⟩,
   ⟨noDoorTok (standbyCold id), msg, sess, taken _ (by decide), by decide⟩,
   ⟨plugged id, msg, sess, taken _ (by decide), by decide⟩,
   ⟨switchable, msg, sess, taken _ (by decide), by decide⟩,
   ⟨handoverOk, msg, sess, taken _ (by decide), by decide⟩,
   ⟨switchable, msg, sess, taken _ (by decide), by decide⟩,
   ⟨pondAvailable (fun b => { b with testEnd := some 9 }), msg, sess, taken _ (by decide), by decide⟩,
   ⟨pondAvailable id, msg, sess, taken _ (by decide), by decide⟩⟩

/-- The clauses of a signed copy rest on `Config.sha256` and `Config.ed25519`, which have no value: what else they ask is met with any copy
that passes. -/
theorem met_keyArea :
    (∃ (s : State) (m : Msg) (x : Session), Claim.Taken s m x ∧ s.maint.moduleTok ≠ some m.session) ∧
    (∃ (s : State) (m : Msg) (x : Session) (off : Nat) (data : List Byte), Claim.Taken s m x ∧ s.maint.moduleTok = some m.session ∧
      s.depot = true ∧ s.plugWritable = true ∧ off % 1024 = 0 ∧ off < 4096 ∧ data.length = 1024) ∧
    (∃ (s : State) (m : Msg) (x : Session) (off : Nat) (data : List Byte), Claim.Taken s m x ∧ s.maint.moduleTok = some m.session ∧
      s.depot = true ∧ s.plugWritable = true ∧ (off % 1024 ≠ 0 ∨ 4096 ≤ off ∨ data.length ≠ 1024)) ∧
    (∃ (s : State) (m : Msg) (x : Session), ∃ (key : CommitKey) (sig : List Byte) (c : Nat), Claim.Taken s m x ∧
      s.commitRefusal m x.copy key.bytes sig = some c) ∧
    (∀ (l : List Byte) (key : CommitKey) (sig : List Byte), (depotWith id).commitRefusal msg (some l) key.bytes sig = none →
      l.length = 4096 →
      ∃ (s : State) (m : Msg) (x : Session), Claim.Taken s m x ∧ s.commitRefusal m x.copy key.bytes sig = none ∧ x.copy = some l ∧
        s.plugOk) ∧
    (∃ (s : State) (t : Nat), ∃ id x, let q := s.at t
      s.session id = some x ∧ s.maint.failed = false ∧ x.stagedAt + ms 60000 ≤ q.ns) :=
  ⟨⟨tokensOf none, msg, sess, taken _ (by decide), by decide⟩,
   ⟨depotWith id, msg, sess, 0, List.replicate 1024 (7 : Byte), taken _ (by decide), by decide⟩,
   ⟨depotWith id, msg, sess, 0, [2], taken _ (by decide), by decide⟩,
   ⟨depotWith id, msg, sess, { bytes := List.replicate 31 (7 : Byte) }, List.replicate 64 (7 : Byte), 1, taken _ (by decide), by decide⟩,
   fun l key sig ok _ =>
    let x : Session := { sess with staged := [(0, l.take 1024), (1, (l.drop 1024).take 1024), (2, (l.drop 2048).take 1024), (3, l.drop 3072)] }
    have copy : x.copy = some l := by
      show some (l.take 1024 ++ (l.drop 1024).take 1024 ++ (l.drop 2048).take 1024 ++ l.drop 3072) = some l
      rw [← List.take_add, ← List.take_add, List.take_append_drop]
    ⟨{ depotWith id with maint := { (depotWith id).maint with sessions := [x] } }, msg, x, rested x rfl rfl,
     copy ▸ ok, copy, (by unfold State.plugOk; decide : (depotWith id).plugOk)⟩,
   ⟨depotWith id, 5000000000000, 1, sess, by decide⟩⟩

theorem met_portAndParity :
    (∃ (s : State), 3 ≤ s.maint.step ∧ s.maint.failed = false) ∧
    (∃ (s : State), s.maint.step < 3) ∧
    (∃ (s : State), ∃ (d : Door) (role : Fin 12), s.fitted d = true ∧ s.maint.enginesStopped[d.1].getLsbD role.1 = false ∧
      (role = 2 ∨ role = 3)) ∧
    (∃ (s : State), ∃ (d : Door) (role : Fin 12), s.fitted d = true ∧ s.maint.enginesStopped[d.1].getLsbD role.1 = false ∧
      role ≠ 2 ∧ role ≠ 3 ∧ s.cyc[d.1].state ≠ .isolated ∧ s.cyc[d.1].state ≠ .faultHeld) :=
  ⟨⟨depotWith id, by decide⟩,
   ⟨depotWith (fun m => { m with step := 2 }), by decide⟩,
   ⟨depotWith id, 0, 2, by decide⟩,
   ⟨depotWith id, 0, 11, by decide⟩⟩

end Sys2Proof.Tests
end

section
/-!
Proofs of statements about encoder channels, references and the compare engine (02_stroke_and_position).
-/
namespace Sys2Proof.Machine

/-! ## Encoder fault (R36) -/

/-- What an encoder fault asks of the door cycle leaves the encoder of every channel as it was, save the note of an ISOLATED doorway (R179). -/
theorem State.faultItem_enc (s : State) (c k : Ch) :
    ∃ v, (s.faultItem c).enc[k.1] = { s.enc[k.1] with faultIsolated := v } := by
  unfold State.faultItem
  split
  · exact ⟨_, rfl⟩
  · split
    case h_5 => -- ISOLATED
      by_cases h : k = c
      · subst h
        exact ⟨true, State.modEnc_enc_same ..⟩
      · exact ⟨_, State.modEnc_enc_other _ _ _ _ h⟩
    all_goals exact ⟨_, rfl⟩

@[simp] theorem State.faultItem_encFlt (s : State) (c k : Ch) : (s.faultItem c).enc[k.1].encFlt = s.enc[k.1].encFlt := by
  obtain ⟨v, hv⟩ := s.faultItem_enc c k
  rw [hv]

@[simp] theorem State.faultItem_count (s : State) (c k : Ch) : (s.faultItem c).enc[k.1].count = s.enc[k.1].count := by
  obtain ⟨v, hv⟩ := s.faultItem_enc c k
  rw [hv]

/-- The channel is in encoder fault afterwards, whether it was before or not. -/
@[simp] theorem State.encoderFault_encFlt (s : State) (c : Ch) (cause : Nat) :
    (s.encoderFault c cause).enc[c.1].encFlt = true := by
  unfold State.encoderFault
  split
  case isTrue already => exact already
  case isFalse => simp

/-- Entering encoder fault leaves the counter of the channel as it was. -/
@[simp] theorem State.encoderFault_count (s : State) (c : Ch) (cause : Nat) :
    (s.encoderFault c cause).enc[c.1].count = s.enc[c.1].count := by
  unfold State.encoderFault
  split
  case isTrue => rfl
  case isFalse => simp

/-- A condition of R30 to R32 is no count. -/
@[simp] theorem State.encCondition_count (s : State) (c : Ch) : (s.encCondition c).enc[c.1].count = s.enc[c.1].count := by
  simp [State.encCondition]

/-! ## Illegal transitions (R31) -/

@[simp] theorem State.at_chFitted (s : State) (t : Nat) (c : Ch) : (s.at t).chFitted c = s.chFitted c := rfl
@[simp] theorem State.at_encRuns (s : State) (t : Nat) (c : Ch) : (s.at t).encRuns c = s.encRuns c := rfl

theorem exec_encoderEdge (t : Nat) (c : Ch) (a b : Bool) (s : State) : exec (.encoderEdge t c a b) s = execEncoderEdge t c a b s :=
  rfl

/-- Two phases apart is both lines changed. -/
theorem phaseStep_eq_two_iff (a b a' b' : Bool) : phaseStep a b a' b' = 2 ↔ a' ≠ a ∧ b' ≠ b := by
  revert a b a' b'
  decide

/-- R31: what a running ENC engine does with a sample in which both lines have changed. -/
theorem exec_encoderEdge_illegal {s : State} {c : Ch} {a b : Bool} (t : Nat) (fitted : s.chFitted c = true) (runs : s.encRuns c = true)
    (both : phaseStep s.enc[c.1].a s.enc[c.1].b a b = 2) :
    exec (.encoderEdge t c a b) s =
      .next (((((s.at t).modEnc c fun e => { e with a := a, b := b, illegal := true }).bump (c.1 + 1) 1).encCondition c).encoderFault c 2) := by
  rw [exec_encoderEdge]
  simp [execEncoderEdge, fitted, runs, both]

/-- Settles O15: both lines changed is a phase step of 2, which only marks the channel and puts it in encoder fault. -/
theorem illegalTransition : Obligations.IllegalTransition := by
  intro s t c a b fitted runs ha hb
  have both : phaseStep s.enc[c.1].a s.enc[c.1].b a b = 2 := (phaseStep_eq_two_iff ..).mpr ⟨ha, hb⟩
  exact ⟨_, exec_encoderEdge_illegal t fitted runs both, by simp, by simp⟩

end Sys2Proof.Machine
end

section
/-!
Proofs of statements about the door cycle (06_door_cycle).
-/
namespace Sys2Proof.Machine

/-! ## Door channels and the moment of a command -/

@[simp] theorem Door.ch_isStep (d : Door) : d.ch.isStep = false := decide_eq_false (Nat.not_le.mpr d.2)

@[simp] theorem Door.ch_door (d : Door) : d.ch.door = d := Fin.ext (Nat.mod_eq_of_lt d.2)

@[simp] theorem State.at_decides (s : State) (t : Nat) : (s.at t).decides = s.decides := rfl

/-! ## A doorway's motion

What the door cycle says of a leaf's motion and its time, apart from the cycle record, the solenoid and the wish for a step, which the
shared door operations change beside it. -/

/-- The fields of `Cyc` that R167 and R168 speak of. -/
structure Motion where
  state : DoorState
  partly : Bool
  closeCmd : Bool
  startTick : Option Nat
  closeDl : Option Nat

/-- The motion of a doorway's cycle. -/
def Cyc.motion (y : Cyc) : Motion :=
  { state := y.state, partly := y.partly, closeCmd := y.closeCmd, startTick := y.startTick, closeDl := y.closeDl }

theorem Cyc.motion_state (y : Cyc) : y.motion.state = y.state := rfl
theorem Cyc.motion_partly (y : Cyc) : y.motion.partly = y.partly := rfl
theorem Cyc.motion_closeCmd (y : Cyc) : y.motion.closeCmd = y.closeCmd := rfl
theorem Cyc.motion_startTick (y : Cyc) : y.motion.startTick = y.startTick := rfl
theorem Cyc.motion_closeDl (y : Cyc) : y.motion.closeDl = y.closeDl := rfl

/-! ## Cycle record -/

@[simp] theorem State.modRec_motion (s : State) (d : Door) (f : CycleRec → CycleRec) :
    (s.modRec d f).cyc[d.1].motion = s.cyc[d.1].motion := by
  simp [State.modRec, Cyc.motion]

theorem State.modRec_cyc_other (s : State) (d k : Door) (f : CycleRec → CycleRec) (h : k ≠ d) :
    (s.modRec d f).cyc[k.1] = s.cyc[k.1] := State.modCyc_cyc_other _ _ _ _ h

@[simp] theorem State.modRec_book (s : State) (d : Door) (f : CycleRec → CycleRec) : (s.modRec d f).book = s.book := rfl

/-! ## Requests and reservations -/

@[simp] theorem State.releaseGov_cyc (s : State) (c : Ch) : (s.releaseGov c).cyc = s.cyc := rfl
@[simp] theorem State.releaseGov_slot (s : State) (c : Ch) : (s.releaseGov c).slot = s.slot := rfl
@[simp] theorem State.releaseGov_book (s : State) (c : Ch) : (s.releaseGov c).book = s.book := rfl

@[simp] theorem State.holdAt_cyc (s : State) (d : Door) (n : Int) : (s.holdAt d n).cyc = s.cyc := rfl
@[simp] theorem State.holdAt_book (s : State) (d : Door) (n : Int) : (s.holdAt d n).book = s.book := rfl

@[simp] theorem State.request_req (s : State) (c : Ch) (m : Mode) (n : Int) : (s.request c m n).slot[c.1].req = some (m, n) := by
  simp [State.request]

@[simp] theorem State.holdAt_req (s : State) (d : Door) (n : Int) : (s.holdAt d n).slot[d.ch.1].req = some (.hold, n) :=
  s.request_req d.ch .hold n

/-! ## Entry to a state -/

/-- Two changes of one doorway's cycle are one. -/
theorem State.modCyc_modCyc (s : State) (d : Door) (f g : Cyc → Cyc) :
    (s.modCyc d f).modCyc d g = s.modCyc d fun y => g (f y) := by
  simp [State.modCyc]

/-- Entry to a state changes the doorway's cycle only. -/
theorem State.goto_shape (s : State) (d : Door) (st : DoorState) : ∃ f, s.goto d st = s.modCyc d f := by
  unfold State.goto
  dsimp only
  split
  case isTrue => exact ⟨_, State.modCyc_modCyc ..⟩
  case isFalse => exact ⟨_, rfl⟩

theorem State.goto_motion (s : State) (d : Door) (st : DoorState) : (s.goto d st).cyc[d.1].motion =
    { state := st, partly := false, startTick := none, closeDl := none
      closeCmd := s.cyc[d.1].closeCmd && !(st == .closedLocked || st == .closedUnlocked || st == .faultHeld || st == .isolated) } := by
  unfold State.goto
  dsimp only
  split <;> simp [State.modRec, Cyc.motion]

@[simp] theorem State.goto_state (s : State) (d : Door) (st : DoorState) : (s.goto d st).cyc[d.1].state = st := by
  rw [← Cyc.motion_state, State.goto_motion]

theorem State.goto_cyc_other (s : State) (d k : Door) (st : DoorState) (h : k ≠ d) : (s.goto d st).cyc[k.1] = s.cyc[k.1] := by
  obtain ⟨f, hf⟩ := s.goto_shape d st
  rw [hf, State.modCyc_cyc_other _ _ _ _ h]

@[simp] theorem State.goto_book (s : State) (d : Door) (st : DoorState) : (s.goto d st).book = s.book := by
  obtain ⟨f, hf⟩ := s.goto_shape d st
  rw [hf, State.modCyc_book]

/-! ## The lock solenoid (R156) -/

/-- The hold duty is a change of the doorway's solenoid and a command of its load switch. -/
theorem State.holdSol_shape (s : State) (d : Door) :
    ∃ v on duty, s.holdSol d = (s.modCyc d fun y => { y with sol := v }).commandLs (s.lockLs d) on duty := by
  unfold State.holdSol State.solOff
  split <;> exact ⟨_, _, _, rfl⟩

@[simp] theorem State.holdSol_motion (s : State) (d : Door) : (s.holdSol d).cyc[d.1].motion = s.cyc[d.1].motion := by
  obtain ⟨v, on, duty, h⟩ := s.holdSol_shape d
  simp [h, Cyc.motion]

theorem State.holdSol_cyc_other (s : State) (d k : Door) (h : k ≠ d) : (s.holdSol d).cyc[k.1] = s.cyc[k.1] := by
  obtain ⟨v, on, duty, hs⟩ := s.holdSol_shape d
  simp [hs, State.modCyc_cyc_other _ _ _ _ h]

@[simp] theorem State.holdSol_book (s : State) (d : Door) : (s.holdSol d).book = s.book := by
  obtain ⟨v, on, duty, h⟩ := s.holdSol_shape d
  simp [h]

/-! ## The wish for a step (R76) -/

/-- A wish for a step start is noted in the doorway's cycle, or nothing changes. -/
theorem State.wantStep_eq (s : State) (d : Door) (extend : Bool) :
    s.wantStep d extend = s ∨ s.wantStep d extend = s.modCyc d fun y => { y with stepWant := some extend } := by
  unfold State.wantStep
  split
  case isTrue => exact .inr rfl
  case isFalse => exact .inl rfl

@[simp] theorem State.wantStep_motion (s : State) (d : Door) (extend : Bool) :
    (s.wantStep d extend).cyc[d.1].motion = s.cyc[d.1].motion := by
  rcases s.wantStep_eq d extend with h | h <;> simp [h, Cyc.motion]

theorem State.wantStep_cyc_other (s : State) (d k : Door) (extend : Bool) (h : k ≠ d) :
    (s.wantStep d extend).cyc[k.1] = s.cyc[k.1] := by
  rcases s.wantStep_eq d extend with hs | hs <;> simp [hs, State.modCyc_cyc_other _ _ _ _ h]

@[simp] theorem State.wantStep_slot (s : State) (d : Door) (extend : Bool) : (s.wantStep d extend).slot = s.slot := by
  rcases s.wantStep_eq d extend with h | h <;> simp [h]

@[simp] theorem State.wantStep_book (s : State) (d : Door) (extend : Bool) : (s.wantStep d extend).book = s.book := by
  rcases s.wantStep_eq d extend with h | h <;> simp [h]

/-! ## A travel of a leaf -/

@[simp] theorem State.beginTravel_req (s : State) (c : Ch) (opening : Bool) (f : Nat) :
    (s.beginTravel c opening f).slot[c.1].req = some (if opening then .travelOpen else .travelClose, 0) := by
  simp [State.beginTravel]

@[simp] theorem State.beginTravel_motion (s : State) (d : Door) (opening : Bool) (f : Nat) :
    (s.beginTravel d.ch opening f).cyc[d.1].motion = s.cyc[d.1].motion := by
  simp [State.beginTravel]

/-! ## The closing motion (R167) -/

/-- The start of the closing motion ends the wait for its tick. -/
theorem State.startClosing_motion (s : State) (d : Door) :
    (s.startClosing d).cyc[d.1].motion = { s.cyc[d.1].motion with startTick := none } := by
  unfold State.startClosing
  dsimp only
  split <;> (simp; rfl)

@[simp] theorem State.startClosing_req (s : State) (d : Door) : (s.startClosing d).slot[d.ch.1].req = some (.travelClose, 0) := by
  unfold State.startClosing
  dsimp only
  split <;> simp

@[simp] theorem State.startClosing_state (s : State) (d : Door) : (s.startClosing d).cyc[d.1].state = s.cyc[d.1].state := by
  rw [← Cyc.motion_state, State.startClosing_motion, Cyc.motion_state]

@[simp] theorem State.startClosing_closeDl (s : State) (d : Door) : (s.startClosing d).cyc[d.1].closeDl = s.cyc[d.1].closeDl := by
  rw [← Cyc.motion_closeDl, State.startClosing_motion, Cyc.motion_closeDl]

@[simp] theorem State.startClosing_startTick (s : State) (d : Door) : (s.startClosing d).cyc[d.1].startTick = none := by
  rw [← Cyc.motion_startTick, State.startClosing_motion]

/-- A granted closing motion, whether it starts at once or waits, is CLOSING with its time from the granted tick. -/
theorem State.enterClosing_state_closeDl (s : State) (d : Door) (x : Reservation) :
    (s.enterClosing d x).cyc[d.1].state = .closing ∧
      (s.enterClosing d x).cyc[d.1].closeDl = some (x.start * 125000 + ms (s.cycCfg d).closeTimeoutMs) := by
  unfold State.enterClosing
  dsimp only
  split <;> simp [State.cycCfg, State.modRec]

/-! ## OPEN (R166, R168) -/

/-- OPEN neither gives a close command nor takes one. -/
theorem State.toOpen_motion (s : State) (d : Door) (part : Bool) : (s.toOpen d part).cyc[d.1].motion =
    { state := .open, partly := part, closeCmd := s.cyc[d.1].closeCmd, startTick := none, closeDl := none } := by
  have entered : ((s.goto d .open).modCyc d fun y => { y with partly := part }).cyc[d.1].motion =
      { (s.goto d .open).cyc[d.1].motion with partly := part } := by
    rw [State.modCyc_cyc_same]; rfl
  unfold State.toOpen
  dsimp only
  split <;> simp [entered, State.goto_motion, -State.modCyc_cyc_same]

@[simp] theorem State.toOpen_partly_req (s : State) (d : Door) : (s.toOpen d true).slot[d.ch.1].req = some (.hold, 0) := by
  simp [State.toOpen]

@[simp] theorem State.toOpen_book (s : State) (d : Door) (part : Bool) : (s.toOpen d part).book = s.book := by
  unfold State.toOpen
  dsimp only
  split <;> simp

theorem State.toOpen_cyc_other (s : State) (d k : Door) (part : Bool) (h : k ≠ d) : (s.toOpen d part).cyc[k.1] = s.cyc[k.1] := by
  have entered : ((s.goto d .open).modCyc d fun y => { y with partly := part }).cyc[k.1] = s.cyc[k.1] := by
    rw [State.modCyc_cyc_other _ _ _ _ h, s.goto_cyc_other d k .open h]
  unfold State.toOpen
  dsimp only
  split <;> simp [State.modRec_cyc_other _ _ _ _ h, State.holdSol_cyc_other _ _ _ h, entered]

/-- OPEN is reached as `State.toOpen` says, and a step may be asked for beside it (R189). -/
theorem State.openReached_eq (s : State) (d : Door) (part : Bool) :
    s.openReached d part = s.toOpen d part ∨ s.openReached d part = (s.toOpen d part).wantStep d true := by
  unfold State.openReached
  dsimp only
  split
  case isTrue => exact .inl rfl
  case isFalse => exact .inr rfl

theorem State.openReached_motion (s : State) (d : Door) (part : Bool) : (s.openReached d part).cyc[d.1].motion =
    { state := .open, partly := part, closeCmd := s.cyc[d.1].closeCmd, startTick := none, closeDl := none } := by
  rcases s.openReached_eq d part with h | h <;> simp [h, State.toOpen_motion]

@[simp] theorem State.openReached_state (s : State) (d : Door) (part : Bool) : (s.openReached d part).cyc[d.1].state = .open := by
  rw [← Cyc.motion_state, State.openReached_motion]

@[simp] theorem State.openReached_partly (s : State) (d : Door) (part : Bool) : (s.openReached d part).cyc[d.1].partly = part := by
  rw [← Cyc.motion_partly, State.openReached_motion]

@[simp] theorem State.openReached_closeCmd (s : State) (d : Door) (part : Bool) :
    (s.openReached d part).cyc[d.1].closeCmd = s.cyc[d.1].closeCmd := by
  rw [← Cyc.motion_closeCmd, State.openReached_motion]

theorem State.openReached_partly_req (s : State) (d : Door) : (s.openReached d true).slot[d.ch.1].req = some (.hold, 0) := by
  rcases s.openReached_eq d true with h | h <;> simp [h]

@[simp] theorem State.openReached_book (s : State) (d : Door) (part : Bool) : (s.openReached d part).book = s.book := by
  rcases s.openReached_eq d part with h | h <;> simp [h]

theorem State.openReached_cyc_other (s : State) (d k : Door) (part : Bool) (h : k ≠ d) :
    (s.openReached d part).cyc[k.1] = s.cyc[k.1] := by
  rcases s.openReached_eq d part with he | he <;> simp [he, State.wantStep_cyc_other _ _ _ _ h, State.toOpen_cyc_other _ _ _ _ h]

/-! ## The close command ends -/

@[simp] theorem State.closeLost_closeCmd (s : State) (d : Door) : (s.closeLost d).cyc[d.1].closeCmd = false := by
  simp [State.closeLost]

theorem State.closeLost_cyc_other (s : State) (d k : Door) (h : k ≠ d) : (s.closeLost d).cyc[k.1] = s.cyc[k.1] :=
  State.modCyc_cyc_other _ _ _ _ h

@[simp] theorem State.closeLost_book (s : State) (d : Door) : (s.closeLost d).book = s.book := rfl

/-! ## The commands of the closing motion -/

/-- R167: the start tick of a closing leaf that need not come to rest first starts its motion. -/
theorem exec_governorStartTick_closing {s : State} {d : Door} {a : Nat} (t : Nat) (decides : s.decides = true)
    (closing : s.cyc[d.1].state = .closing) (granted : s.cyc[d.1].startTick = some a) (reached : a ≤ (s.at t).tick + 1)
    (atRest : s.cyc[d.1].restFirst = false) :
    exec (.governorStartTick t d.ch) s = .next (((s.at t).modCyc d fun y => { y with startTick := none }).startClosing d) := by
  show execGovernorStartTick t d.ch s = _
  simp [execGovernorStartTick, decides, closing, granted, reached, atRest]

/-- R168: the end of the closing time of a doorway that is still CLOSING. -/
theorem exec_closeTimeout_due {s : State} {d : Door} {a : Nat} (t : Nat) (decides : s.decides = true)
    (deadline : s.cyc[d.1].closeDl = some a) (passed : a ≤ (s.at t).ns) (closing : s.cyc[d.1].state = .closing) :
    exec (.closeTimeout t d) s =
      .next ((((s.at t).doorEvent d 7 4 1 s.enc[d.ch.1].strokeWord 0 0).closeLost d).openReached d true) := by
  show execCloseTimeout t d s = _
  have expired : due s.cyc[d.1].closeDl (s.at t).ns = true := by
    rw [deadline]
    exact decide_eq_true passed
  simp [execCloseTimeout, decides, closing, expired, -State.at_ns]

/-- Settles O26: the time runs from the granted tick, the tick starts the motion and leaves the time, and at its end the event, the loss of
the close command and the entry to OPEN follow one another. -/
theorem closeTimeout : Obligations.CloseTimeout := by
  intro s t d a r
  refine ⟨s.enterClosing_state_closeDl d, fun decides closing granted reached atRest => ?_, fun decides deadline passed closing => ?_⟩
  · refine ⟨_, exec_governorStartTick_closing t decides closing granted reached atRest, ?_⟩
    simp [closing]
  · refine ⟨_, exec_closeTimeout_due t decides deadline passed closing, State.openReached_state .., State.openReached_partly .., ?_,
      State.openReached_partly_req .., State.openReached_book .., fun k other => ?_⟩
    · simp
    · simp [State.openReached_cyc_other _ _ _ _ other, State.closeLost_cyc_other _ _ _ other]

end Sys2Proof.Machine
end

section

/-! Proofs of statements about field inputs and outputs (08_field_io): what releases the latch of a load
switch (R256). Almost every command keeps the latches of all 48 switches as they are: one frame lemma says so of each step of
the model, and the few commands that reach the latches, or that may restart the module, are looked at one by one. -/

namespace Sys2Proof.Machine

/-! ## The latches of the load switches, and what the shared operations do to them -/

/-- The latches of the load switches. -/
def FieldIo.latches (x : FieldIo) : Vector Bool 48 := x.ls.map LsSt.latched

/-- The latches after a command that completes. -/
def outLatches : Out → Option (Vector Bool 48)
  | .next u => some u.io.latches
  | _ => none

section
variable (s : State)

@[simp] theorem FieldIo.getElem_latches (x : FieldIo) (i : Nat) (h : i < 48) : x.latches[i] = x.ls[i].latched := by
  simp [FieldIo.latches]

@[simp] theorem FieldIo.map_latched (x : FieldIo) : x.ls.map LsSt.latched = x.latches := rfl

@[simp] theorem FieldIo.latches_mk (fi tl st sq lo sl dout vdo vs ls sup ovl wb wd ind ps) :
    (FieldIo.mk fi tl st sq lo sl dout vdo vs ls sup ovl wb wd ind ps).latches = ls.map LsSt.latched := rfl

@[simp] theorem LsSt.settle_latched (x : LsSt) (t : Nat) : (x.settle t).latched = x.latched := rfl

theorem State.safeLs_latched (n : Ls) (x : LsSt) : (s.safeLs n x).latched = x.latched := by
  unfold State.safeLs
  split
  · rfl
  · split <;> rfl

@[simp] theorem outLatches_next : outLatches (.next s) = some s.io.latches := rfl

/-! The next three take the decision procedure from the goal: `simp` may have rewritten the condition under it. -/

@[simp] theorem ite_latches (c : Prop) {_ : Decidable c} (a b : State) :
    (if c then a else b).io.latches = if c then a.io.latches else b.io.latches := by split <;> rfl

@[simp] theorem ite_fst_latches {β : Type} (c : Prop) {_ : Decidable c} (a b : State × β) :
    (if c then a else b).1.io.latches = if c then a.1.io.latches else b.1.io.latches := by split <;> rfl

@[simp] theorem ite_outLatches (c : Prop) {_ : Decidable c} (a b : Out) :
    outLatches (if c then a else b) = if c then outLatches a else outLatches b := by split <;> rfl

@[simp] theorem foldl_latches {α : Type} (l : List α) (f : State → α → State)
    (h : ∀ s a, (f s a).io.latches = s.io.latches) : (l.foldl f s).io.latches = s.io.latches :=
  foldl_keep (fun s => s.io.latches) f l h s

@[simp] theorem State.eachDoor_latches (f : State → Door → State) (h : ∀ s a, (f s a).io.latches = s.io.latches) :
    (s.eachDoor f).io.latches = s.io.latches :=
  foldl_latches s _ f h

@[simp] theorem State.eachCh_latches (f : State → Ch → State) (h : ∀ s a, (f s a).io.latches = s.io.latches) :
    (s.eachCh f).io.latches = s.io.latches :=
  foldl_latches s _ f h

@[simp] theorem State.modDout_latches (n : Dout) (f : DoutSt → DoutSt) : (s.modDout n f).io.latches = s.io.latches := rfl

@[simp] theorem State.modFi_latches (n : Fi) (f : InSt → InSt) : (s.modFi n f).io.latches = s.io.latches := rfl

theorem State.modLs_latches_other {n i : Ls} {f : LsSt → LsSt} (h : n ≠ i) :
    (s.modLs n f).io.latches[i.1] = s.io.latches[i.1] := by
  have : n.1 ≠ i.1 := fun e => h (Fin.ext e)
  simp [State.modLs, this]

@[simp] theorem State.modLs_latches (n : Ls) (f : LsSt → LsSt) (h : ∀ x, (f x).latched = x.latched) :
    (s.modLs n f).io.latches = s.io.latches := by
  ext i hi
  by_cases hn : n.1 = i
  · subst hn
    simp [State.modLs, h]
  · exact s.modLs_latches_other (i := ⟨i, hi⟩) fun e => hn (congrArg Fin.val e)

theorem State.modLs_latches_set (n : Ls) (f : LsSt → LsSt) (h : ∀ x, (f x).latched = true) :
    (s.modLs n f).io.latches = s.io.latches.set n.1 true := by
  ext i hi
  by_cases hn : n.1 = i <;> simp [State.modLs, h, hn]

/-! ## What each step of the model does to the latches, in the order of the model -/

/-! ### Outputs, drive token and Sluice -/

@[simp] theorem State.driveLs_latches (n : Ls) : (s.driveLs n).io.latches = s.io.latches := by simp [State.driveLs]

@[simp] theorem State.commandLs_latches (n : Ls) (v : Bool) (duty : Nat) : (s.commandLs n v duty).io.latches = s.io.latches := by
  simp [State.commandLs]

@[simp] theorem State.driveDo_latches (n : Dout) : (s.driveDo n).io.latches = s.io.latches := by simp [State.driveDo]
@[simp] theorem State.driveAll_latches : s.driveAll.io.latches = s.io.latches := by simp [State.driveAll]

@[simp] theorem State.followWindow_latches (d : Door) (leg : Fin 3) : (s.followWindow d leg).io.latches = s.io.latches := by
  simp only [State.followWindow]
  split <;> simp

@[simp] theorem State.dropToken_latches : s.dropToken.io.latches = s.io.latches := State.eachDoor_latches _ _ fun _ _ => rfl

@[simp] theorem State.releaseToken_latches : s.releaseToken.io.latches = s.io.latches := by
  unfold State.releaseToken
  dsimp only
  split
  · simp
  · refine (foldl_latches _ _ _ ?_).trans ((foldl_latches _ _ _ ?_).trans s.dropToken_latches)
    · exact fun s n => s.modLs_latches n _ fun _ => rfl
    · exact fun _ _ => rfl

@[simp] theorem State.tryRelease_latches : s.tryRelease.io.latches = s.io.latches := by simp [State.tryRelease]

@[simp] theorem State.sluiceAct_latches : s.sluiceAct.io.latches = s.io.latches := by
  unfold State.sluiceAct
  split
  · rfl
  · extract_lets s1 _ s2 s3 _ _ s4
    have h1 : s1.io.latches = s.io.latches :=
      State.eachDoor_latches _ _ fun s d => by simp
    have h2 : s2.io.latches = s.io.latches := by
      rw [← h1]
      ext i hi
      simp [s2, State.safeLs_latched]
    simp [s4, s3, h2]

/-! ### Tally requests -/

theorem State.replyThen_latches (m : Msg) (f : State → State) : (s.replyThen m f).io.latches = (f s).io.latches := rfl

/-- What holds of every state with the same latches, and of what the body makes of one, holds after a Tally command. -/
theorem State.tally_induct {s : State} {P : State → Prop} {code : Nat} {m : Msg} {l : TallyLevel}
    {body : State → Session → State} (hk : ∀ u, u.io.latches = s.io.latches → P u)
    (hb : ∀ u x, u.io.latches = s.io.latches → P (body u x)) : P (s.tally code m l body) := by
  unfold State.tally
  split
  · exact hk _ (by simp)
  · split
    · exact hk _ (by simp)
    · split
      · exact hk _ (by simp)
      · dsimp only
        split
        · exact hb _ _ (by simp)
        · split <;> exact hk _ (by simp)

@[simp] theorem State.tally_latches (code : Nat) (m : Msg) (l : TallyLevel) (body : State → Session → State)
    (h : ∀ s x, (body s x).io.latches = s.io.latches) : (s.tally code m l body).io.latches = s.io.latches :=
  State.tally_induct (P := fun u => u.io.latches = s.io.latches) (fun _ hu => hu) fun u x hu => (h u x).trans hu

theorem next_tally_latches {s : State} {code : Nat} {m : Msg} {l : TallyLevel} {body : State → Session → State}
    (h : ∀ s x, (body s x).io.latches = s.io.latches) : outLatches (.next (s.tally code m l body)) = some s.io.latches :=
  congrArg some (s.tally_latches code m l body h)

@[simp] theorem State.tallyDoor_latches (code : Nat) (m : Msg) (d : Door) (body : State → State)
    (h : ∀ s, (body s).io.latches = s.io.latches) : (s.tallyDoor code m d body).io.latches = s.io.latches := by
  simp [State.tallyDoor, h]

theorem next_tallyDoor_latches {s : State} {code : Nat} {m : Msg} {d : Door} {body : State → State}
    (h : ∀ s, (body s).io.latches = s.io.latches) : outLatches (.next (s.tallyDoor code m d body)) = some s.io.latches :=
  congrArg some (s.tallyDoor_latches code m d body h)

/-! ### Encoders and compare engines -/

@[simp] theorem State.encCondition_latches (c : Ch) : (s.encCondition c).io.latches = s.io.latches := by simp [State.encCondition]

@[simp] theorem State.faultItem_latches (c : Ch) : (s.faultItem c).io.latches = s.io.latches := by
  simp only [State.faultItem]
  split
  · rfl
  · split <;> simp

@[simp] theorem State.encoderFault_latches (c : Ch) (cause : Nat) : (s.encoderFault c cause).io.latches = s.io.latches := by
  simp [State.encoderFault]

@[simp] theorem State.declareMove_latches (c : Ch) (opening : Bool) : (s.declareMove c opening).io.latches = s.io.latches := by
  simp [State.declareMove]

@[simp] theorem State.trackDirection_latches (c : Ch) : (s.trackDirection c).io.latches = s.io.latches := by simp [State.trackDirection]

@[simp] theorem State.indexMismatch_latches (c : Ch) (n : Nat) : (s.indexMismatch c n).io.latches = s.io.latches := by
  simp [State.indexMismatch]

@[simp] theorem State.checkInterval_latches (c : Ch) : (s.checkInterval c).io.latches = s.io.latches := by
  simp only [State.checkInterval]
  split <;> simp

@[simp] theorem State.takeIndex_latches (c : Ch) : (s.takeIndex c).io.latches = s.io.latches := by simp [State.takeIndex]
@[simp] theorem State.checkMissing_latches (c : Ch) : (s.checkMissing c).io.latches = s.io.latches := by simp [State.checkMissing]

@[simp] theorem State.cmpAction_latches (d : Door) (x : CmpEntry) (silent : Bool) : (s.cmpAction d x silent).io.latches = s.io.latches := by
  simp only [State.cmpAction]
  split <;> simp

@[simp] theorem State.cmpEntryStep_latches (d : Door) (old new : Int) (opening : Bool) (k : Fin 32) :
    (State.cmpEntryStep d old new opening s k).io.latches = s.io.latches := by
  simp [State.cmpEntryStep]

@[simp] theorem State.cmpStep_latches (d : Door) (old new : Int) : (s.cmpStep d old new).io.latches = s.io.latches := by
  simp only [State.cmpStep]
  split
  · rfl
  · split <;> simp

@[simp] theorem State.armCmp_latches (d : Door) (opening : Bool) : (s.armCmp d opening).io.latches = s.io.latches := by simp [State.armCmp]
@[simp] theorem State.disarmCmp_latches (d : Door) : (s.disarmCmp d).io.latches = s.io.latches := by simp [State.disarmCmp]

@[simp] theorem State.checkSpacing_latches (c : Ch) (prev : Option Nat) : (s.checkSpacing c prev).io.latches = s.io.latches := by
  simp only [State.checkSpacing]
  split <;> simp

@[simp] theorem State.countEdge_latches (c : Ch) (a b up : Bool) : (s.countEdge c a b up).io.latches = s.io.latches := by
  simp [State.countEdge]

@[simp] theorem execEncoderEdge_latches (t : Nat) (c : Ch) (a b : Bool) : outLatches (execEncoderEdge t c a b s) = some s.io.latches := by
  simp only [execEncoderEdge]
  split
  · simp
  · split <;> simp

@[simp] theorem execIndexPulse_latches (t : Nat) (c : Ch) (z : Bool) : outLatches (execIndexPulse t c z s) = some s.io.latches := by
  simp [execIndexPulse]

@[simp] theorem execEncoderLineFault_latches (t : Nat) (c : Ch) (present : Bool) :
    outLatches (execEncoderLineFault t c present s) = some s.io.latches := by
  simp [execEncoderLineFault]

@[simp] theorem execEncoderSupplyFault_latches (t : Nat) (c : Ch) (present : Bool) :
    outLatches (execEncoderSupplyFault t c present s) = some s.io.latches := by
  simp [execEncoderSupplyFault]

@[simp] theorem execEncoderFaultClear_latches (t : Nat) (c : Ch) : outLatches (execEncoderFaultClear t c s) = some s.io.latches := by
  simp [execEncoderFaultClear]

@[simp] theorem State.latchCh_latches (c : Ch) : (s.latchCh c).io.latches = s.io.latches := by simp [State.latchCh]
@[simp] theorem State.takeReference_latches (c : Ch) : (s.takeReference c).io.latches = s.io.latches := by simp [State.takeReference]
@[simp] theorem State.standStillCheck_latches (c : Ch) : (s.standStillCheck c).io.latches = s.io.latches := by simp [State.standStillCheck]

/-! ### Governor and doorway states -/

@[simp] theorem State.releaseGov_latches (c : Ch) : (s.releaseGov c).io.latches = s.io.latches := by simp [State.releaseGov]

/-- `grantFrom` is put behind a variable: the kernel would evaluate it to compare the plan with its unfolding. -/
theorem State.plan_latches {s : State} {c : Ch} {o : Bool} {p : State × Reservation} (h : s.plan c o = some p) :
    p.1.io.latches = s.io.latches := by
  obtain ⟨plan, hp⟩ : ∃ f, f = State.plan := ⟨_, rfl⟩
  obtain ⟨grant, hg⟩ : ∃ f, f = State.grantFrom := ⟨_, rfl⟩
  rw [← hp] at h
  delta State.plan at hp
  rw [← hg] at hp
  subst hp
  dsimp only at h
  split at h
  · cases h
  · rw [← congrArg Prod.fst (Option.some.inj h)]
    simp

@[simp] theorem State.reserveReverse_latches (d : Door) (target : Nat) : (s.reserveReverse d target).io.latches = s.io.latches := by
  simp [State.reserveReverse]

@[simp] theorem State.extendReverse_latches (d : Door) : (s.extendReverse d).io.latches = s.io.latches := by simp [State.extendReverse]

@[simp] theorem State.reserveRunning_latches (c : Ch) (opening : Bool) (start f : Nat) :
    (s.reserveRunning c opening start f).io.latches = s.io.latches := by
  simp [State.reserveRunning]

@[simp] theorem execGovernorReservationStage_latches (t : Nat) : outLatches (execGovernorReservationStage t s) = some s.io.latches := by
  simp [execGovernorReservationStage]

@[simp] theorem execGovernorBudgetOverrun_latches (t w : Nat) : outLatches (execGovernorBudgetOverrun t w s) = some s.io.latches := by
  simp [execGovernorBudgetOverrun]

@[simp] theorem execGovernorHoldEnd_latches (t : Nat) : outLatches (execGovernorHoldEnd t s) = some s.io.latches := by
  simp only [execGovernorHoldEnd]
  split <;> simp

@[simp] theorem State.measureDemand_latches (w : Nat) : (s.measureDemand w).io.latches = s.io.latches := by simp [State.measureDemand]
@[simp] theorem State.solOff_latches (d : Door) : (s.solOff d).io.latches = s.io.latches := by simp [State.solOff]
@[simp] theorem State.pull_latches (d : Door) : (s.pull d).io.latches = s.io.latches := by simp [State.pull]
@[simp] theorem State.holdSol_latches (d : Door) : (s.holdSol d).io.latches = s.io.latches := by simp [State.holdSol]

@[simp] theorem State.traceTrigger_latches (d : Door) (b : Fin 7) (code severity : Nat) :
    (s.traceTrigger d b code severity).io.latches = s.io.latches := by
  simp only [State.traceTrigger]
  split <;> simp

@[simp] theorem State.tracedEvent_latches (d : Door) (bitNo : Fin 7) (index severity cause : Nat) (a b c : BitVec 32) :
    (s.tracedEvent d bitNo index severity cause a b c).io.latches = s.io.latches := by
  simp [State.tracedEvent]

@[simp] theorem State.modRec_latches (d : Door) (f : CycleRec → CycleRec) : (s.modRec d f).io.latches = s.io.latches := by
  simp [State.modRec]

@[simp] theorem State.writeCycle_latches (d : Door) (c : CycleRec) : (s.writeCycle d c).io.latches = s.io.latches := by
  simp [State.writeCycle]

@[simp] theorem State.endCycle_latches (d : Door) (outcome : Nat) : (s.endCycle d outcome).io.latches = s.io.latches := by
  simp only [State.endCycle]
  split
  · rfl
  · split <;> simp

@[simp] theorem State.writeEnding_latches (d : Door) (loopok : Bool) : (s.writeEnding d loopok).io.latches = s.io.latches := by
  simp only [State.writeEnding]
  split <;> simp

@[simp] theorem State.beginCycle_latches (d : Door) (refcls : Bool) : (s.beginCycle d refcls).io.latches = s.io.latches := by
  simp [State.beginCycle]

@[simp] theorem State.goto_latches (d : Door) (st : DoorState) : (s.goto d st).io.latches = s.io.latches := by simp [State.goto]
@[simp] theorem State.endRefClose_latches (d : Door) : (s.endRefClose d).io.latches = s.io.latches := by simp [State.endRefClose]
@[simp] theorem State.holdAt_latches (d : Door) (n : Int) : (s.holdAt d n).io.latches = s.io.latches := by simp [State.holdAt]
@[simp] theorem State.preload_latches (d : Door) : (s.preload d).io.latches = s.io.latches := by simp [State.preload]
@[simp] theorem State.toUnreferenced_latches (d : Door) : (s.toUnreferenced d).io.latches = s.io.latches := by simp [State.toUnreferenced]
@[simp] theorem State.stopStep_latches (d : Door) : (s.stopStep d).io.latches = s.io.latches := by simp [State.stopStep]

@[simp] theorem State.faultHeld_latches (d : Door) (cause : Nat) : (s.faultHeld d cause).io.latches = s.io.latches := by
  simp [State.faultHeld]

@[simp] theorem State.toOpen_latches (d : Door) (part : Bool) : (s.toOpen d part).io.latches = s.io.latches := by simp [State.toOpen]
@[simp] theorem State.brokenRun_latches (d : Door) : (s.brokenRun d).io.latches = s.io.latches := by simp [State.brokenRun]
@[simp] theorem State.endRun_latches (d : Door) : (s.endRun d).io.latches = s.io.latches := by simp [State.endRun]

@[simp] theorem State.learningEnds_latches (d : Door) (ok : Bool) : (s.learningEnds d ok).io.latches = s.io.latches := by
  simp [State.learningEnds]

@[simp] theorem State.beginTravel_latches (c : Ch) (opening : Bool) (f : Nat) : (s.beginTravel c opening f).io.latches = s.io.latches := by
  simp [State.beginTravel]

@[simp] theorem State.stepGranted_latches (d : Door) (extend : Bool) (x : Reservation) :
    (s.stepGranted d extend x).io.latches = s.io.latches := by
  simp [State.stepGranted]

@[simp] theorem State.wantStep_latches (d : Door) (extend : Bool) : (s.wantStep d extend).io.latches = s.io.latches := by
  simp [State.wantStep]

@[simp] theorem State.stepFault_latches (d : Door) (cause : Nat) : (s.stepFault d cause).io.latches = s.io.latches := by
  simp [State.stepFault]

@[simp] theorem State.noteStep_latches (d : Door) (f : Nat → CycleRec → CycleRec) : (s.noteStep d f).io.latches = s.io.latches := by
  simp [State.noteStep]

@[simp] theorem State.stepExtended_latches (d : Door) : (s.stepExtended d).io.latches = s.io.latches := by simp [State.stepExtended]
@[simp] theorem State.stepRetracted_latches (d : Door) : (s.stepRetracted d).io.latches = s.io.latches := by simp [State.stepRetracted]
@[simp] theorem State.stepRetractEnd_latches (d : Door) : (s.stepRetractEnd d).io.latches = s.io.latches := by simp [State.stepRetractEnd]
@[simp] theorem State.stepUnread_latches (d : Door) : (s.stepUnread d).io.latches = s.io.latches := by simp [State.stepUnread]

@[simp] theorem State.stepTick_latches (d : Door) : (s.stepTick d).io.latches = s.io.latches := by
  simp only [State.stepTick]
  split
  · simp
  · split <;> simp

@[simp] theorem State.stepEnded_latches (d : Door) : (s.stepEnded d).io.latches = s.io.latches := by
  simp only [State.stepEnded]
  split <;> simp

@[simp] theorem execStepStall_latches (t : Nat) (d : Door) : outLatches (execStepStall t d s) = some s.io.latches := by
  simp only [execStepStall]
  split
  · simp
  · split <;> simp

@[simp] theorem execStepStallRetry_latches (t : Nat) (d : Door) : outLatches (execStepStallRetry t d s) = some s.io.latches := by
  simp [execStepStallRetry]

@[simp] theorem execStepExtendTimeout_latches (t : Nat) (d : Door) : outLatches (execStepExtendTimeout t d s) = some s.io.latches := by
  simp [execStepExtendTimeout]

@[simp] theorem execStepRetractTimeout_latches (t : Nat) (d : Door) : outLatches (execStepRetractTimeout t d s) = some s.io.latches := by
  simp [execStepRetractTimeout]

/-! ### Opening, closing, reversing and isolating -/

@[simp] theorem State.openReached_latches (d : Door) (part : Bool) : (s.openReached d part).io.latches = s.io.latches := by
  simp [State.openReached]

@[simp] theorem State.startOpening_latches (d : Door) : (s.startOpening d).io.latches = s.io.latches := by simp [State.startOpening]
@[simp] theorem State.tryOpening_latches (d : Door) : (s.tryOpening d).io.latches = s.io.latches := by simp [State.tryOpening]

@[simp] theorem State.enterUnlocking_latches (d : Door) (x : Reservation) : (s.enterUnlocking d x).io.latches = s.io.latches := by
  simp [State.enterUnlocking]

@[simp] theorem State.enterOpening_latches (d : Door) (x : Reservation) : (s.enterOpening d x).io.latches = s.io.latches := by
  simp [State.enterOpening]

@[simp] theorem State.startClosing_latches (d : Door) : (s.startClosing d).io.latches = s.io.latches := by simp [State.startClosing]

@[simp] theorem State.enterClosing_latches (d : Door) (x : Reservation) : (s.enterClosing d x).io.latches = s.io.latches := by
  simp [State.enterClosing]

@[simp] theorem State.awaitRetract_latches (d : Door) : (s.awaitRetract d).io.latches = s.io.latches := by simp [State.awaitRetract]
@[simp] theorem State.closeLost_latches (d : Door) : (s.closeLost d).io.latches = s.io.latches := by simp [State.closeLost]
@[simp] theorem State.newAttempts_latches (d : Door) : (s.newAttempts d).io.latches = s.io.latches := by simp [State.newAttempts]
@[simp] theorem State.lockTravel_latches (d : Door) : (s.lockTravel d).io.latches = s.io.latches := by simp [State.lockTravel]
@[simp] theorem State.lockOff_latches (d : Door) : (s.lockOff d).io.latches = s.io.latches := by simp [State.lockOff]
@[simp] theorem State.lockStill_latches (d : Door) : (s.lockStill d).io.latches = s.io.latches := by simp [State.lockStill]
@[simp] theorem State.lockRetry_latches (d : Door) : (s.lockRetry d).io.latches = s.io.latches := by simp [State.lockRetry]
@[simp] theorem State.notLocked_latches (d : Door) : (s.notLocked d).io.latches = s.io.latches := by simp [State.notLocked]

@[simp] theorem State.attemptFailed_latches (d : Door) (cause : Nat) : (s.attemptFailed d cause).io.latches = s.io.latches := by
  simp [State.attemptFailed]

@[simp] theorem State.startProof_latches (d : Door) : (s.startProof d).io.latches = s.io.latches := by simp [State.startProof]
@[simp] theorem State.enterProving_latches (d : Door) : (s.enterProving d).io.latches = s.io.latches := by simp [State.enterProving]
@[simp] theorem State.proveAnew_latches (d : Door) : (s.proveAnew d).io.latches = s.io.latches := by simp [State.proveAnew]

@[simp] theorem State.enterClosedLocked_latches (d : Door) : (s.enterClosedLocked d).io.latches = s.io.latches := by
  simp only [State.enterClosedLocked]
  split <;> simp

@[simp] theorem State.judgeProof_latches (d : Door) (back : Nat) : (s.judgeProof d back).io.latches = s.io.latches := by
  simp [State.judgeProof]

@[simp] theorem State.edgeReversal_latches (d : Door) : (s.edgeReversal d).io.latches = s.io.latches := by simp [State.edgeReversal]
@[simp] theorem State.countReversal_latches (d : Door) : (s.countReversal d).io.latches = s.io.latches := by simp [State.countReversal]

@[simp] theorem State.enterReversing_latches (d : Door) (openWanted : Bool) :
    (s.enterReversing d openWanted).io.latches = s.io.latches := by
  simp [State.enterReversing]

@[simp] theorem State.enterReopenHold_latches (d : Door) : (s.enterReopenHold d).io.latches = s.io.latches := by
  simp [State.enterReopenHold]

@[simp] theorem State.loseDoorToken_latches (d : Door) : (s.loseDoorToken d).io.latches = s.io.latches := by simp [State.loseDoorToken]
@[simp] theorem State.isolate_latches (d : Door) : (s.isolate d).io.latches = s.io.latches := by simp [State.isolate]
@[simp] theorem State.isolatedTick_latches (d : Door) : (s.isolatedTick d).io.latches = s.io.latches := by simp [State.isolatedTick]
@[simp] theorem State.handle_latches (d : Door) : (s.handle d).io.latches = s.io.latches := by simp [State.handle]
@[simp] theorem State.lockLost_latches (d : Door) : (s.lockLost d).io.latches = s.io.latches := by simp [State.lockLost]
@[simp] theorem State.leaveFault_latches (d : Door) : (s.leaveFault d).io.latches = s.io.latches := by simp [State.leaveFault]

/-! ### The tick of a doorway, decisions on commands and the timers -/

@[simp] theorem State.earlyItems_latches (d : Door) : (s.earlyItems d).io.latches = s.io.latches := by simp [State.earlyItems]
@[simp] theorem State.coldItem_latches (d : Door) : (s.coldItem d).io.latches = s.io.latches := by simp [State.coldItem]

@[simp] theorem State.backTestEnds_latches (d : Door) (ok : Bool) : (s.backTestEnds d ok).io.latches = s.io.latches := by
  simp [State.backTestEnds]

@[simp] theorem State.serviceBroken_latches (d : Door) : (s.serviceBroken d).io.latches = s.io.latches := by simp [State.serviceBroken]

@[simp] theorem State.motionBroken_latches (d : Door) : (s.motionBroken d).io.latches = s.io.latches := by
  simp only [State.motionBroken]
  split
  · simp
  · split <;> simp

@[simp] theorem State.reportItems_latches (d : Door) : (s.reportItems d).io.latches = s.io.latches := by
  simp only [State.reportItems]
  split
  · simp
  · split <;> simp

@[simp] theorem State.cmpItems_latches (d : Door) : (s.cmpItems d).io.latches = s.io.latches := by simp [State.cmpItems]

@[simp] theorem State.lockingTick_latches (d : Door) : (s.lockingTick d).io.latches = s.io.latches := by
  simp only [State.lockingTick]
  repeat' split
  all_goals simp

@[simp] theorem State.provingTick_latches (d : Door) : (s.provingTick d).io.latches = s.io.latches := by simp [State.provingTick]

@[simp] theorem State.awaitedStep_latches (d : Door) : (s.awaitedStep d).io.latches = s.io.latches := by
  simp only [State.awaitedStep]
  split <;> simp

@[simp] theorem State.refCloseTick_latches (d : Door) : (s.refCloseTick d).io.latches = s.io.latches := by
  simp only [State.refCloseTick]
  split
  · rfl
  · split
    · simp
    · split <;> simp

@[simp] theorem State.serviceTick_latches (d : Door) : (s.serviceTick d).io.latches = s.io.latches := by
  simp only [State.serviceTick]
  repeat' split
  all_goals simp

@[simp] theorem State.phaseItems_latches (d : Door) : (s.phaseItems d).io.latches = s.io.latches := by
  simp only [State.phaseItems]
  split <;> simp

@[simp] theorem State.addCmd_latches (c : DoorCmd) : (s.addCmd c).io.latches = s.io.latches := by simp [State.addCmd]
@[simp] theorem State.loopItem_latches (d : Door) : (s.loopItem d).io.latches = s.io.latches := by simp [State.loopItem]

@[simp] theorem State.releaseItem_latches (d : Door) : (s.releaseItem d).io.latches = s.io.latches := by
  simp only [State.releaseItem]
  split
  · simp
  · split <;> simp

@[simp] theorem State.requestAgain_latches (d : Door) : (s.requestAgain d).io.latches = s.io.latches := by
  simp only [State.requestAgain]
  repeat' split
  all_goals simp

@[simp] theorem State.energiseAgain_latches (d : Door) : (s.energiseAgain d).io.latches = s.io.latches := by simp [State.energiseAgain]
@[simp] theorem State.doorTick_latches (d : Door) : (s.doorTick d).io.latches = s.io.latches := by simp [State.doorTick]

@[simp] theorem State.closeAccepted_latches (d : Door) (src : CmdSrc) : (s.closeAccepted d src).io.latches = s.io.latches := by
  simp [State.closeAccepted]

@[simp] theorem State.startRefClose_latches (d : Door) (x : Reservation) : (s.startRefClose d x).io.latches = s.io.latches := by
  simp [State.startRefClose]

theorem State.retractWith_latches {s u : State} {d : Door} (h : s.retractWith d = some u) : u.io.latches = s.io.latches := by
  unfold State.retractWith at h
  extract_lets st at h
  split at h
  · cases h
  · split at h
    · split at h <;> cases h
      next h => simp [State.plan_latches h]
    · cases h
      rfl

@[simp] theorem State.acceptClose_latches (d : Door) (src : CmdSrc) : (s.acceptClose d src).1.io.latches = s.io.latches := by
  unfold State.acceptClose
  extract_lets st first
  have hr : ∀ u, (if first then s.retractWith d else some s) = some u → u.io.latches = s.io.latches := by
    intro u h
    split at h
    · exact State.retractWith_latches h
    · cases h
      rfl
  clear_value first
  split
  · rfl
  next u h =>
    have hu := hr u h
    have hp : ∀ p, u.plan d.ch false = some p → p.1.io.latches = s.io.latches := fun p h =>
      (State.plan_latches h).trans hu
    split
    · simp [hu]
    · split
      · simp [hu]
      · split
        · split
          · simp [hu]
          · cases h : u.plan d.ch false with
            | none => exact hu
            | some p => simp [hp p h]
        · split
          · simp [hu]
          · cases h : u.plan d.ch false with
            | none => exact hu
            | some p => simp [hp p h]

@[simp] theorem State.acceptOpen_latches (d : Door) (src : CmdSrc) : (s.acceptOpen d src).1.io.latches = s.io.latches := by
  unfold State.acceptOpen
  split
  · simp
  · split
    · rfl
    next u x h =>
      have hu := State.plan_latches h
      split <;> simp [hu]

@[simp] theorem State.refuse_latches (d : Door) (src : CmdSrc) (code : Nat) : (s.refuse d src code).io.latches = s.io.latches := by
  simp only [State.refuse]
  split <;> simp

@[simp] theorem State.decideClose_latches (d : Door) (src : CmdSrc) (l : Bool) : (s.decideClose d src l).1.io.latches = s.io.latches := by
  simp only [State.decideClose]
  split <;> simp

@[simp] theorem State.decideOpen_latches (d : Door) (src : CmdSrc) : (s.decideOpen d src).1.io.latches = s.io.latches := by
  simp only [State.decideOpen]
  split <;> simp

@[simp] theorem State.resetStep_latches (d : Door) : (s.resetStep d).io.latches = s.io.latches := by simp [State.resetStep]

@[simp] theorem State.decideReset_latches (d : Door) (v : Bool) : (s.decideReset d v).1.io.latches = s.io.latches := by
  simp only [State.decideReset]
  split
  · simp
  · split <;> simp

@[simp] theorem State.clearMasks_latches (d : Door) : (s.clearMasks d).io.latches = s.io.latches := by simp [State.clearMasks]

@[simp] theorem State.fillAnswer_latches (d : Door) (v : Verdict) : (s.fillAnswer d v).io.latches = s.io.latches := by
  simp only [State.fillAnswer]
  split <;> simp

@[simp] theorem State.dropObject_latches (b : BusId) (k : Fin 128) : (s.dropObject b k).io.latches = s.io.latches := by
  simp [State.dropObject]

@[simp] theorem State.vacate_latches (b : BusId) (k : Fin 128) : (s.vacate b k).io.latches = s.io.latches := by simp [State.vacate]

@[simp] theorem State.loadObject_latches (b : BusId) (k : Fin 128) (id : Nat) (fd brs : Bool) (data : List Byte) (dl : Option Nat) :
    (s.loadObject b k id fd brs data dl).io.latches = s.io.latches := by
  simp [State.loadObject]

@[simp] theorem State.loadFrame_latches (mask : BitVec 2) (fd brs : Bool) (k : Fin 128) (id : Nat) (data : List Byte) (dl : Option Nat) :
    (s.loadFrame mask fd brs k id data dl).io.latches = s.io.latches := by
  simp [State.loadFrame]

@[simp] theorem State.replaceMsg_latches (k : Fin 128) : (s.replaceMsg k).io.latches = s.io.latches := by simp [State.replaceMsg]

@[simp] theorem State.sendFrame_latches (g : Nat × Nat) (id : Nat) (data : List Byte) (dl : Option Nat) :
    (s.sendFrame g id data dl).io.latches = s.io.latches := by
  simp [State.sendFrame]

@[simp] theorem State.finishAnswer_latches : s.finishAnswer.io.latches = s.io.latches := by
  simp only [State.finishAnswer]
  split <;> simp

@[simp] theorem State.decideLeave_latches (d : Door) : (s.decideLeave d).1.io.latches = s.io.latches := by
  unfold State.decideLeave
  split
  · rfl
  · split
    · simp
    · cases h : s.plan d.ch false with
      | none => rfl
      | some p => simp [State.plan_latches h]

@[simp] theorem State.judge_latches (c : DoorCmd) : (s.judge c).1.io.latches = s.io.latches := by
  simp only [State.judge]
  split
  · simp
  · split <;> simp

@[simp] theorem State.decideCmd_latches (c : DoorCmd) : (s.decideCmd c).io.latches = s.io.latches := by
  simp only [State.decideCmd]
  split
  · simp
  · split <;> simp

@[simp] theorem State.planAgain_latches (d : Door) : (s.planAgain d).io.latches = s.io.latches := by
  simp only [State.planAgain]
  split
  · rfl
  · split
    case h_1 =>
      split
      · simp
      · split
        next h => simp [State.plan_latches h]
        next => simp
    case h_4 => simp
    all_goals
      split
      · simp
      · split
        next h => simp [State.plan_latches h]
        next => simp

@[simp] theorem State.stepStart_latches (d : Door) : (s.stepStart d).io.latches = s.io.latches := by
  simp only [State.stepStart]
  split
  · rfl
  · split
    · simp
    · split
      next h => simp [State.plan_latches h]
      next => simp

@[simp] theorem State.decideList_latches (l : List DoorCmd) : (s.decideList l).1.io.latches = s.io.latches := by
  induction l generalizing s with
  | nil => rfl
  | cons c r ih =>
    unfold State.decideList
    simp [ih]

@[simp] theorem State.decideDoor_latches (l : List DoorCmd) (d : Door) : (s.decideDoor l d).io.latches = s.io.latches := by
  simp [State.decideDoor]

@[simp] theorem State.decideStep_latches (l : List DoorCmd) (d : Door) : (s.decideStep l d).io.latches = s.io.latches := by
  simp [State.decideStep]

@[simp] theorem State.turnAway_latches : s.turnAway.io.latches = s.io.latches := by
  refine foldl_latches _ _ _ fun s c => ?_
  split <;> rfl

@[simp] theorem State.decideTick_latches : s.decideTick.io.latches = s.io.latches := by simp [State.decideTick]
@[simp] theorem State.arrive_latches (c : DoorCmd) : (s.arrive c).io.latches = s.io.latches := by simp [State.arrive]

@[simp] theorem execCloseCommand_latches (t : Nat) (d : Door) (src : CmdSrc) :
    outLatches (execCloseCommand t d src s) = some s.io.latches := by
  simp [execCloseCommand]

@[simp] theorem execOpenCommand_latches (t : Nat) (d : Door) (src : CmdSrc) :
    outLatches (execOpenCommand t d src s) = some s.io.latches := by
  simp [execOpenCommand]

@[simp] theorem execDoorReset_latches (t : Nat) (d : Door) (src : ResetSrc) : outLatches (execDoorReset t d src s) = some s.io.latches := by
  simp only [execDoorReset]
  split <;> simp

@[simp] theorem execGovernorStartTick_latches (t : Nat) (c : Ch) : outLatches (execGovernorStartTick t c s) = some s.io.latches := by
  simp only [execGovernorStartTick]
  repeat' split
  all_goals simp

@[simp] theorem execUnlockTimeout_latches (t : Nat) (d : Door) : outLatches (execUnlockTimeout t d s) = some s.io.latches := by
  simp [execUnlockTimeout]

@[simp] theorem execOpenTimeout_latches (t : Nat) (d : Door) : outLatches (execOpenTimeout t d s) = some s.io.latches := by
  simp [execOpenTimeout]

@[simp] theorem execCloseTimeout_latches (t : Nat) (d : Door) : outLatches (execCloseTimeout t d s) = some s.io.latches := by
  simp [execCloseTimeout]

@[simp] theorem execReopenHoldExpiry_latches (t : Nat) (d : Door) : outLatches (execReopenHoldExpiry t d s) = some s.io.latches := by
  simp only [execReopenHoldExpiry]
  repeat' split
  all_goals simp

@[simp] theorem execLockSwitchTimeout_latches (t : Nat) (d : Door) : outLatches (execLockSwitchTimeout t d s) = some s.io.latches := by
  simp [execLockSwitchTimeout]

@[simp] theorem execLockSettleComplete_latches (t : Nat) (d : Door) : outLatches (execLockSettleComplete t d s) = some s.io.latches := by
  simp [execLockSettleComplete]

@[simp] theorem execBackdriveCheckEnd_latches (t : Nat) (d : Door) : outLatches (execBackdriveCheckEnd t d s) = some s.io.latches := by
  simp only [execBackdriveCheckEnd]
  split
  · simp
  · split <;> simp

@[simp] theorem execLockPullComplete_latches (t : Nat) (d : Door) : outLatches (execLockPullComplete t d s) = some s.io.latches := by
  simp only [execLockPullComplete]
  repeat' split
  all_goals simp

@[simp] theorem execCycleRecordTimeout_latches (t : Nat) (d : Door) : outLatches (execCycleRecordTimeout t d s) = some s.io.latches := by
  simp [execCycleRecordTimeout]

/-! ### Drives, pairs, brakes and DV supplies -/

@[simp] theorem execWindowComparatorCrossing_latches (t : Nat) (d : Door) (leg : Fin 3) (ma : Int) :
    outLatches (execWindowComparatorCrossing t d leg ma s) = some s.io.latches := by
  simp [execWindowComparatorCrossing]

@[simp] theorem State.dwellEnd_latches (d : Door) (leg : Fin 3) : (s.dwellEnd d leg).io.latches = s.io.latches := by simp [State.dwellEnd]

@[simp] theorem execCurDwellEnd_latches (t : Nat) (d : Door) (leg : Fin 3) :
    outLatches (execCurDwellEnd t d leg s) = some s.io.latches := by
  simp [execCurDwellEnd]

@[simp] theorem execDeadTimeEnd_latches (t : Nat) (d : Door) (leg : LegId) :
    outLatches (execDeadTimeEnd t d leg s) = some s.io.latches := by
  simp only [execDeadTimeEnd]
  split <;> simp

@[simp] theorem execPwmPeriodStart_latches (t : Nat) (d : Door) : outLatches (execPwmPeriodStart t d s) = some s.io.latches := by
  simp only [execPwmPeriodStart]
  repeat' split
  all_goals simp

@[simp] theorem State.triggerOverrun_latches (d : Door) : (s.triggerOverrun d).io.latches = s.io.latches := by simp [State.triggerOverrun]

@[simp] theorem execAdcTrigger_latches (t : Nat) (d : Door) : outLatches (execAdcTrigger t d s) = some s.io.latches := by
  simp [execAdcTrigger]

@[simp] theorem execCapConversionTrigger_latches (t : Nat) : outLatches (execCapConversionTrigger t s) = some s.io.latches := by
  simp only [execCapConversionTrigger]
  split <;> simp

@[simp] theorem State.rangeFaults_latches (d : Door) (n : Nat) : (s.rangeFaults d n).io.latches = s.io.latches := by
  unfold State.rangeFaults
  split
  · rfl
  · exact foldl_latches _ _ _ fun _ _ => rfl

@[simp] theorem execAdcSequenceComplete_latches (t : Nat) (d : Door) (v : AdcResult) :
    outLatches (execAdcSequenceComplete t d v s) = some s.io.latches := by
  simp only [execAdcSequenceComplete]
  repeat' split
  all_goals simp

@[simp] theorem State.pairConducting_latches (d : Door) (phases : BitVec 3) : (s.pairConducting d phases).io.latches = s.io.latches := by
  simp [State.pairConducting]

@[simp] theorem execIsolationPairConducting_latches (t : Nat) (d : Door) (phases : BitVec 3) :
    outLatches (execIsolationPairConducting t d phases s) = some s.io.latches := by
  simp [execIsolationPairConducting]

@[simp] theorem execIsolationPairTimeout_latches (t : Nat) (d : Door) (phases : BitVec 3) :
    outLatches (execIsolationPairTimeout t d phases s) = some s.io.latches := by
  simp only [execIsolationPairTimeout]
  repeat' split
  all_goals simp

@[simp] theorem execIsolationPairsSensedClosed_latches (t : Nat) (d : Door) :
    outLatches (execIsolationPairsSensedClosed t d s) = some s.io.latches := by
  simp [execIsolationPairsSensedClosed]

@[simp] theorem State.pairsOpened_latches : s.pairsOpened.io.latches = s.io.latches := s.eachDoor_latches _ fun _ _ => rfl

@[simp] theorem execIsolationPairsSensedOpen_latches (t : Nat) : outLatches (execIsolationPairsSensedOpen t s) = some s.io.latches := by
  simp [execIsolationPairsSensedOpen]

@[simp] theorem execBrakeLimitExceeded_latches (t : Nat) (d : Door) (ma : Nat) :
    outLatches (execBrakeLimitExceeded t d ma s) = some s.io.latches := by
  simp [execBrakeLimitExceeded]

@[simp] theorem execBrakePathHoldExpiry_latches (t : Nat) (d : Door) : outLatches (execBrakePathHoldExpiry t d s) = some s.io.latches := by
  simp only [execBrakePathHoldExpiry]
  split <;> simp

@[simp] theorem State.releaseBrake_latches (d : Door) : (s.releaseBrake d).io.latches = s.io.latches := by simp [State.releaseBrake]
@[simp] theorem State.modWeir_latches (c : Ch) (f : Weir → Weir) : (s.modWeir c f).io.latches = s.io.latches := by simp [State.modWeir]

@[simp] theorem execWeirTrip_latches (t : Nat) (c : Ch) (cause : TripCause) (ma : Nat) :
    outLatches (execWeirTrip t c cause ma s) = some s.io.latches := by
  simp [execWeirTrip]

@[simp] theorem State.scheduleClear_latches (c : Ch) : (s.scheduleClear c).io.latches = s.io.latches := by simp [State.scheduleClear]

@[simp] theorem execTripClearRequest_latches (t : Nat) (c : Ch) : outLatches (execTripClearRequest t c s) = some s.io.latches := by
  simp only [execTripClearRequest]
  split
  · simp
  · repeat' split
    all_goals simp

@[simp] theorem execWeirClearEdge_latches (t : Nat) (c : Ch) (sense : WeirSense) :
    outLatches (execWeirClearEdge t c sense s) = some s.io.latches := by
  simp [execWeirClearEdge]

@[simp] theorem State.dvStop_latches (c : Ch) : (s.dvStop c).io.latches = s.io.latches := by simp [State.dvStop]
@[simp] theorem State.dvSettle_latches (d : Door) : (s.dvSettle d).io.latches = s.io.latches := by simp [State.dvSettle]

@[simp] theorem execDvUndervoltage_latches (t : Nat) (supply : Fin 2) (dv : Nat) :
    outLatches (execDvUndervoltage t supply dv s) = some s.io.latches := by
  simp [execDvUndervoltage]

@[simp] theorem State.dvTick_latches (d : Door) : (s.dvTick d).io.latches = s.io.latches := by simp [State.dvTick]

@[simp] theorem execDvRecovered_latches (t : Nat) (supply : Fin 2) : outLatches (execDvRecovered t supply s) = some s.io.latches := by
  simp [execDvRecovered]

@[simp] theorem execDvClampActive_latches (t : Nat) (supply : Fin 2) (dv : Nat) :
    outLatches (execDvClampActive t supply dv s) = some s.io.latches := by
  simp [execDvClampActive]

/-! ### Observer, bias, stall and sensitive edges -/

@[simp] theorem State.motionStart_latches (d : Door) (fresh : Bool) : (s.motionStart d fresh).io.latches = s.io.latches := by
  simp [State.motionStart]

@[simp] theorem State.motionTaken_latches (d : Door) : (s.motionTaken d).io.latches = s.io.latches := by simp [State.motionTaken]
@[simp] theorem State.storeBias_latches (d : Door) : (s.storeBias d).io.latches = s.io.latches := by simp [State.storeBias]

@[simp] theorem State.updateBias_latches (d : Door) (opening : Bool) : (s.updateBias d opening).io.latches = s.io.latches := by
  simp [State.updateBias]

@[simp] theorem State.motionEnd_latches (d : Door) (opening : Bool) : (s.motionEnd d opening).io.latches = s.io.latches := by
  simp [State.motionEnd]

@[simp] theorem State.estimate_latches (d : Door) (m : DoorMeas) : (s.estimate d m).io.latches = s.io.latches := by
  simp only [State.estimate]
  split
  · rfl
  · split <;> simp

@[simp] theorem State.detected_latches (d : Door) (opening : Bool) : (s.detected d opening).io.latches = s.io.latches := by
  simp [State.detected]

@[simp] theorem State.detect_latches (d : Door) : (s.detect d).io.latches = s.io.latches := by
  simp only [State.detect]
  split <;> simp

@[simp] theorem State.trackBias_latches (d : Door) (m : DoorMeas) : (s.trackBias d m).io.latches = s.io.latches := by
  simp only [State.trackBias]
  split <;> simp

@[simp] theorem State.plausFault_latches (d : Door) (y : Rat) : (s.plausFault d y).io.latches = s.io.latches := by simp [State.plausFault]

@[simp] theorem State.supervise_latches (d : Door) (m : DoorMeas) : (s.supervise d m).io.latches = s.io.latches := by
  simp only [State.supervise]
  split <;> simp

@[simp] theorem State.observer_latches (d : Door) (m : DoorMeas) : (s.observer d m).io.latches = s.io.latches := by simp [State.observer]

@[simp] theorem State.stallWatch_latches (d : Door) (iStep vf : Rat) : (s.stallWatch d iStep vf).io.latches = s.io.latches := by
  simp [State.stallWatch]

@[simp] theorem State.setEdgeLine_latches (ch : SafetyCh) (d : Door) (v : Bool) : (s.setEdgeLine ch d v).io.latches = s.io.latches := by
  simp [State.setEdgeLine]

@[simp] theorem State.edgeLatchTick_latches (d : Door) : (s.edgeLatchTick d).io.latches = s.io.latches := by simp [State.edgeLatchTick]

@[simp] theorem State.setEdgeFlt_latches (ch : SafetyCh) (d : Door) (v : Bool) : (s.setEdgeFlt ch d v).io.latches = s.io.latches := by
  simp [State.setEdgeFlt]

@[simp] theorem execEdgeFault_latches (t : Nat) (d : Door) (ch : SafetyCh) : outLatches (execEdgeFault t d ch s) = some s.io.latches := by
  simp only [execEdgeFault]
  split <;> simp

@[simp] theorem execEdgeFaultClear_latches (t : Nat) (d : Door) (ch : SafetyCh) :
    outLatches (execEdgeFaultClear t d ch s) = some s.io.latches := by
  simp only [execEdgeFaultClear]
  split <;> simp

/-! ### Safety function -/

@[simp] theorem State.bumpFi_latches (n : Fi) (k : Nat) : (s.bumpFi n k).io.latches = s.io.latches := by simp [State.bumpFi]
@[simp] theorem State.bumpTl_latches (n k : Nat) : (s.bumpTl n k).io.latches = s.io.latches := by simp [State.bumpTl]

@[simp] theorem State.inputFault_latches (ch : SafetyCh) (d : Door) (k : Fin 10) (old new : SFilt) :
    (s.inputFault ch d k old new).io.latches = s.io.latches := by
  simp [State.inputFault]

@[simp] theorem State.fbInputFault_latches (ch : SafetyCh) (g : Group) (old new : SFilt) :
    (s.fbInputFault ch g old new).io.latches = s.io.latches := by
  simp [State.fbInputFault]

@[simp] theorem State.sampleInputs_latches (ch : SafetyCh) (x : SafetySample) : (s.sampleInputs ch x).io.latches = s.io.latches := by
  simp [State.sampleInputs]

@[simp] theorem State.resetEdges_latches (old : State) (r : ResetInput) : (s.resetEdges old r).io.latches = s.io.latches := by
  simp [State.resetEdges]

@[simp] theorem State.watchPairs_latches (ch : SafetyCh) : (s.watchPairs ch).io.latches = s.io.latches := by simp [State.watchPairs]
@[simp] theorem State.watchEdges_latches (ch : SafetyCh) : (s.watchEdges ch).io.latches = s.io.latches := by simp [State.watchEdges]

@[simp] theorem State.requestLine_latches (ch : SafetyCh) (d : Door) (v : Bool) : (s.requestLine ch d v).io.latches = s.io.latches := by
  simp [State.requestLine]

@[simp] theorem State.takeCounts_latches : s.takeCounts.io.latches = s.io.latches := by simp [State.takeCounts]
@[simp] theorem State.dropCounts_latches : s.dropCounts.io.latches = s.io.latches := by simp [State.dropCounts]

@[simp] theorem State.watchCounts_latches : s.watchCounts.io.latches = s.io.latches := by
  refine (foldl_latches _ _ _ ?_).trans s.takeCounts_latches
  exact fun _ _ => rfl

@[simp] theorem State.watchFb_latches : s.watchFb.io.latches = s.io.latches := by simp [State.watchFb]

@[simp] theorem execFeedbackFault_latches (t : Nat) (g : Group) (ch : SafetyCh) :
    outLatches (execFeedbackFault t g ch s) = some s.io.latches := by
  simp only [execFeedbackFault]
  split <;> simp

@[simp] theorem State.energise_latches (g : Group) : (s.energise g).io.latches = s.io.latches := by simp [State.energise]
@[simp] theorem State.decideGroup_latches (g : Group) : (s.decideGroup g).io.latches = s.io.latches := by simp [State.decideGroup]
@[simp] theorem State.loopTick_latches : s.loopTick.io.latches = s.io.latches := by simp [State.loopTick]
@[simp] theorem execRunnerCycle_latches (t : Nat) : outLatches (execRunnerCycle t s) = some s.io.latches := by simp [execRunnerCycle]

@[simp] theorem execRunnerStop_latches (t : Nat) (cause : RunnerStopCause) : outLatches (execRunnerStop t cause s) = some s.io.latches := by
  simp [execRunnerStop]

@[simp] theorem execRunnerAliveLost_latches (t : Nat) : outLatches (execRunnerAliveLost t s) = some s.io.latches := by
  simp [execRunnerAliveLost]

@[simp] theorem State.endDark_latches : s.endDark.io.latches = s.io.latches := by simp [State.endDark]

@[simp] theorem execSafetyInputSample_latches (t : Nat) (runner bedstone : SafetySample) :
    outLatches (execSafetyInputSample t runner bedstone s) = some s.io.latches := by
  simp [execSafetyInputSample]

@[simp] theorem State.modSrc_latches (k : Src) (f : SrcSt → SrcSt) : (s.modSrc k f).io.latches = s.io.latches := by simp [State.modSrc]

@[simp] theorem execTestPulse_latches (t : Nat) (src : Src) : outLatches (execTestPulse t src s) = some s.io.latches := by
  simp [execTestPulse]

@[simp] theorem execPulseGridLock_latches (t : Nat) : outLatches (execPulseGridLock t s) = some s.io.latches := by
  simp only [execPulseGridLock]
  split <;> simp

@[simp] theorem execSourceFault_latches (t : Nat) (src : Src) (ch : SafetyCh) :
    outLatches (execSourceFault t src ch s) = some s.io.latches := by
  simp only [execSourceFault]
  repeat' split
  all_goals simp

@[simp] theorem execSourceRetry_latches (t : Nat) (src : Src) : outLatches (execSourceRetry t src s) = some s.io.latches := by
  simp [execSourceRetry]

@[simp] theorem State.stuckOn_latches (g : Group) (lowSide : Bool) : (s.stuckOn g lowSide).io.latches = s.io.latches := by
  simp [State.stuckOn]

@[simp] theorem State.startTestEnd_latches (g : Group) : (s.startTestEnd g).io.latches = s.io.latches := by simp [State.startTestEnd]

@[simp] theorem execOutputTest_latches (t : Nat) (g : Group) (lowSide reachedOff : Bool) :
    outLatches (execOutputTest t g lowSide reachedOff s) = some s.io.latches := by
  simp only [execOutputTest]
  repeat' split
  all_goals simp

@[simp] theorem execOutputTestMissing_latches (t : Nat) (g : Group) : outLatches (execOutputTestMissing t g s) = some s.io.latches := by
  simp [execOutputTestMissing]

@[simp] theorem execPairDiscrepancy_latches (t : Nat) (d : Door) (pair : SwitchPair) (ch : SafetyCh) :
    outLatches (execPairDiscrepancy t d pair ch s) = some s.io.latches := by
  simp only [execPairDiscrepancy]
  split <;> simp

@[simp] theorem execChannelDiscrepancy_latches (t : Nat) (d : Door) : outLatches (execChannelDiscrepancy t d s) = some s.io.latches := by
  simp only [execChannelDiscrepancy]
  split <;> simp

@[simp] theorem execReversalNotEvidenced_latches (t : Nat) (d : Door) (check : EvidenceCheck) (ch : SafetyCh) :
    outLatches (execReversalNotEvidenced t d check ch s) = some s.io.latches := by
  simp only [execReversalNotEvidenced]
  split <;> simp

@[simp] theorem State.resetRefused_latches (code : Nat) : (s.resetRefused code).io.latches = s.io.latches := by simp [State.resetRefused]

@[simp] theorem execSafetyReset_latches (t : Nat) (src : ResetInput) : outLatches (execSafetyReset t src s) = some s.io.latches := by
  simp only [execSafetyReset]
  repeat' split
  all_goals simp

@[simp] theorem execResetSourceJammed_latches (t : Nat) (src : ResetInput) :
    outLatches (execResetSourceJammed t src s) = some s.io.latches := by
  simp [execResetSourceJammed]

@[simp] theorem execResetSourceUnjammed_latches (t : Nat) (src : ResetInput) :
    outLatches (execResetSourceUnjammed t src s) = some s.io.latches := by
  simp [execResetSourceUnjammed]

/-! ### Inputs, outputs and load switches -/

@[simp] theorem State.updateRelease_latches : s.updateRelease.io.latches = s.io.latches := by simp [State.updateRelease]
@[simp] theorem State.zeroSpeedLost_latches : s.zeroSpeedLost.io.latches = s.io.latches := by simp [State.zeroSpeedLost]
@[simp] theorem State.latchInputs_latches : s.latchInputs.io.latches = s.io.latches := by simp [State.latchInputs]

@[simp] theorem execInputSample_latches (t : Nat) (x : FieldSample) : outLatches (execInputSample t x s) = some s.io.latches := by
  simp [execInputSample]

@[simp] theorem execWireBreak_latches (t : Nat) (n : Fi) : outLatches (execWireBreak t n s) = some s.io.latches := by simp [execWireBreak]

@[simp] theorem execDegradedResistor_latches (t : Nat) (n : Fi) : outLatches (execDegradedResistor t n s) = some s.io.latches := by
  simp [execDegradedResistor]

@[simp] theorem execWireBreakClear_latches (t : Nat) (n : Fi) : outLatches (execWireBreakClear t n s) = some s.io.latches := by
  simp [execWireBreakClear]

@[simp] theorem State.modStamp_latches (i : StampInput) (f : InSt → InSt) : (s.modStamp i f).io.latches = s.io.latches := by
  simp only [State.modStamp]
  split <;> simp

@[simp] theorem State.writeStamp_latches (i : StampInput) (level settle : Bool) (mill : Nat) :
    (s.writeStamp i level settle mill).io.latches = s.io.latches := by
  simp [State.writeStamp]

@[simp] theorem State.countSuppressed_latches (i : StampInput) : (s.countSuppressed i).io.latches = s.io.latches := by
  unfold State.countSuppressed
  split <;> simp

@[simp] theorem execInputEdgeStamp_latches (t : Nat) (i : StampInput) (level : Bool) :
    outLatches (execInputEdgeStamp t i level s) = some s.io.latches := by
  simp [execInputEdgeStamp]

@[simp] theorem execStampHoldoffEnd_latches (t : Nat) (i : StampInput) : outLatches (execStampHoldoffEnd t i s) = some s.io.latches := by
  simp only [execStampHoldoffEnd]
  split <;> simp

@[simp] theorem State.vdoSupply_latches (conn : Fin 4) (bad : Bool) : (s.vdoSupply conn bad).io.latches = s.io.latches := by
  simp [State.vdoSupply]

@[simp] theorem execVdoFault_latches (t : Nat) (conn : Fin 4) : outLatches (execVdoFault t conn s) = some s.io.latches := by
  simp [execVdoFault]

@[simp] theorem execVdoFaultEnd_latches (t : Nat) (conn : Fin 4) : outLatches (execVdoFaultEnd t conn s) = some s.io.latches := by
  simp [execVdoFaultEnd]

@[simp] theorem State.readbackOne_latches (r : BitVec 32) (n : Dout) : (s.readbackOne r n).io.latches = s.io.latches := by
  simp [State.readbackOne]

@[simp] theorem execDoReadbackCheck_latches (t : Nat) (readback : BitVec 32) :
    outLatches (execDoReadbackCheck t readback s) = some s.io.latches := by
  simp [execDoReadbackCheck]

@[simp] theorem execDoFault_latches (t : Nat) (n : Dout) : outLatches (execDoFault t n s) = some s.io.latches := by simp [execDoFault]
@[simp] theorem State.functionTick_latches : s.functionTick.io.latches = s.io.latches := by simp [State.functionTick]
@[simp] theorem State.bumpLs_latches (n : Ls) (k : Nat) : (s.bumpLs n k).io.latches = s.io.latches := by simp [State.bumpLs]
@[simp] theorem execLsRetry_latches (t : Nat) (n : Ls) : outLatches (execLsRetry t n s) = some s.io.latches := by simp [execLsRetry]

@[simp] theorem execLsTryCountReset_latches (t : Nat) (n : Ls) : outLatches (execLsTryCountReset t n s) = some s.io.latches := by
  simp [execLsTryCountReset]

@[simp] theorem execLsPwmPeriodStart_latches (t : Nat) (n : Ls) : outLatches (execLsPwmPeriodStart t n s) = some s.io.latches := by
  simp [execLsPwmPeriodStart]

@[simp] theorem execOpenLoad_latches (t : Nat) (n : Ls) (mean : Nat) : outLatches (execOpenLoad t n mean s) = some s.io.latches := by
  simp [execOpenLoad]

@[simp] theorem execOpenLoadClear_latches (t : Nat) (x : LeastSample) : outLatches (execOpenLoadClear t x s) = some s.io.latches := by
  simp [execOpenLoadClear]

@[simp] theorem State.modLsSup_latches (k : Fin 2) (f : LsSupply → LsSupply) : (s.modLsSup k f).io.latches = s.io.latches := by
  simp [State.modLsSup]

@[simp] theorem execLsSupplyOverLimit_latches (t : Nat) (supply : Fin 2) (ma : Nat) :
    outLatches (execLsSupplyOverLimit t supply ma s) = some s.io.latches := by
  simp [execLsSupplyOverLimit]

@[simp] theorem execLsShedStep_latches (t : Nat) (supply : Fin 2) (ma : Nat) :
    outLatches (execLsShedStep t supply ma s) = some s.io.latches := by
  simp only [execLsShedStep]
  repeat' split
  all_goals simp

@[simp] theorem execLsShedRestore_latches (t : Nat) (x : SupplyPeak) : outLatches (execLsShedRestore t x s) = some s.io.latches := by
  simp [execLsShedRestore]

/-! ### The buses and the telegrams -/

@[simp] theorem State.establish_latches (b : BusId) (st : BState) (cand : Nat) (g : TimingCfg) :
    (s.establish b st cand g).io.latches = s.io.latches := by
  simp [State.establish]

@[simp] theorem State.startDetection_latches (b : BusId) : (s.startDetection b).io.latches = s.io.latches := by simp [State.startDetection]
@[simp] theorem State.startBus_latches (b : BusId) : (s.startBus b).io.latches = s.io.latches := by simp [State.startBus]

@[simp] theorem execBusCandidateTimeout_latches (t : Nat) (b : BusId) : outLatches (execBusCandidateTimeout t b s) = some s.io.latches := by
  simp only [execBusCandidateTimeout]
  repeat' split
  all_goals simp

@[simp] theorem execBusRateAdopted_latches (t : Nat) (b : BusId) : outLatches (execBusRateAdopted t b s) = some s.io.latches := by
  simp [execBusRateAdopted]

@[simp] theorem execBusFallbackTiming_latches (t : Nat) (b : BusId) : outLatches (execBusFallbackTiming t b s) = some s.io.latches := by
  simp [execBusFallbackTiming]

@[simp] theorem State.setErrors_latches (b : BusId) (tec rec_ : Nat) : (s.setErrors b tec rec_).io.latches = s.io.latches := by
  simp [State.setErrors]

@[simp] theorem execBusError_latches (t : Nat) (b : BusId) (tec rec_ : Nat) :
    outLatches (execBusError t b tec rec_ s) = some s.io.latches := by
  simp [execBusError]

@[simp] theorem State.goBusOff_latches (b : BusId) : (s.goBusOff b).io.latches = s.io.latches := by simp [State.goBusOff]
@[simp] theorem execBusOff_latches (t : Nat) (b : BusId) : outLatches (execBusOff t b s) = some s.io.latches := by simp [execBusOff]

@[simp] theorem execFrameReceived_latches (t : Nat) (b : BusId) (f : Frame) :
    outLatches (execFrameReceived t b f s) = some s.io.latches := by
  simp only [execFrameReceived]
  repeat' split
  all_goals simp

@[simp] theorem State.discardObject_latches (b : BusId) (k : Fin 128) : (s.discardObject b k).io.latches = s.io.latches := by
  simp [State.discardObject]

@[simp] theorem State.readObject_latches (b : BusId) (k : Fin 128) (x : HopRead) : (s.readObject b k x).2.io.latches = s.io.latches := by
  rcases s.readObject_cases b k x with ⟨h, -⟩ | ⟨h, -⟩ | ⟨n, h, -⟩ | ⟨n, h, -⟩ <;> simp [h]

@[simp] theorem State.readGroup_latches (b : BusId) (k : Nat) (x : HopRead) : (s.readGroup b k x).2.io.latches = s.io.latches := by
  unfold State.readGroup
  split <;> simp

@[simp] theorem State.txError_latches (b : BusId) : (s.txError b).io.latches = s.io.latches := by simp [State.txError]

@[simp] theorem State.txTries_latches (b : BusId) (lost errors : Nat) : (s.txTries b lost errors).io.latches = s.io.latches := by
  simp only [State.txTries]
  rw [foldl_latches _ _ _ fun s _ => s.txError_latches b]
  exact foldl_latches _ _ _ fun _ _ => rfl

@[simp] theorem execFrameTransmitted_latches (t : Nat) (b : BusId) (x : HopSent) (lost errors : Nat) :
    outLatches (execFrameTransmitted t b x lost errors s) = some s.io.latches := by
  simp [execFrameTransmitted]

@[simp] theorem execObjectWithdrawn_latches (t : Nat) (b : BusId) (obj : Fin 128) :
    outLatches (execObjectWithdrawn t b obj s) = some s.io.latches := by
  simp [execObjectWithdrawn]

@[simp] theorem State.takeRelease_latches (l r : Bool) : (s.takeRelease l r).io.latches = s.io.latches := by simp [State.takeRelease]

@[simp] theorem State.beginCommands_latches (x : DoorTelegram) : (s.beginCommands x).io.latches = s.io.latches := by
  simp [State.beginCommands]

@[simp] theorem State.answerBaseline_latches (x : DoorTelegram) : (s.answerBaseline x).io.latches = s.io.latches := by
  simp [State.answerBaseline]

@[simp] theorem State.acceptTelegram_latches (x : DoorTelegram) (arrival : Nat) :
    (s.acceptTelegram x arrival).io.latches = s.io.latches := by
  simp [State.acceptTelegram]

@[simp] theorem State.decideTelegram_latches (l : List Byte) (arrival : Nat) : (s.decideTelegram l arrival).io.latches = s.io.latches := by
  simp only [State.decideTelegram]
  repeat' split
  all_goals simp

@[simp] theorem State.copiesAgree_latches : s.copiesAgree.io.latches = s.io.latches := by simp [State.copiesAgree]
@[simp] theorem State.copiesDiffer_latches : s.copiesDiffer.io.latches = s.io.latches := by simp [State.copiesDiffer]

@[simp] theorem State.takeCopy_latches (b : BusId) (l : List Byte) (arrival : Nat) :
    (s.takeCopy b l arrival).io.latches = s.io.latches := by
  simp only [State.takeCopy]
  repeat' split
  all_goals simp

@[simp] theorem execSafeTelegramCopy_latches (t : Nat) (b : BusId) (x : HopAt 4) :
    outLatches (execSafeTelegramCopy t b x s) = some s.io.latches := by
  simp only [execSafeTelegramCopy]
  repeat' split
  all_goals simp

@[simp] theorem execTelegramCopyTimeout_latches (t : Nat) (b : BusId) : outLatches (execTelegramCopyTimeout t b s) = some s.io.latches := by
  simp only [execTelegramCopyTimeout]
  split
  · rfl
  · refine congrArg some ((foldl_latches _ _ _ ?_).trans ?_)
    · exact fun _ _ => rfl
    · split <;> simp

@[simp] theorem execCommandTelegramsLost_latches (t : Nat) : outLatches (execCommandTelegramsLost t s) = some s.io.latches := by
  simp [execCommandTelegramsLost]

@[simp] theorem execSingleBusModeEnter_latches (t : Nat) : outLatches (execSingleBusModeEnter t s) = some s.io.latches := by
  simp [execSingleBusModeEnter]

@[simp] theorem execSingleBusModeLeave_latches (t : Nat) : outLatches (execSingleBusModeLeave t s) = some s.io.latches := by
  simp [execSingleBusModeLeave]

@[simp] theorem State.setOutputs_latches (dv dst : BitVec 32) (lv lst : BitVec 48) :
    (s.setOutputs dv dst lv lst).io.latches = s.io.latches := by
  simp [State.setOutputs]

@[simp] theorem State.answerOutput_latches (cmdNo : BitVec 8) (code : Nat) : (s.answerOutput cmdNo code).io.latches = s.io.latches := by
  simp [State.answerOutput]

@[simp] theorem execOutputCommand_latches (t : Nat) (b : BusId) (x : HopAt 4) :
    outLatches (execOutputCommand t b x s) = some s.io.latches := by
  simp only [execOutputCommand]
  repeat' split
  all_goals simp

@[simp] theorem execGroupStatusTelegram_latches (t : Nat) : outLatches (execGroupStatusTelegram t s) = some s.io.latches := by
  simp [execGroupStatusTelegram]

@[simp] theorem State.sendPage_latches (k : Fin 17) (id : Nat) (l : List Byte) : (s.sendPage k id l).io.latches = s.io.latches := by
  simp [State.sendPage]

@[simp] theorem execStatusPageSend_latches (t : Nat) : outLatches (execStatusPageSend t s) = some s.io.latches := by
  simp [execStatusPageSend]

/-! ### Slots, laws, captures and live writes -/

@[simp] theorem State.applyPending_latches (c : Ch) : (s.applyPending c).io.latches = s.io.latches := by
  simp only [State.applyPending]
  split <;> simp

@[simp] theorem State.updateAngle_latches (d : Door) : (s.updateAngle d).io.latches = s.io.latches := by simp [State.updateAngle]
@[simp] theorem State.commandTravel_latches (c : Ch) : (s.commandTravel c).io.latches = s.io.latches := by simp [State.commandTravel]

@[simp] theorem State.armTick_latches (d : Door) : (s.armTick d).io.latches = s.io.latches := by
  simp only [State.armTick]
  split
  · simp
  · split <;> simp

@[simp] theorem State.latchMode_latches (c : Ch) : (s.latchMode c).io.latches = s.io.latches := by
  simp only [State.latchMode]
  split
  · simp
  · simp
    repeat' split
    all_goals simp

@[simp] theorem State.measureSpeed_latches (c : Ch) : (s.measureSpeed c).io.latches = s.io.latches := by simp [State.measureSpeed]

@[simp] theorem State.bumpRecord_latches (c : Ch) (outgoing : Rat) (b : Nat × Rat) :
    (s.bumpRecord c outgoing b).io.latches = s.io.latches := by
  simp [State.bumpRecord]

@[simp] theorem State.reversePhase_latches (d : Door) : (s.reversePhase d).io.latches = s.io.latches := by simp [State.reversePhase]
@[simp] theorem State.stage_latches (c : Ch) (v : Staged) : (s.stage c v).io.latches = s.io.latches := by simp [State.stage]

@[simp] theorem State.doorSlot_latches (d : Door) (i : Currents) : (s.doorSlot d i).io.latches = s.io.latches := by
  simp only [State.doorSlot]
  repeat' split
  all_goals simp

@[simp] theorem State.stepLaw_latches (d : Door) (iStep : Rat) (vset : Rat) : (s.stepLaw d iStep vset).io.latches = s.io.latches := by
  simp [State.stepLaw]

@[simp] theorem State.stepSlot_latches (d : Door) (i : Currents) : (s.stepSlot d i).io.latches = s.io.latches := by
  simp only [State.stepSlot]
  split <;> simp

@[simp] theorem State.registerParity_latches (c : Ch) : (s.registerParity c).io.latches = s.io.latches := by simp [State.registerParity]

@[simp] theorem State.account_latches (c : Ch) (k : SlotClass) (cycles : Nat) : (s.account c k cycles).io.latches = s.io.latches := by
  simp [State.account]

@[simp] theorem State.disarm_latches (c : Ch) (k : SlotClass) : (s.disarm c k).io.latches = s.io.latches := by simp [State.disarm]

@[simp] theorem State.runSlot_latches (x : TickIn) (c : Ch) : (State.runSlot x s c).io.latches = s.io.latches := by
  simp only [State.runSlot]
  repeat' split
  all_goals simp

@[simp] theorem State.ownedTick_latches (c : Ch) : (s.ownedTick c).io.latches = s.io.latches := by simp [State.ownedTick]

@[simp] theorem State.transfer_latches (x : TickIn) (c : Ch) : (State.transfer x s c).io.latches = s.io.latches := by
  unfold State.transfer
  generalize (if c.isStep then 3 else 2 : Fin 12) = k
  dsimp only
  split
  · rfl
  · split
    · rfl
    · split
      · simp
      · split
        · simp
        · split
          · refine (foldl_latches _ _ _ ?_).trans rfl
            exact fun _ _ => rfl
          · simp
          · simp

@[simp] theorem execStagingAcknowledge_latches (t : Nat) (c : Ch) : outLatches (execStagingAcknowledge t c s) = some s.io.latches := by
  simp [execStagingAcknowledge]

@[simp] theorem State.prepareSignal_latches (r : InjectReq) (n : Nat) : (s.prepareSignal r n).io.latches = s.io.latches := by
  simp [State.prepareSignal]

@[simp] theorem State.captureCheck_latches : s.captureCheck.io.latches = s.io.latches := by
  simp only [State.captureCheck]
  split <;> simp

@[simp] theorem State.captureSample_latches (r : InjectReq) : (s.captureSample r).io.latches = s.io.latches := by simp [State.captureSample]

@[simp] theorem State.captureTick_latches : s.captureTick.io.latches = s.io.latches := by
  simp only [State.captureTick]
  split <;> simp

@[simp] theorem execCaptureEnd_latches (t : Nat) : outLatches (execCaptureEnd t s) = some s.io.latches := by
  simp only [execCaptureEnd]
  split <;> simp

@[simp] theorem State.injectDoor_latches (m : Msg) (r : InjectReq) : (s.injectDoor m r).io.latches = s.io.latches := by
  simp [State.injectDoor]

@[simp] theorem execInject_latches (t : Nat) (m : Msg) (payload : List Byte) :
    outLatches (execInject t m payload s) = some s.io.latches := by
  simp only [execInject]
  split
  · exact next_tally_latches fun _ _ => rfl
  · exact next_tallyDoor_latches fun s => by split <;> simp

@[simp] theorem execLiveWrite_latches (t : Nat) (m : Msg) (c : Ch) (offset : Nat) (value : BitVec 32) :
    outLatches (execLiveWrite t m c offset value s) = some s.io.latches := by
  simp [execLiveWrite]

@[simp] theorem State.endCheck_latches : s.endCheck.io.latches = s.io.latches := by simp [State.endCheck]

@[simp] theorem execLiveWriteCheckTimeout_latches (t : Nat) : outLatches (execLiveWriteCheckTimeout t s) = some s.io.latches := by
  simp only [execLiveWriteCheckTimeout]
  split <;> simp

@[simp] theorem State.liveCheckResult_latches (ok : Bool) : (s.liveCheckResult ok).io.latches = s.io.latches := by
  simp only [State.liveCheckResult]
  split <;> simp

@[simp] theorem execAlignComplete_latches (t : Nat) (d : Door) : outLatches (execAlignComplete t d s) = some s.io.latches := by
  simp only [execAlignComplete]
  repeat' split
  all_goals simp

/-! ### Calibrations, the store and the Millpond -/

@[simp] theorem State.finishJournal_latches : s.finishJournal.io.latches = s.io.latches := by
  cases h : s.journal <;> simp [State.finishJournal, h]

@[simp] theorem State.programSector_latches : s.programSector.io.latches = s.io.latches := by simp [State.programSector]

@[simp] theorem State.writeMirror_latches (d : Door) (c : CalRec) : (s.writeMirror d c).io.latches = s.io.latches := by
  simp [State.writeMirror]

@[simp] theorem State.writeBookCal_latches (d : Door) (c : CalRec) : (s.writeBookCal d c).io.latches = s.io.latches := by
  simp [State.writeBookCal]

@[simp] theorem State.withoutCal_latches (d : Door) : (s.withoutCal d).io.latches = s.io.latches := by simp [State.withoutCal]

@[simp] theorem State.selectCal_latches (d : Door) : (s.selectCal d).io.latches = s.io.latches := by
  simp only [State.selectCal]
  split <;> simp

@[simp] theorem State.takeUpCal_latches (d : Door) (c : CalRec) : (s.takeUpCal d c).io.latches = s.io.latches := by simp [State.takeUpCal]

@[simp] theorem State.tenterOutcome_latches (d : Door) (code rms mass : Nat) :
    (s.tenterOutcome d code rms mass).io.latches = s.io.latches := by
  simp [State.tenterOutcome]

@[simp] theorem State.finishCommit_latches (d : Door) (c : CalRec) : (s.finishCommit d c).io.latches = s.io.latches := by
  simp [State.finishCommit]

@[simp] theorem State.takeUpTick_latches (d : Door) : (s.takeUpTick d).io.latches = s.io.latches := by
  simp only [State.takeUpTick]
  repeat' split
  all_goals simp

@[simp] theorem State.commitCal_latches (d : Door) (c : CalRec) : (s.commitCal d c).io.latches = s.io.latches := by
  simp only [State.commitCal]
  split
  · simp
    refine (foldl_latches _ _ _ ?_).trans (by simp)
    exact fun _ _ => rfl
  · simp

@[simp] theorem State.store_latches (r : Record) : (s.store r).io.latches = s.io.latches := by
  simp only [State.store]
  repeat' split
  all_goals simp

@[simp] theorem State.storeAll_latches (l : List Record) : (s.storeAll l).io.latches = s.io.latches := by simp [State.storeAll]
@[simp] theorem State.checkpoint_latches : s.checkpoint.io.latches = s.io.latches := by simp [State.checkpoint]
@[simp] theorem State.dropItem_latches (cause : Nat) : (s.dropItem cause).io.latches = s.io.latches := by simp [State.dropItem]
@[simp] theorem State.intakeMark_latches : s.intakeMark.io.latches = s.io.latches := by simp [State.intakeMark]
@[simp] theorem State.takeIn_latches (r : Record) : (s.takeIn r).io.latches = s.io.latches := by simp [State.takeIn]

@[simp] theorem State.startFlush_latches (c : FlushCause) : (s.startFlush c).io.latches = s.io.latches := by
  simp only [State.startFlush]
  split <;> simp

@[simp] theorem State.flushTrigger_latches : s.flushTrigger.io.latches = s.io.latches := by simp [State.flushTrigger]
@[simp] theorem State.intakeTick_latches : s.intakeTick.io.latches = s.io.latches := by simp [State.intakeTick]
@[simp] theorem State.endFlush_latches (n : Nat) : (s.endFlush n).io.latches = s.io.latches := by simp [State.endFlush]
@[simp] theorem execFlushPeriodic_latches (t : Nat) : outLatches (execFlushPeriodic t s) = some s.io.latches := by simp [execFlushPeriodic]

@[simp] theorem execFlushComplete_latches (t : Nat) : outLatches (execFlushComplete t s) = some s.io.latches := by
  simp only [execFlushComplete]
  split <;> simp

@[simp] theorem execCheckpointWrite_latches (t : Nat) : outLatches (execCheckpointWrite t s) = some s.io.latches := by
  simp [execCheckpointWrite]

@[simp] theorem execTokenBucketRefill_latches (t : Nat) (code : Nat) : outLatches (execTokenBucketRefill t code s) = some s.io.latches := by
  simp [execTokenBucketRefill]

@[simp] theorem State.traceDoor_latches (d : Door) : (s.traceDoor d).io.latches = s.io.latches := by simp [State.traceDoor]
@[simp] theorem State.traceTick_latches : s.traceTick.io.latches = s.io.latches := by simp [State.traceTick]

@[simp] theorem State.powerFlush_latches : s.powerFlush.io.latches = s.io.latches := by
  simp only [State.powerFlush]
  rw [State.checkpoint_latches]
  refine (foldl_latches _ _ _ fun _ _ => ?_).trans ?_
  · simp
  · refine (State.storeAll_latches _ _).trans ((foldl_latches _ _ _ ?_).trans rfl)
    exact fun _ _ => rfl

@[simp] theorem State.declareFail_latches : s.declareFail.io.latches = s.io.latches := by simp [State.declareFail]
@[simp] theorem State.pondLeft_latches (old : PondState) : (s.pondLeft old).io.latches = s.io.latches := by simp [State.pondLeft]

@[simp] theorem execPowerFailDeclared_latches (x : LvLow) : outLatches (execPowerFailDeclared x s) = some s.io.latches := by
  simp only [execPowerFailDeclared]
  split
  · rfl
  · simp

@[simp] theorem execLvDipRiddenThrough_latches (t : Nat) (us : Nat) : outLatches (execLvDipRiddenThrough t us s) = some s.io.latches := by
  simp [execLvDipRiddenThrough]

@[simp] theorem State.setPond_latches (p : PondState) : (s.setPond p).io.latches = s.io.latches := by simp [State.setPond]
@[simp] theorem State.fitPond_latches (afterAbsence : Bool) : (s.fitPond afterAbsence).io.latches = s.io.latches := by simp [State.fitPond]

@[simp] theorem execMillpondFitted_latches (t : Nat) : outLatches (execMillpondFitted t s) = some s.io.latches := by
  simp [execMillpondFitted]

@[simp] theorem execMillpondPresenceOpen_latches (t : Nat) (cause : AbsentCause) :
    outLatches (execMillpondPresenceOpen t cause s) = some s.io.latches := by
  simp only [execMillpondPresenceOpen]
  split
  · rfl
  · split <;> simp

@[simp] theorem State.startPondTest_latches (by_ : Option Msg) : (s.startPondTest by_).io.latches = s.io.latches := by
  simp [State.startPondTest]

@[simp] theorem execMillpondCharged_latches (t : Nat) : outLatches (execMillpondCharged t s) = some s.io.latches := by
  simp [execMillpondCharged]

@[simp] theorem execMillpondPeriodicTest_latches (t : Nat) : outLatches (execMillpondPeriodicTest t s) = some s.io.latches := by
  simp [execMillpondPeriodicTest]

@[simp] theorem execMillpondTest_latches (t : Nat) (m : Msg) : outLatches (execMillpondTest t m s) = some s.io.latches := by
  simp [execMillpondTest]

@[simp] theorem execMillpondTestComplete_latches (t : Nat) (uf mohm : Nat) :
    outLatches (execMillpondTestComplete t uf mohm s) = some s.io.latches := by
  simp [execMillpondTestComplete]

@[simp] theorem execMillpondVoltageChange_latches (t : Nat) (mv : Nat) :
    outLatches (execMillpondVoltageChange t mv s) = some s.io.latches := by
  simp [execMillpondVoltageChange]

@[simp] theorem execMillpondReplacementDue_latches (t : Nat) : outLatches (execMillpondReplacementDue t s) = some s.io.latches := by
  simp only [execMillpondReplacementDue]
  split <;> simp

@[simp] theorem State.scanStore_latches : s.scanStore.io.latches = s.io.latches := by simp [State.scanStore]

@[simp] theorem execMillbookRefreshScan_latches (t : Nat) : outLatches (execMillbookRefreshScan t s) = some s.io.latches := by
  simp [execMillbookRefreshScan]

/-! ### Plug, identity and key area, Tentering -/

@[simp] theorem State.verifySlot_latches (b : Bool) : (s.verifySlot b).2.io.latches = s.io.latches := by
  simp only [State.verifySlot]
  split <;> simp

@[simp] theorem State.setWriting_latches (b : Bool) (v : Option Nat) : (s.setWriting b v).io.latches = s.io.latches := by
  simp [State.setWriting]

@[simp] theorem State.leaveCopy_latches (k : Fin 2) (l : List Byte) : (s.leaveCopy k l).io.latches = s.io.latches := by
  simp [State.leaveCopy]

@[simp] theorem State.writeCopy_latches (k : Fin 2) (l : List Byte) : (s.writeCopy k l).io.latches = s.io.latches := by
  simp [State.writeCopy]

@[simp] theorem State.updateIdentity_latches (f : List Byte → List Byte) : (s.updateIdentity f).io.latches = s.io.latches := by
  unfold State.updateIdentity
  split <;> simp

@[simp] theorem State.openSector_latches (off : Nat) : (s.openSector off).io.latches = s.io.latches := by simp [State.openSector]
@[simp] theorem State.regionDone_latches (r : Fin 4) : (s.regionDone r).io.latches = s.io.latches := by simp [State.regionDone]

@[simp] theorem execRefreshSector_latches (t : Nat) : outLatches (execRefreshSector t s) = some s.io.latches := by
  unfold execRefreshSector
  dsimp only
  split
  · rfl
  · split
    · rfl
    · simp only [outLatches_next]
      rw [State.openSector_latches]
      rfl

@[simp] theorem State.refreshTick_latches : s.refreshTick.io.latches = s.io.latches := by
  simp only [State.refreshTick]
  split <;> simp

@[simp] theorem State.modTenter_latches (f : Tenter → Tenter) : (s.modTenter f).io.latches = s.io.latches := by simp [State.modTenter]

@[simp] theorem execTenterStart_latches (t : Nat) (m : Msg) (d : Door) : outLatches (execTenterStart t m d s) = some s.io.latches :=
  next_tallyDoor_latches fun s => by split <;> simp

@[simp] theorem State.tenterHome_latches (d : Door) : (s.tenterHome d).io.latches = s.io.latches := by simp [State.tenterHome]
@[simp] theorem State.tenterLock_latches (d : Door) : (s.tenterLock d).io.latches = s.io.latches := by simp [State.tenterLock]

@[simp] theorem State.tenterAbort_latches (x : Tenter) (code : Nat) : (s.tenterAbort x code).io.latches = s.io.latches := by
  simp only [State.tenterAbort]
  split
  · simp
  · split <;> simp

@[simp] theorem State.tenterTakeover_latches : s.tenterTakeover.io.latches = s.io.latches := by simp [State.tenterTakeover]

@[simp] theorem execTenterStop_latches (t : Nat) (m : Msg) (d : Door) : outLatches (execTenterStop t m d s) = some s.io.latches :=
  next_tallyDoor_latches fun s => by split <;> simp

@[simp] theorem State.tenterSample_latches (x : Tenter) (high : Bool) : (s.tenterSample x high).io.latches = s.io.latches := by
  simp [State.tenterSample]

@[simp] theorem State.tenterCompute_latches (x : Tenter) : (s.tenterCompute x).io.latches = s.io.latches := by
  simp only [State.tenterCompute]
  split <;> simp

@[simp] theorem State.tenterPassEnd_latches (x : Tenter) (high : Bool) : (s.tenterPassEnd x high).io.latches = s.io.latches := by
  simp [State.tenterPassEnd]

@[simp] theorem State.tenterTick_latches : s.tenterTick.io.latches = s.io.latches := by
  simp only [State.tenterTick]
  repeat' split
  all_goals simp

@[simp] theorem execTenterRunEnd_latches (t : Nat) : outLatches (execTenterRunEnd t s) = some s.io.latches := by
  simp only [execTenterRunEnd]
  repeat' split
  all_goals simp

/-! ### Calendar time -/

@[simp] theorem State.selectSrc_latches (x : TimeSrc) : (s.selectSrc x).io.latches = s.io.latches := by simp [State.selectSrc]

@[simp] theorem State.timeReview_latches : s.timeReview.io.latches = s.io.latches := by
  simp only [State.timeReview]
  split <;> simp

@[simp] theorem execTimeSourceInvalid_latches (t : Nat) : outLatches (execTimeSourceInvalid t s) = some s.io.latches := by
  simp [execTimeSourceInvalid]

@[simp] theorem execBusOffRecovery_latches (t : Nat) (b : BusId) : outLatches (execBusOffRecovery t b s) = some s.io.latches := by
  unfold execBusOffRecovery
  dsimp only
  split <;> simp

@[simp] theorem State.stepCalendar_latches (o : Int) (code : Nat) : (s.stepCalendar o code).io.latches = s.io.latches := by
  simp [State.stepCalendar]

@[simp] theorem State.treatOffset_latches (o : Int) : (s.treatOffset o).io.latches = s.io.latches := by
  simp only [State.treatOffset]
  split
  · rfl
  · split
    · split <;> simp
    · rfl

@[simp] theorem State.boundary_latches (x : TimeSrc) (o : Int) : (s.boundary x o).io.latches = s.io.latches := by simp [State.boundary]

@[simp] theorem execTimeReference_latches (t : Nat) (b : BusId) (x : HopAt 4) (sof : Nat) :
    outLatches (execTimeReference t b x sof s) = some s.io.latches := by
  simp only [execTimeReference]
  repeat' split
  all_goals simp

/-! ### The pair -/

@[simp] theorem State.modPair_latches (f : Pair → Pair) : (s.modPair f).io.latches = s.io.latches := by simp [State.modPair]
@[simp] theorem State.setPState_latches (p : PState) : (s.setPState p).io.latches = s.io.latches := rfl
@[simp] theorem State.standbyState_latches : s.standbyState.io.latches = s.io.latches := by simp [State.standbyState]
@[simp] theorem State.takeTokenDrive_latches : s.takeTokenDrive.io.latches = s.io.latches := by simp [State.takeTokenDrive]
@[simp] theorem State.aloneToken_latches : s.aloneToken.io.latches = s.io.latches := by simp [State.aloneToken]
@[simp] theorem State.notFormed_latches (cause : Nat) : (s.notFormed cause).io.latches = s.io.latches := by simp [State.notFormed]
@[simp] theorem State.formPair_latches : s.formPair.io.latches = s.io.latches := by simp [State.formPair]
@[simp] theorem State.becomeActive_latches : s.becomeActive.io.latches = s.io.latches := by simp [State.becomeActive]

@[simp] theorem execIdentityFrameSend_latches (t : Nat) : outLatches (execIdentityFrameSend t s) = some s.io.latches := by
  simp [execIdentityFrameSend]

@[simp] theorem execIdentityFrame_latches (t : Nat) (f : IdFrame) : outLatches (execIdentityFrame t f s) = some s.io.latches := by
  simp only [execIdentityFrame]
  repeat' split
  all_goals simp

@[simp] theorem execPairFormation_latches (t : Nat) : outLatches (execPairFormation t s) = some s.io.latches := by simp [execPairFormation]

@[simp] theorem State.withdrawMsg_latches (m : CesilMsg) : (s.withdrawMsg m).io.latches = s.io.latches := by
  simp only [State.withdrawMsg]
  split <;> simp

@[simp] theorem State.loadMsg_latches (m : CesilMsg) (dl : Option Nat) : (s.loadMsg m dl).io.latches = s.io.latches := by
  simp only [State.loadMsg]
  split <;> simp

@[simp] theorem State.loadSent_latches : s.loadSent.io.latches = s.io.latches := by simp [State.loadSent]

@[simp] theorem State.takeUpSend_latches (d : Door) : (s.takeUpSend d).io.latches = s.io.latches := by
  simp only [State.takeUpSend]
  split <;> simp

@[simp] theorem State.sendActive_latches : s.sendActive.io.latches = s.io.latches := by simp [State.sendActive]
@[simp] theorem State.sendBack_latches : s.sendBack.io.latches = s.io.latches := by simp [State.sendBack]
@[simp] theorem State.fantailTick_latches : s.fantailTick.io.latches = s.io.latches := by simp [State.fantailTick]

@[simp] theorem State.followCycle_latches (d : Door) (e : DoorEntry) : (s.followCycle d e).io.latches = s.io.latches := by
  simp [State.followCycle]

@[simp] theorem State.followSlot_latches (d : Door) (e : DoorEntry) : (s.followSlot d e).io.latches = s.io.latches := by
  simp [State.followSlot]

@[simp] theorem State.followStep_latches (d : Door) (e : StepEntry) : (s.followStep d e).io.latches = s.io.latches := by
  simp [State.followStep]

@[simp] theorem State.comparePos_latches (d : Door) (e : DoorEntry) : (s.comparePos d e).io.latches = s.io.latches := by
  simp [State.comparePos]

@[simp] theorem State.followDoor_latches (f : ActiveFrame) (d : Door) : (State.followDoor f s d).io.latches = s.io.latches := by
  simp [State.followDoor]

@[simp] theorem State.compareDoor_latches (f : ActiveFrame) (d : Door) : (State.compareDoor f s d).io.latches = s.io.latches := by
  simp [State.compareDoor]

@[simp] theorem State.followCommand_latches (f : ActiveFrame) : (s.followCommand f).io.latches = s.io.latches := by
  simp [State.followCommand]

@[simp] theorem State.followStream_latches : s.followStream.io.latches = s.io.latches := by
  simp only [State.followStream]
  split <;> simp

@[simp] theorem State.trackStream_latches : s.trackStream.io.latches = s.io.latches := by
  simp only [State.trackStream]
  split <;> simp

@[simp] theorem State.splitTick_latches : s.splitTick.io.latches = s.io.latches := by simp [State.splitTick]

@[simp] theorem State.takeChunk_latches (d : Door) (k : Fin 16) (bytes : List Byte) :
    (s.takeChunk d k bytes).io.latches = s.io.latches := by
  simp [State.takeChunk]

@[simp] theorem State.takeUpMsg_latches (d : Door) (tick : BitVec 32) : (s.takeUpMsg d tick).io.latches = s.io.latches := by
  simp only [State.takeUpMsg]
  repeat' split
  all_goals simp

@[simp] theorem State.noteSeq_latches (o : Nat) (data : List Byte) : (s.noteSeq o data).io.latches = s.io.latches := by
  unfold State.noteSeq
  repeat' split
  all_goals rfl

@[simp] theorem State.takeMsg_latches (m : CesilMsg) : (s.takeMsg m).io.latches = s.io.latches := by
  simp only [State.takeMsg]
  split <;> simp

@[simp] theorem State.partnerTime_latches (f : ActiveFrame) (mill : Nat) : (s.partnerTime f mill).io.latches = s.io.latches := by
  simp [State.partnerTime]

@[simp] theorem State.failedFrame_latches (broken : Bool) : (s.failedFrame broken).io.latches = s.io.latches := by simp [State.failedFrame]

@[simp] theorem execActiveFrameReceived_latches (t : Nat) (x : FrameEnd) (f : ActiveFrame) :
    outLatches (execActiveFrameReceived t x f s) = some s.io.latches := by
  simp [execActiveFrameReceived]

@[simp] theorem execCalibrationTakeUp_latches (t : Nat) (d : Door) : outLatches (execCalibrationTakeUp t d s) = some s.io.latches := by
  simp [execCalibrationTakeUp]

@[simp] theorem State.standbyCal_latches (old new : BackFrame) : (s.standbyCal old new).io.latches = s.io.latches := by
  simp [State.standbyCal]

@[simp] theorem State.standbySplit_latches (old new : BackFrame) : (s.standbySplit old new).io.latches = s.io.latches := by
  simp [State.standbySplit]

@[simp] theorem execBackFrameReceived_latches (t : Nat) (x : FrameEnd) (f : BackFrame) :
    outLatches (execBackFrameReceived t x f s) = some s.io.latches := by
  simp only [execBackFrameReceived]
  repeat' split
  all_goals simp

@[simp] theorem execStreamLost_latches (t : Nat) : outLatches (execStreamLost t s) = some s.io.latches := by simp [execStreamLost]

@[simp] theorem execStreamRegained_latches (t : Nat) : outLatches (execStreamRegained t s) = some s.io.latches := by
  simp [execStreamRegained]

@[simp] theorem State.requestHandover_latches : s.requestHandover.io.latches = s.io.latches := by simp [State.requestHandover]
@[simp] theorem State.arbiterHandover_latches : s.arbiterHandover.io.latches = s.io.latches := by simp [State.arbiterHandover]

@[simp] theorem execPlannedHandover_latches (t : Nat) : outLatches (execPlannedHandover t s) = some s.io.latches := by
  simp [execPlannedHandover]

@[simp] theorem execReadySymbol_latches (t : Nat) : outLatches (execReadySymbol t s) = some s.io.latches := by
  unfold execReadySymbol
  dsimp only
  split
  · rfl
  · split
    · have h (s : State) : (s.eachDoor fun s d => (s.openPairs d).bridgeOff d.step).io.latches = s.io.latches :=
        s.eachDoor_latches _ fun s d => by simp
      split <;> split <;> simp [h]
    · split <;> simp

@[simp] theorem State.arbTick_latches : s.arbTick.io.latches = s.io.latches := by simp [State.arbTick]

@[simp] theorem execArbiterDesignation_latches (t : Nat) (arb1 arb2 : Bool) :
    outLatches (execArbiterDesignation t arb1 arb2 s) = some s.io.latches := by
  simp [execArbiterDesignation]

@[simp] theorem execArbiterDesignationInvalid_latches (t : Nat) : outLatches (execArbiterDesignationInvalid t s) = some s.io.latches := by
  simp [execArbiterDesignationInvalid]

@[simp] theorem State.takeoverEnds_latches : s.takeoverEnds.io.latches = s.io.latches := by
  unfold State.takeoverEnds
  dsimp only
  refine (State.eachCh_latches _ _ ?_).trans ?_
  · exact fun _ _ => rfl
  · split <;> simp

@[simp] theorem State.resumeDoor_latches (d : Door) : (s.resumeDoor d).io.latches = s.io.latches := by
  simp only [State.resumeDoor]
  repeat' split
  all_goals simp

@[simp] theorem State.resumeStep_latches (d : Door) : (s.resumeStep d).io.latches = s.io.latches := by
  simp only [State.resumeStep]
  repeat' split
  all_goals simp

@[simp] theorem State.regrant_latches (d : Door) : (s.regrant d).io.latches = s.io.latches := by
  simp only [State.regrant]
  repeat' split
  all_goals simp

@[simp] theorem State.takeoverRecord_latches (d : Door) (code : Nat) : (s.takeoverRecord d code).io.latches = s.io.latches := by
  simp [State.takeoverRecord]

@[simp] theorem State.hotDoor_latches (d : Door) : (s.hotDoor d).io.latches = s.io.latches := by simp [State.hotDoor]
@[simp] theorem State.coldStep_latches (d : Door) : (s.coldStep d).io.latches = s.io.latches := by simp [State.coldStep]
@[simp] theorem State.coldDoor_latches (d : Door) : (s.coldDoor d).io.latches = s.io.latches := by simp [State.coldDoor]

@[simp] theorem State.streamOutputs_latches (f : ActiveFrame) : (s.streamOutputs f).io.latches = s.io.latches := by
  unfold State.streamOutputs
  dsimp only
  refine (State.eachDoor_latches _ _ fun s d => ?_).trans
    ((foldl_latches _ _ _ ?_).trans (foldl_latches _ _ _ ?_))
  · split
    · simp
    · rfl
  · exact fun s n => s.modLs_latches n _ fun _ => rfl
  · exact fun _ _ => rfl

@[simp] theorem State.advanceSeq_latches : s.advanceSeq.io.latches = s.io.latches := by simp [State.advanceSeq]

@[simp] theorem State.takeover_latches (kind : Nat) : (s.takeover kind).io.latches = s.io.latches := by
  unfold State.takeover
  extract_lets s0 mis s1 s2 s3 code s4 s5 s6 s7 s8
  have h0 : s0.io.latches = s.io.latches := by
    simp only [s0]
    split
    · split <;> simp
    · simp
  have h5 : s5.io.latches = s.io.latches := by simp [s5, s4, s3, s2, s1, h0]
  have h6 : s6.io.latches = s.io.latches := by
    simp only [s6]
    split <;> simp [h5]
  have h8 : s8.io.latches = s.io.latches := by
    refine (State.eachDoor_latches _ _ fun s d => ?_).trans ((State.eachCh_latches _ _ fun s d => ?_).trans h6)
    · split
      · rfl
      · extract_lets s1
        split <;> simp [s1]
    · rfl
  simp [h8]

@[simp] theorem execTokenInReleased_latches (t : Nat) : outLatches (execTokenInReleased t s) = some s.io.latches := by
  simp only [execTokenInReleased]
  split
  · rfl
  · split
    · simp
    · simp
    · simp
    · simp
    · rfl

@[simp] theorem State.outgoingDoor_latches (d : Door) : (s.outgoingDoor d).io.latches = s.io.latches := by simp [State.outgoingDoor]

@[simp] theorem execTokenAssertDelayEnd_latches (t : Nat) : outLatches (execTokenAssertDelayEnd t s) = some s.io.latches := by
  simp [execTokenAssertDelayEnd]

/-! ### Sluice commands, sessions and maintenance -/

@[simp] theorem execHeartbeatWrite_latches (t : Nat) : outLatches (execHeartbeatWrite t s) = some s.io.latches := by
  simp [execHeartbeatWrite]

@[simp] theorem State.sluiceLoss_latches : s.sluiceLoss.io.latches = s.io.latches := by simp [State.sluiceLoss]

@[simp] theorem execSluiceHeartbeatLoss_latches (t : Nat) : outLatches (execSluiceHeartbeatLoss t s) = some s.io.latches := by
  simp [execSluiceHeartbeatLoss]

@[simp] theorem execSafeStateRequest_latches (t : Nat) (ch : SafetyCh) : outLatches (execSafeStateRequest t ch s) = some s.io.latches := by
  unfold execSafeStateRequest
  dsimp only
  generalize (match ch with | .runner => 0 | .bedstone => 1) = b
  split <;> simp

@[simp] theorem State.dropDatagram_latches : s.dropDatagram.io.latches = s.io.latches := by simp [State.dropDatagram]
@[simp] theorem State.serviceLost_latches (d : Door) : (s.serviceLost d).io.latches = s.io.latches := by simp [State.serviceLost]

@[simp] theorem execServiceTokenLost_latches (t : Nat) (d : Door) : outLatches (execServiceTokenLost t d s) = some s.io.latches := by
  simp [execServiceTokenLost]

@[simp] theorem State.freeDoorTok_latches (d : Door) : (s.freeDoorTok d).io.latches = s.io.latches := by simp [State.freeDoorTok]

@[simp] theorem State.freeModuleTok_latches : s.freeModuleTok.io.latches = s.io.latches := by
  simp only [State.freeModuleTok]
  split <;> simp

@[simp] theorem State.endSession_latches (id : BitVec 32) : (s.endSession id).io.latches = s.io.latches := by simp [State.endSession]

@[simp] theorem execOpenSession_latches (t : Nat) (nonce : List Byte) : outLatches (execOpenSession t nonce s) = some s.io.latches := by
  simp [execOpenSession]

@[simp] theorem execCloseSession_latches (t : Nat) (m : Msg) : outLatches (execCloseSession t m s) = some s.io.latches := by
  simp [execCloseSession, State.replyThen_latches]

@[simp] theorem execSessionTimeout_latches (t : Nat) (session : BitVec 32) :
    outLatches (execSessionTimeout t session s) = some s.io.latches := by
  simp only [execSessionTimeout]
  split <;> simp

@[simp] theorem execTagFailure_latches (t : Nat) (session : BitVec 32) : outLatches (execTagFailure t session s) = some s.io.latches := by
  simp only [execTagFailure]
  repeat' split
  all_goals simp

@[simp] theorem execTokenTake_latches (t : Nat) (m : Msg) (k : Token) : outLatches (execTokenTake t m k s) = some s.io.latches :=
  next_tally_latches fun s _ => by
    split
    · split <;> simp
    · split
      · simp
      · split <;> simp

@[simp] theorem execTokenRelease_latches (t : Nat) (m : Msg) (k : Token) : outLatches (execTokenRelease t m k s) = some s.io.latches :=
  next_tally_latches fun s _ => by split <;> simp

@[simp] theorem execReadWords_latches (t : Nat) (m : Msg) (addr : BitVec 32) (count : Nat) :
    outLatches (execReadWords t m addr count s) = some s.io.latches := by
  simp [execReadWords]

@[simp] theorem State.storeUncorrectable_latches : s.storeUncorrectable.io.latches = s.io.latches := by simp [State.storeUncorrectable]

@[simp] theorem execReadRecords_latches (t : Nat) (m : Msg) (x : StoreRead) (first : BitVec 48) (limit : Nat) :
    outLatches (execReadRecords t m x first limit s) = some s.io.latches := by
  simp [execReadRecords]

@[simp] theorem execReadStamps_latches (t : Nat) (m : Msg) (n : Nat) : outLatches (execReadStamps t m n s) = some s.io.latches :=
  next_tally_latches fun s _ => by split <;> simp

@[simp] theorem execReadHopper_latches (t : Nat) (m : Msg) (b : BusId) (x : HopAt 128) :
    outLatches (execReadHopper t m b x s) = some s.io.latches :=
  next_tally_latches fun s _ => by
    split
    · simp
    · dsimp only
      split <;> simp

@[simp] theorem execReadCapture_latches (t : Nat) (m : Msg) (first count : Nat) :
    outLatches (execReadCapture t m first count s) = some s.io.latches := by
  simp [execReadCapture]

@[simp] theorem execMaintStatus_latches (t : Nat) (m : Msg) : outLatches (execMaintStatus t m s) = some s.io.latches :=
  next_tally_latches fun s _ => by simp

@[simp] theorem State.refuseService_latches (m : Msg) (d : Door) (code : Nat) : (s.refuseService m d code).io.latches = s.io.latches := by
  simp [State.refuseService]

@[simp] theorem State.moves_latches (code : Nat) (m : Msg) (d : Door) (body : State → State)
    (h : ∀ s, (body s).io.latches = s.io.latches) : (s.moves code m d body).io.latches = s.io.latches := by
  simp [State.moves, h]

@[simp] theorem execServiceEnter_latches (t : Nat) (m : Msg) (d : Door) : outLatches (execServiceEnter t m d s) = some s.io.latches := by
  simp [execServiceEnter]

@[simp] theorem execServiceLeave_latches (t : Nat) (m : Msg) (d : Door) : outLatches (execServiceLeave t m d s) = some s.io.latches := by
  simp [execServiceLeave]

@[simp] theorem State.jogDoor_latches (d : Door) (v : Int) : (s.jogDoor d v).io.latches = s.io.latches := by simp [State.jogDoor]

@[simp] theorem execJog_latches (t : Nat) (m : Msg) (c : Ch) (speed : Int) : outLatches (execJog t m c speed s) = some s.io.latches := by
  simp [execJog]

@[simp] theorem execBackdriveTest_latches (t : Nat) (m : Msg) (d : Door) : outLatches (execBackdriveTest t m d s) = some s.io.latches := by
  simp [execBackdriveTest]

@[simp] theorem execSlotWrite_latches (t : Nat) (m : Msg) (slotB : Bool) (offset : Nat) (data : List Byte) :
    outLatches (execSlotWrite t m slotB offset data s) = some s.io.latches :=
  next_tally_latches fun s _ => by
    split
    · simp
    · split <;> simp

@[simp] theorem execSlotRead_latches (t : Nat) (m : Msg) (slotB : Bool) (offset len : Nat) :
    outLatches (execSlotRead t m slotB offset len s) = some s.io.latches := by
  simp [execSlotRead]

@[simp] theorem execSlotVerify_latches (t : Nat) (m : Msg) (slotB : Bool) :
    outLatches (execSlotVerify t m slotB s) = some s.io.latches := by
  simp [execSlotVerify]

@[simp] theorem execSlotWriteIdleTimeout_latches (t : Nat) (slotB : Bool) :
    outLatches (execSlotWriteIdleTimeout t slotB s) = some s.io.latches := by
  simp only [execSlotWriteIdleTimeout]
  split <;> simp

@[simp] theorem execPlugRemoved_latches (t : Nat) : outLatches (execPlugRemoved t s) = some s.io.latches := by simp [execPlugRemoved]

@[simp] theorem execPlugRefitted_latches (t : Nat) (content : List (Nat × Byte)) :
    outLatches (execPlugRefitted t content s) = some s.io.latches := by
  simp [execPlugRefitted]

@[simp] theorem State.restartInputs_latches (d : Door) : (s.restartInputs d).io.latches = s.io.latches := by
  refine (foldl_latches _ _ _ ?_)
  exact fun _ _ => rfl

@[simp] theorem State.reloadSlot_latches (c : Ch) : (s.reloadSlot c).io.latches = s.io.latches := by simp [State.reloadSlot]
@[simp] theorem State.reloadDoor_latches (d : Door) : (s.reloadDoor d).io.latches = s.io.latches := by simp [State.reloadDoor]

@[simp] theorem State.loadSections_latches (v : SlotView) (d : Door) (bucket : Bool) :
    (s.loadSections v d bucket).io.latches = s.io.latches := by
  simp [State.loadSections]

@[simp] theorem State.referenceDoor_latches (d : Door) : (s.referenceDoor d).io.latches = s.io.latches := by simp [State.referenceDoor]

@[simp] theorem execDoorwayRestartComplete_latches (t : Nat) (d : Door) :
    outLatches (execDoorwayRestartComplete t d s) = some s.io.latches := by
  unfold execDoorwayRestartComplete
  dsimp only
  split
  · rfl
  · split <;> simp

@[simp] theorem execSwitchoverTest_latches (t : Nat) (m : Msg) : outLatches (execSwitchoverTest t m s) = some s.io.latches := by
  simp [execSwitchoverTest]

@[simp] theorem execCalendarSet_latches (t : Nat) (m : Msg) (sec : BitVec 32) (us : Nat) :
    outLatches (execCalendarSet t m sec us s) = some s.io.latches := by
  simp [execCalendarSet]

@[simp] theorem execIdentityRead_latches (t : Nat) (m : Msg) (copy : Fin 2) (offset len : Nat) :
    outLatches (execIdentityRead t m copy offset len s) = some s.io.latches := by
  simp [execIdentityRead]

@[simp] theorem execKeyAreaStage_latches (t : Nat) (m : Msg) (offset : Nat) (data : List Byte) :
    outLatches (execKeyAreaStage t m offset data s) = some s.io.latches :=
  next_tally_latches fun s _ => by split <;> simp

@[simp] theorem execKeyStageTimeout_latches (t : Nat) (session : BitVec 32) :
    outLatches (execKeyStageTimeout t session s) = some s.io.latches := by
  simp only [execKeyStageTimeout]
  split <;> simp

@[simp] theorem execBucketProgramParity_latches (t : Nat) (d : Door) (role : Fin 12) :
    outLatches (execBucketProgramParity t d role s) = some s.io.latches := by
  simp [execBucketProgramParity]

@[simp] theorem execMillerRamDoubleError_latches (t : Nat) : outLatches (execMillerRamDoubleError t s) = some s.io.latches := by
  simp [execMillerRamDoubleError]

@[simp] theorem execArpAndIcmpEcho_latches (t : Nat) : outLatches (execArpAndIcmpEcho t s) = some s.io.latches := by
  simp [execArpAndIcmpEcho]

@[simp] theorem execFragmentedDatagram_latches (t : Nat) : outLatches (execFragmentedDatagram t s) = some s.io.latches := by
  simp [execFragmentedDatagram]

/-! ### Acceptance and the mill tick -/

@[simp] theorem State.firstState_latches (d : Door) : (s.firstState d).io.latches = s.io.latches := by simp [State.firstState]
@[simp] theorem State.startNetworks_latches : s.startNetworks.io.latches = s.io.latches := by simp [State.startNetworks]

@[simp] theorem execConfigurationAccepted_latches (t : Nat) : outLatches (execConfigurationAccepted t s) = some s.io.latches := by
  simp [execConfigurationAccepted]

@[simp] theorem State.latchModes_latches : s.latchModes.io.latches = s.io.latches := by simp [State.latchModes]

@[simp] theorem State.housekeep_latches (x : TickIn) : (s.housekeep x).io.latches = s.io.latches := by
  refine (foldl_latches _ _ _ ?_).trans (foldl_latches _ _ _ ?_) <;> exact fun _ _ => rfl

@[simp] theorem State.emptyPeriod_latches (x : TickIn) : (s.emptyPeriod x).io.latches = s.io.latches := by simp [State.emptyPeriod]
@[simp] theorem State.millstone_latches (x : TickIn) : (s.millstone x).io.latches = s.io.latches := by simp [State.millstone]

@[simp] theorem State.driveTick_latches (x : TickIn) : (s.driveTick x).io.latches = s.io.latches := by
  simp only [State.driveTick]
  rw [State.measureDemand_latches]
  refine (foldl_latches _ _ _ ?_).trans ?_
  · exact fun _ _ => rfl
  · simp

@[simp] theorem State.millerTick_latches : s.millerTick.io.latches = s.io.latches := by simp [State.millerTick]
@[simp] theorem State.period_latches (x : TickIn) : (s.period x).io.latches = s.io.latches := by simp [State.period]
@[simp] theorem State.phase0_latches : s.phase0.io.latches = s.io.latches := by simp [State.phase0]
@[simp] theorem State.lvTick_latches (low : Bool) : (s.lvTick low).io.latches = s.io.latches := by simp [State.lvTick]
@[simp] theorem execMillTick_latches (x : TickIn) : outLatches (execMillTick x s) = some s.io.latches := by simp [execMillTick]

/-! ## Commands that may end in a restart

The start-up leaves the Sluice as the reset left it. -/

@[simp] theorem ite_sluice (c : Prop) {_ : Decidable c} (a b : State) :
    (if c then a else b).sluice = if c then a.sluice else b.sluice := by split <;> rfl

theorem foldl_sluice {α : Type} (l : List α) (f : State → α → State) (h : ∀ s a, (f s a).sluice = s.sluice) :
    (l.foldl f s).sluice = s.sluice :=
  foldl_keep State.sluice f l h s

@[simp] theorem State.finishJournal_sluice : s.finishJournal.sluice = s.sluice := by
  cases h : s.journal <;> simp [State.finishJournal, h]

@[simp] theorem State.readIdentity_sluice : s.readIdentity.sluice = s.sluice := by
  unfold State.readIdentity
  split <;> rfl

@[simp] theorem State.verifySlot_sluice (b : Bool) : (s.verifySlot b).2.sluice = s.sluice := by
  simp only [State.verifySlot]
  split <;> simp

@[simp] theorem State.slotEvents_sluice : s.slotEvents.sluice = s.sluice := by simp [State.slotEvents]

@[simp] theorem State.startFlush_sluice (c : FlushCause) : (s.startFlush c).sluice = s.sluice := by
  simp only [State.startFlush]
  split <;> simp

@[simp] theorem State.flushTrigger_sluice : s.flushTrigger.sluice = s.sluice := by simp [State.flushTrigger]

@[simp] theorem State.setPond_sluice (p : PondState) : (s.setPond p).sluice = s.sluice := by simp [State.setPond]

@[simp] theorem State.startPond_sluice (b : Bool) : (s.startPond b).sluice = s.sluice := by
  simp [State.startPond, State.fitPond]

@[simp] theorem State.journalEvent_sluice (e : Option Nat) : (s.journalEvent e).sluice = s.sluice := by
  unfold State.journalEvent
  split <;> simp

@[simp] theorem State.incompletes_sluice : s.incompletes.sluice = s.sluice :=
  foldl_sluice _ _ _ fun s r => by simp

@[simp] theorem State.writeMirror_sluice (d : Door) (c : CalRec) : (s.writeMirror d c).sluice = s.sluice := by
  simp [State.writeMirror, State.programSector]

@[simp] theorem State.selectCal_sluice (d : Door) : (s.selectCal d).sluice = s.sluice := by
  simp only [State.selectCal]
  split <;> simp [State.writeBookCal, State.withoutCal]

@[simp] theorem State.loadRegisters_sluice : s.loadRegisters.sluice = s.sluice := by
  refine (foldl_sluice _ _ _ fun s d => ?_).trans (foldl_sluice _ _ _ fun _ _ => rfl)
  dsimp only
  split <;> simp

@[simp] theorem State.latchBlock_sluice : s.latchBlock.sluice = s.sluice := by simp [State.latchBlock]

@[simp] theorem State.bootSlot_sluice (b f : Bool) : (s.bootSlot b f).sluice = s.sluice := by simp [State.bootSlot]

@[simp] theorem State.driveAll_sluice : s.driveAll.sluice = s.sluice :=
  (foldl_sluice _ _ _ fun s n => by simp).trans (foldl_sluice _ _ _ fun s n => by simp)

@[simp] theorem State.aloneToken_sluice : s.aloneToken.sluice = s.sluice := by simp [State.aloneToken, State.takeTokenDrive]

theorem State.startSteps_sluice (b : Bool) : (s.startSteps b).sluice = s.sluice := by
  unfold State.startSteps
  extract_lets _ _ s0 entry s1 pick s2 gen slotNo fallNo s3 s4
  have h1 : s1.sluice = s.sluice := by simp [s1, s0]
  have h2 : s2.sluice = s.sluice := by
    simp only [s2]
    clear_value pick
    split <;> simp [State.takeImage, h1]
  have h4 : s4.sluice = s.sluice := by simp [s4, s3, h2]
  clear_value s4 pick
  split <;> simp [h4]

theorem State.renew_restarted : s.renew.restarted := ⟨rfl, rfl⟩

theorem State.unpowered_restarted : s.unpowered.restarted := ⟨rfl, rfl⟩

theorem State.restartModule_restarted : s.restartModule.restarted := State.renew_restarted _

theorem State.finishSwitch_restarted : s.finishSwitch.restarted := State.restartModule_restarted _

variable {s}

/-- The latches as they were, or a restart. -/
def LatchesOrRestart (s u : State) : Prop := u.io.latches = s.io.latches ∨ u.restarted

theorem State.replyThen_restarted {m : Msg} {f : State → State} (h : (f s).restarted) : (s.replyThen m f).restarted := h

theorem execPowerOnReset_restarted {b : BootIn} {s u : State} (h : execPowerOnReset b s = .next u) : u.restarted := by
  unfold execPowerOnReset at h
  have h0 : (if s.maint.step = 1 && !s.maint.failed then s.renew else s.unpowered).restarted := by
    split
    · exact s.renew_restarted
    · exact s.unpowered_restarted
  generalize (if s.maint.step = 1 && !s.maint.failed then s.renew else s.unpowered) = r at h0 h
  dsimp only at h
  split at h
  · cases h
    simpa [State.restarted, State.openBook] using h0
  · cases h
    simpa [State.restarted, State.startSteps_sluice, State.openBook] using h0

theorem execPowerFailHoldEnd_latchesOrRestart {t : Nat} {c : HoldEnd} {u : State} (h : execPowerFailHoldEnd t c s = .next u) :
    LatchesOrRestart s u := by
  simp only [execPowerFailHoldEnd] at h
  split at h
  · cases h
    cases c
    · exact .inr (State.unpowered_restarted _)
    · exact .inr (State.renew_restarted _)
  · cases h
    exact .inl rfl

theorem execImageSwitch_latchesOrRestart {t : Nat} {m : Msg} {u : State} (h : execImageSwitch t m s = .next u) :
    LatchesOrRestart s u := by
  cases h
  refine State.tally_induct (fun u hu => .inl hu) fun u x (hu : _ = s.io.latches) => ?_
  split
  · exact .inl (by simp [hu])
  · split
    · exact .inl (by simp [hu])
    · dsimp only
      split
      · exact .inl (by simp [hu])
      · split
        · exact .inl (by simp [hu])
        · exact .inr (State.replyThen_restarted (State.finishSwitch_restarted _))

theorem State.commitCopy_latchesOrRestart (m : Msg) (l : List Byte) : LatchesOrRestart s (s.commitCopy m l) := by
  unfold State.commitCopy
  dsimp only
  split
  · exact .inr (State.replyThen_restarted (State.restartModule_restarted _))
  · exact .inl (by simp)

theorem execKeyAreaCommit_latchesOrRestart {t : Nat} {m : Msg} {k : CommitKey} {sig : List Byte} {u : State}
    (h : execKeyAreaCommit t m k sig s = .next u) : LatchesOrRestart s u := by
  cases h
  refine State.tally_induct (fun u hu => .inl hu) fun u x (hu : _ = s.io.latches) => ?_
  dsimp only
  split
  · exact .inl (by simp [hu])
  · exact .inl (by simp [hu])
  · exact (State.commitCopy_latchesOrRestart m _).imp_left fun h => h.trans (by simp [hu])

theorem State.outgoing_latchesOrRestart (k : Nat) : LatchesOrRestart s (s.outgoing k) := by
  unfold State.outgoing
  extract_lets s1 s2 _ s3 again s4
  have h2 : s2.io.latches = s.io.latches :=
    (State.eachDoor_latches _ _ State.outgoingDoor_latches).trans (by simp [s1])
  have h4 : s4.io.latches = s.io.latches := by simp [s4, s3, h2]
  clear_value s4
  split
  · exact .inr s4.finishSwitch_restarted
  · exact .inl h4

theorem execTokenInAsserted_latchesOrRestart {t : Nat} {u : State} (h : execTokenInAsserted t s = .next u) :
    LatchesOrRestart s u := by
  unfold execTokenInAsserted at h
  have h0 : (((s.at t).modPair fun p => { p with tokIn := true }).eachDoor fun s d => s.dropBrake d).io.latches =
      s.io.latches :=
    State.eachDoor_latches _ _ fun _ _ => rfl
  generalize (((s.at t).modPair fun p => { p with tokIn := true }).eachDoor fun s d => s.dropBrake d) = r at h h0
  revert h
  extract_lets s1 tie s2
  clear_value tie
  split
  · intro h
    left
    split at h <;> rw [← Host.Outcome.next.inj h] <;> simp [s2, s1, h0]
  · split <;> intro h <;> rw [← Host.Outcome.next.inj h]
    · exact (State.outgoing_latchesOrRestart _).imp (·.trans h0) id
    · left
      split <;> simp [s1, h0]

/-! ## Overcurrent and the restart of a doorway -/

/-- An overcurrent event can only set a latch, that of its own switch (R255). -/
theorem execLsOvercurrent_latches {t : Nat} {x : LimitSpell} :
    outLatches (execLsOvercurrent t x s) = some s.io.latches ∨
      outLatches (execLsOvercurrent t x s) = some (s.io.latches.set x.n.1 true) := by
  simp only [execLsOvercurrent]
  split
  · simp
  · split
    · simp
    · split
      · simp
      · split
        · simp
        · right
          simp [State.modLs_latches_set]

theorem Door.ls_door (d : Door) (k : Fin 3) : (d.ls k).door = d := Fin.ext (show (3 * d.1 + k.1) / 3 = d.1 by omega)

/-- A held doorway releases none but its own latches. -/
theorem State.holdOutputs_latches_other {d : Door} {n : Ls} (h : n.door ≠ d) :
    (s.holdOutputs d).io.latches[n.1] = s.io.latches[n.1] := by
  unfold State.holdOutputs
  extract_lets s1 s2
  have h1 : s1.io.latches = s.io.latches := foldl_latches _ _ _ fun _ _ => rfl
  have h2 : s2.io.latches[n.1] = s1.io.latches[n.1] :=
    foldl_keep (fun s : State => s.io.latches[n.1]) _ _
      (fun s k => s.modLs_latches_other (n := d.ls k) fun e => h (e ▸ Door.ls_door d k)) _
  simp [h2, h1]

theorem execDoorwayRestart_latches_other {t : Nat} {m : Msg} {d : Door} {b : Bool} {n : Ls} {u : State} (hn : n.door ≠ d)
    (h : execDoorwayRestart t m d b s = .next u) : u.io.latches[n.1] = s.io.latches[n.1] := by
  cases h
  unfold State.tallyDoor
  refine State.tally_induct (P := fun u => u.io.latches[n.1] = s.io.latches[n.1]) (fun u hu => by rw [hu]; rfl)
    fun u x (hu : _ = s.io.latches) => ?_
  split
  · simp [hu]
  · split
    · simp [hu]
    · dsimp only
      split
      · simp [hu]
      · split
        · simp [hu]
        · split
          · simp [hu]
          · simp [hu, State.holdOutputs_latches_other hn]

end

/-! ## R256 -/

/-- The commands looked at by name: a Tally clear, a doorway restart, an overcurrent, and what may restart the module. -/
def reachesLatches : Instr → Bool
  | .clearStatus .. | .doorwayRestart .. | .lsOvercurrent .. | .powerOnReset .. | .powerFailHoldEnd .. | .imageSwitch ..
  | .keyAreaCommit .. | .tokenInAsserted .. => true
  | _ => false

theorem exec_latches (c : Instr) (s : State) (hc : reachesLatches c = false) : outLatches (exec c s) = some s.io.latches := by
  cases c with
  | clearStatus | doorwayRestart | lsOvercurrent | powerOnReset | powerFailHoldEnd | imageSwitch | keyAreaCommit
  | tokenInAsserted => cases hc
  | _ => simp [exec]

/-- A latch that is kept by a command that did not restart the module is not released by it. -/
theorem LatchesOrRestart.restarted {s u : State} {n : Ls} (h : LatchesOrRestart s u) (hs : s.io.ls[n.1].latched = true)
    (hu : u.io.ls[n.1].latched = false) : u.restarted := by
  rcases h with h | h
  · have hn := congrArg (·[n.1]) h
    simp [hs, hu] at hn
  · exact h

theorem exec_latchesOrRestart {c : Instr} {s u : State} (hc : reachesLatches c = false) (h : exec c s = .next u) :
    LatchesOrRestart s u := by
  have := exec_latches c s hc
  rw [h] at this
  exact .inl (Option.some.inj this)

/-- Settles O9: a Tally clear and a doorway restart are named by the statement, an overcurrent event only sets a latch, what
may restart the module keeps the latches unless it does, and every other command keeps them. -/
theorem latchedSwitchReleasedOnly : Obligations.LatchedSwitchReleasedOnly := by
  unfold Obligations.LatchedSwitchReleasedOnly
  intro c s u n h hs hu
  cases hc : reachesLatches c with
  | false => exact .inr (.inr ((exec_latchesOrRestart hc h).restarted hs hu))
  | true =>
    cases c with
    | clearStatus t m w mask => exact .inl ⟨t, m, w, mask, rfl⟩
    | doorwayRestart t m d b =>
      by_cases hn : n.door = d
      · exact .inr (.inl ⟨t, m, b, by rw [hn]⟩)
      · have := execDoorwayRestart_latches_other hn h
        simp [hs, hu] at this
    | lsOvercurrent t x =>
      have h : outLatches (execLsOvercurrent t x s) = some u.io.latches := congrArg outLatches h
      rcases execLsOvercurrent_latches (s := s) (t := t) (x := x) with e | e <;>
        have hn := congrArg (·[n.1]) (Option.some.inj (h.symm.trans e))
      · simp [hs, hu] at hn
      · simp [hs, hu, Vector.getElem_set] at hn
    | powerOnReset b => exact .inr (.inr (execPowerOnReset_restarted h))
    | powerFailHoldEnd t k => exact .inr (.inr ((execPowerFailHoldEnd_latchesOrRestart h).restarted hs hu))
    | imageSwitch t m => exact .inr (.inr ((execImageSwitch_latchesOrRestart h).restarted hs hu))
    | keyAreaCommit t m k sig => exact .inr (.inr ((execKeyAreaCommit_latchesOrRestart h).restarted hs hu))
    | tokenInAsserted t => exact .inr (.inr ((execTokenInAsserted_latchesOrRestart h).restarted hs hu))
    | _ => cases hc

end Sys2Proof.Machine

end
